-- ==== Sys2Proof/Word.lean ====
section
/-!
DEFINITION. The machine's words (R16: little endian everywhere) and the types that name a place in the module.
-/
namespace Sys2Proof

/-- One byte of any memory of the module. -/
abbrev Byte := BitVec 8
/-- A 32-bit lane of a vector register, a completion counter, one half of a register (R33, R177, R18). -/
abbrev Lane := BitVec 32
/-- A scalar register, a predicate register, an MRS register, a global address (R33, R17, R159). -/
abbrev Word := BitVec 64

/-- The bits `hi` down to `lo` of a word, as a number. -/
def Word.field (w : Word) (hi lo : Nat) : Nat := (w.toNat / 2 ^ lo) % 2 ^ (hi + 1 - lo)

/-- `n` bytes of `w`, least significant first (R16). -/
def bytesOf (n w : Nat) : List Byte :=
  (List.range n).map fun i => BitVec.ofNat 8 (w / 2 ^ (8 * i))

/-- The number that bytes spell, least significant first (R16). -/
def ofBytes : List Byte → Nat
  | [] => 0
  | b :: bs => b.toNat + 256 * ofBytes bs

/-- A core slot of the module: its tower and its core number, row x 16 + slot (R3). -/
structure CoreId where
  tower : Fin 8
  core : Fin 256
  deriving DecidableEq, Repr

/-- A context of a tower: one thread of one core (R9, R33). -/
structure Ctx where
  tower : Fin 8
  core : Fin 256
  thread : Fin 8
  deriving DecidableEq, Repr

/-- The core a context runs on. -/
def Ctx.coreId (c : Ctx) : CoreId := ⟨c.tower, c.core⟩

/-- The 16-bit context id: endpoint, core and thread (R9). -/
def Ctx.id (c : Ctx) : Nat := c.tower.val * 2048 + c.core.val * 8 + c.thread.val

/-- The place of a core among the 2,048 slots. -/
def CoreId.index (k : CoreId) : Nat := k.tower.val * 256 + k.core.val

end Sys2Proof
end

