-- ==== Sys2Proof/Syntax.lean ====
section
/-!
DEFINITION. The commands the block takes: the issue of an instruction by a thread, the arrival of a packet, the passing
of a moment the spec names, an access of a port. Quantities that come from outside the module are operands.
-/
namespace Sys2Proof

/-- Scalar, vector, predicate, counter and tile register numbers (R33). -/
abbrev XReg := Fin 32
abbrev VReg := Fin 32
abbrev PReg := Fin 8
abbrev KReg := Fin 64
abbrev TReg := Fin 4
/-- An endpoint of the base: towers 0-7, memory ports 8-15, X-chiplets 16-21, control chiplets 22 and 23 (R8). -/
abbrev Endpoint := Fin 24

/-- The condition codes of `vcmp` (R127). -/
inductive Cond where
  | eq | ne | lt | le | gt | ge | un | ord
  deriving DecidableEq, Repr

/-- A unit the UART tests (R433). -/
inductive TestUnit where
  | memoryPort (m : Fin 8)
  | plane (p : Fin 16)
  | tower (t : Fin 8)
  deriving DecidableEq, Repr

/-- A die that a scan chain reaches (R432). -/
inductive Die where
  | compute (t : Fin 8)
  | vault (t : Fin 8)
  | memoryPort (m : Fin 8)
  | xChiplet (x : Fin 6)
  | control (c1 : Bool)
  deriving DecidableEq, Repr

/-- A packet: the fields of its head flit that the module reads, and its data bytes (R167). -/
structure Packet where
  op : Nat
  sub : Nat
  knum : Nat
  ken : Bool
  db : Bool
  tries : Nat
  gw : Bool
  srcCtx : Nat
  seq : Nat
  kctx : Nat
  srcModule : Nat
  srcInc : Nat
  addr : Word
  operand : Word
  data : List Byte
  deriving DecidableEq, Repr

/-- A lane: base lane (s, d, p), or lane j of an external fibre pair 4x + f (R238, R288). -/
inductive LaneId where
  | base (s d : Endpoint) (p : Fin 16)
  | ext (pair : Fin 24) (j : Fin 32)
  deriving DecidableEq, Repr

/-- A base link flit from `src` to `dst` (R244). -/
structure LinkFlit where
  src : Endpoint
  dst : Endpoint
  half : Fin 2
  down : BitVec 16
  resync : BitVec 16
  init : BitVec 16
  reqFreed : List Nat
  rspFreed : List Nat
  deriving DecidableEq, Repr

/-- A link flit received on an external fibre pair (R291). -/
structure ExtLinkFlit where
  pair : Fin 24
  quarter : Fin 4
  down : BitVec 8
  resync : BitVec 8
  init : BitVec 8
  pairState : Fin 4
  srcModule : Nat
  reqFreed : List Nat
  rspFreed : List Nat
  deriving DecidableEq, Repr

/-- Where a link flit goes: to an endpoint of the base, for a half of the planes (R245), or out on a fibre pair of its X-chiplet, for a quarter
of the pair's lanes (R291). -/
inductive LinkTo where
  | base (dst : Endpoint)
  | fibre (pair : Fin 24)
  deriving DecidableEq, Repr

/-- An external link flit as it arrives: the flit, and the credit loop in ns that it closes, where it closes one (R291, R292). -/
structure ExtArrival where
  flit : ExtLinkFlit
  trip : Option Nat
  deriving DecidableEq, Repr

/-- A slot of a channel: its number, and whether the channel's device leaves it without an answer (R314, R317). -/
structure SlotTurn where
  number : Nat
  silent : Bool
  deriving DecidableEq, Repr

/-- A core turn of a vault bank: the vault cycle, and the bits that the bonds of its group turn in it, none while they are sound (R323, R332). -/
structure CoreTurn where
  number : Nat
  flips : List (Fin 288)
  deriving DecidableEq, Repr

/-- What stage S2 found of the channels: those trained cold, and those whose training failed (R311, R436). -/
structure TrainedChannels where
  cold : List (Fin 288)
  lost : List (Fin 288)
  deriving DecidableEq, Repr

/-- What stage S2 found beside the channels: the lanes measured against the commission limit, and how many other units fell back to cold work
(R283, R438). -/
structure TrainedUnits where
  lanes : List (LaneId × Nat × Nat)
  fallbacks : Nat
  deriving DecidableEq, Repr

/-- What stage S3 found short: cores, and bonds by tower and group (R332, R436). -/
structure FailedTests where
  cores : List CoreId
  bonds : List (Fin 8 × Fin 512 × Fin 288)
  deriving DecidableEq, Repr

/-- Why a stage fails: no VCORE feed became ACTIVE within 50 ms of its enable, or the stage fell short or overran; `fell` tells whether a unit of
it had fallen back to cold work, which gives it the cold bound (R436, R438). -/
inductive StageFailure where
  | noFeed
  | stage (fell : Bool)
  deriving DecidableEq, Repr

/-- A frame between gateways: its head's fields and the packets that follow (R196). -/
structure Frame where
  number : Nat
  srcModule : Nat
  srcGw : Nat
  dstModule : Nat
  dstGw : Nat
  packets : Nat
  flits : Nat
  body : List Packet
  deriving DecidableEq, Repr

/-- What a sweep found of one ring: the heater code of its resonance at the present temperature, its heater slope in codes per 100 GHz, and
how many steps the sweep took (R285). -/
structure RingFix where
  lane : LaneId
  tx : Bool
  code : Fin 65536
  slope : Int
  steps : Nat
  deriving DecidableEq, Repr


/-- A path by which registers are read and written (R19, R395): host ports A and B, the management port, the register windows
of the control chiplets. -/
inductive Port where
  | hostA | hostB | management | window0 | window1
  deriving DecidableEq, Repr

/-- What part of a register an access covers (R18). -/
inductive Part where
  | full | low | high
  deriving DecidableEq, Repr

/-- A modelled temperature of a Bimetal node, in 1/16 °C (R370). -/
structure NodeTemp where
  node : Nat
  temp : Int
  deriving DecidableEq, Repr

/-- What a regulator stage answers (R425, R426): a VOUT, IOUT, VIN or temperature fault, OFF, and whether its input is good. -/
structure StatusRead where
  answered : Bool
  fault : Bool
  off : Bool
  input : Bool
  deriving DecidableEq, Repr

/-- A time flit (R356). -/
structure TimeFlit where
  /-- The sending X-chiplet, and its fibre pair. -/
  src : Fin 6
  fibre : Fin 4
  locked : Bool
  stratum : Nat
  srcModule : Nat
  tTx : Nat
  echoTx : Nat
  echoRx : Nat
  deriving DecidableEq, Repr

/-- A plane on which an endpoint no longer receives λ24 (R354). -/
structure LostLine where
  endpoint : Endpoint
  plane : Fin 16
  deriving DecidableEq, Repr

/-- A partner message with a good CRC (R428). -/
structure PartnerMsg where
  type : Nat
  version : Nat
  seq : Nat
  srcModule : Nat
  role : Nat
  flags : Nat
  term : Nat
  time : Nat
  checkpoint : Nat
  deriving DecidableEq, Repr
/-- The commands of the block: one constructor per row of the opcode table, in the table's order. -/
inductive Instr where
  /-- ADD (R120). -/
  | add (c : Ctx) (xd xs1 xs2 : XReg)
  /-- SUB (R120). -/
  | sub (c : Ctx) (xd xs1 xs2 : XReg)
  /-- AND (R120). -/
  | and (c : Ctx) (xd xs1 xs2 : XReg)
  /-- OR (R120). -/
  | or (c : Ctx) (xd xs1 xs2 : XReg)
  /-- XOR (R120). -/
  | xor (c : Ctx) (xd xs1 xs2 : XReg)
  /-- SHL (R120). -/
  | shl (c : Ctx) (xd xs1 xs2 : XReg)
  /-- SHR (R120). -/
  | shr (c : Ctx) (xd xs1 xs2 : XReg)
  /-- SRA (R120). -/
  | sra (c : Ctx) (xd xs1 xs2 : XReg)
  /-- SLT (R120). -/
  | slt (c : Ctx) (xd xs1 xs2 : XReg)
  /-- SLTU (R120). -/
  | sltu (c : Ctx) (xd xs1 xs2 : XReg)
  /-- MIN (R120). -/
  | min (c : Ctx) (xd xs1 xs2 : XReg)
  /-- MAX (R120). -/
  | max (c : Ctx) (xd xs1 xs2 : XReg)
  /-- MINU (R120). -/
  | minu (c : Ctx) (xd xs1 xs2 : XReg)
  /-- MAXU (R120). -/
  | maxu (c : Ctx) (xd xs1 xs2 : XReg)
  /-- CLZ (R120). -/
  | clz (c : Ctx) (xd xs1 : XReg)
  /-- POPC (R120). -/
  | popc (c : Ctx) (xd xs1 : XReg)
  /-- ADDI (R120). -/
  | addi (c : Ctx) (xd xs1 : XReg) (imm : BitVec 32)
  /-- SUBI (R120). -/
  | subi (c : Ctx) (xd xs1 : XReg) (imm : BitVec 32)
  /-- ANDI (R120). -/
  | andi (c : Ctx) (xd xs1 : XReg) (imm : BitVec 32)
  /-- ORI (R120). -/
  | ori (c : Ctx) (xd xs1 : XReg) (imm : BitVec 32)
  /-- XORI (R120). -/
  | xori (c : Ctx) (xd xs1 : XReg) (imm : BitVec 32)
  /-- SHLI (R120). -/
  | shli (c : Ctx) (xd xs1 : XReg) (imm : BitVec 32)
  /-- SHRI (R120). -/
  | shri (c : Ctx) (xd xs1 : XReg) (imm : BitVec 32)
  /-- SRAI (R120). -/
  | srai (c : Ctx) (xd xs1 : XReg) (imm : BitVec 32)
  /-- SLTI (R120). -/
  | slti (c : Ctx) (xd xs1 : XReg) (imm : BitVec 32)
  /-- SLTUI (R120). -/
  | sltui (c : Ctx) (xd xs1 : XReg) (imm : BitVec 32)
  /-- MINI (R120). -/
  | mini (c : Ctx) (xd xs1 : XReg) (imm : BitVec 32)
  /-- MAXI (R120). -/
  | maxi (c : Ctx) (xd xs1 : XReg) (imm : BitVec 32)
  /-- MINUI (R120). -/
  | minui (c : Ctx) (xd xs1 : XReg) (imm : BitVec 32)
  /-- MAXUI (R120). -/
  | maxui (c : Ctx) (xd xs1 : XReg) (imm : BitVec 32)
  /-- MUL (R121). -/
  | mul (c : Ctx) (xd xs1 xs2 : XReg)
  /-- MULH (R121). -/
  | mulh (c : Ctx) (xd xs1 xs2 : XReg)
  /-- MULHU (R121). -/
  | mulhu (c : Ctx) (xd xs1 xs2 : XReg)
  /-- DIV (R121). -/
  | div (c : Ctx) (xd xs1 xs2 : XReg)
  /-- DIVU (R121). -/
  | divu (c : Ctx) (xd xs1 xs2 : XReg)
  /-- REM (R121). -/
  | rem (c : Ctx) (xd xs1 xs2 : XReg)
  /-- REMU (R121). -/
  | remu (c : Ctx) (xd xs1 xs2 : XReg)
  /-- LI (R122). -/
  | li (c : Ctx) (xd : XReg) (imm : BitVec 32)
  /-- LIH (R122). -/
  | lih (c : Ctx) (xd : XReg) (imm : BitVec 32)
  /-- BEQ (R123). -/
  | beq (c : Ctx) (xs1 xs2 : XReg) (target : BitVec 13)
  /-- BNE (R123). -/
  | bne (c : Ctx) (xs1 xs2 : XReg) (target : BitVec 13)
  /-- BLT (R123). -/
  | blt (c : Ctx) (xs1 xs2 : XReg) (target : BitVec 13)
  /-- BGE (R123). -/
  | bge (c : Ctx) (xs1 xs2 : XReg) (target : BitVec 13)
  /-- BLTU (R123). -/
  | bltu (c : Ctx) (xs1 xs2 : XReg) (target : BitVec 13)
  /-- BGEU (R123). -/
  | bgeu (c : Ctx) (xs1 xs2 : XReg) (target : BitVec 13)
  /-- BPANY (R123). -/
  | bpany (c : Ctx) (p : PReg) (target : BitVec 13)
  /-- BPALL (R123). -/
  | bpall (c : Ctx) (p : PReg) (target : BitVec 13)
  /-- BPNONE (R123). -/
  | bpnone (c : Ctx) (p : PReg) (target : BitVec 13)
  /-- JAL (R123). -/
  | jal (c : Ctx) (xd : XReg) (target : BitVec 13)
  /-- JR (R123). -/
  | jr (c : Ctx) (xs : XReg)
  /-- LD1U (R124). -/
  | ld1u (c : Ctx) (xd xs : XReg) (imm : BitVec 32)
  /-- LD2U (R124). -/
  | ld2u (c : Ctx) (xd xs : XReg) (imm : BitVec 32)
  /-- LD4U (R124). -/
  | ld4u (c : Ctx) (xd xs : XReg) (imm : BitVec 32)
  /-- LD8 (R124). -/
  | ld8 (c : Ctx) (xd xs : XReg) (imm : BitVec 32)
  /-- LD1S (R124). -/
  | ld1s (c : Ctx) (xd xs : XReg) (imm : BitVec 32)
  /-- LD2S (R124). -/
  | ld2s (c : Ctx) (xd xs : XReg) (imm : BitVec 32)
  /-- LD4S (R124). -/
  | ld4s (c : Ctx) (xd xs : XReg) (imm : BitVec 32)
  /-- ST1 (R124). -/
  | st1 (c : Ctx) (xv xs : XReg) (imm : BitVec 32)
  /-- ST2 (R124). -/
  | st2 (c : Ctx) (xv xs : XReg) (imm : BitVec 32)
  /-- ST4 (R124). -/
  | st4 (c : Ctx) (xv xs : XReg) (imm : BitVec 32)
  /-- ST8 (R124). -/
  | st8 (c : Ctx) (xv xs : XReg) (imm : BitVec 32)
  /-- LOCAL_STORE_PERFORMED (R124). -/
  | localStorePerformed (k : CoreId)
  /-- VLD (R125). -/
  | vld (c : Ctx) (pg : PReg) (vd : VReg) (xs : XReg) (imm : BitVec 32)
  /-- VLDBF (R125). -/
  | vldbf (c : Ctx) (pg : PReg) (vd : VReg) (xs : XReg) (imm : BitVec 32)
  /-- VLDH (R125). -/
  | vldh (c : Ctx) (pg : PReg) (vd : VReg) (xs : XReg) (imm : BitVec 32)
  /-- VST (R125). -/
  | vst (c : Ctx) (pg : PReg) (vs : VReg) (xs : XReg) (imm : BitVec 32)
  /-- VSTBF (R125). -/
  | vstbf (c : Ctx) (pg : PReg) (vs : VReg) (xs : XReg) (imm : BitVec 32)
  /-- VSTH (R125). -/
  | vsth (c : Ctx) (pg : PReg) (vs : VReg) (xs : XReg) (imm : BitVec 32)
  /-- VSTP (R125). -/
  | vstp (c : Ctx) (vs : VReg) (xs : XReg) (off lenM1 : BitVec 8)
  /-- VADD (R126). -/
  | vadd (c : Ctx) (pg : PReg) (vd va vb : VReg)
  /-- VSUB (R126). -/
  | vsub (c : Ctx) (pg : PReg) (vd va vb : VReg)
  /-- VMUL (R126). -/
  | vmul (c : Ctx) (pg : PReg) (vd va vb : VReg)
  /-- VFMA (R126). -/
  | vfma (c : Ctx) (pg : PReg) (vd va vb vc : VReg)
  /-- VMIN (R126). -/
  | vmin (c : Ctx) (pg : PReg) (vd va vb : VReg)
  /-- VMAX (R126). -/
  | vmax (c : Ctx) (pg : PReg) (vd va vb : VReg)
  /-- VABS (R126). -/
  | vabs (c : Ctx) (pg : PReg) (vd va : VReg)
  /-- VNEG (R126). -/
  | vneg (c : Ctx) (pg : PReg) (vd va : VReg)
  /-- VCMP (R127). -/
  | vcmp (c : Ctx) (pg : PReg) (cc : Cond) (pd : PReg) (va vb : VReg)
  /-- VSEL (R126). -/
  | vsel (c : Ctx) (pg : PReg) (vd va vb : VReg)
  /-- VREDSUM (R128). -/
  | vredsum (c : Ctx) (pg : PReg) (vd va : VReg)
  /-- VREDMAX (R128). -/
  | vredmax (c : Ctx) (pg : PReg) (vd va : VReg)
  /-- VREDMIN (R128). -/
  | vredmin (c : Ctx) (pg : PReg) (vd va : VReg)
  /-- VIADD (R129). -/
  | viadd (c : Ctx) (pg : PReg) (vd va vb : VReg)
  /-- VISUB (R129). -/
  | visub (c : Ctx) (pg : PReg) (vd va vb : VReg)
  /-- VIAND (R129). -/
  | viand (c : Ctx) (pg : PReg) (vd va vb : VReg)
  /-- VIOR (R129). -/
  | vior (c : Ctx) (pg : PReg) (vd va vb : VReg)
  /-- VIXOR (R129). -/
  | vixor (c : Ctx) (pg : PReg) (vd va vb : VReg)
  /-- VISHL (R129). -/
  | vishl (c : Ctx) (pg : PReg) (vd va vb : VReg)
  /-- VISHR (R129). -/
  | vishr (c : Ctx) (pg : PReg) (vd va vb : VReg)
  /-- VISRA (R129). -/
  | visra (c : Ctx) (pg : PReg) (vd va vb : VReg)
  /-- VIMIN (R129). -/
  | vimin (c : Ctx) (pg : PReg) (vd va vb : VReg)
  /-- VIMAX (R129). -/
  | vimax (c : Ctx) (pg : PReg) (vd va vb : VReg)
  /-- VIMINU (R129). -/
  | viminu (c : Ctx) (pg : PReg) (vd va vb : VReg)
  /-- VIMAXU (R129). -/
  | vimaxu (c : Ctx) (pg : PReg) (vd va vb : VReg)
  /-- VCVTFI (R129). -/
  | vcvtfi (c : Ctx) (pg : PReg) (vd va : VReg)
  /-- VCVTIF (R129). -/
  | vcvtif (c : Ctx) (pg : PReg) (vd va : VReg)
  /-- VMOV (R129). -/
  | vmov (c : Ctx) (pg : PReg) (vd va : VReg)
  /-- VBCAST (R129). -/
  | vbcast (c : Ctx) (pg : PReg) (vd : VReg) (xs : XReg)
  /-- VIDX (R129). -/
  | vidx (c : Ctx) (pg : PReg) (vd : VReg)
  /-- VEXT (R129). -/
  | vext (c : Ctx) (xd : XReg) (va : VReg) (lane : Fin 64)
  /-- VINS (R129). -/
  | vins (c : Ctx) (vd : VReg) (xs : XReg) (lane : Fin 64)
  /-- PAND (R130). -/
  | pand (c : Ctx) (pd pa pb : PReg)
  /-- POR (R130). -/
  | por (c : Ctx) (pd pa pb : PReg)
  /-- PXOR (R130). -/
  | pxor (c : Ctx) (pd pa pb : PReg)
  /-- PANDN (R130). -/
  | pandn (c : Ctx) (pd pa pb : PReg)
  /-- PNOT (R130). -/
  | pnot (c : Ctx) (pd pa : PReg)
  /-- PMOVX (R130). -/
  | pmovx (c : Ctx) (pd : PReg) (xs : XReg)
  /-- PMOVP (R130). -/
  | pmovp (c : Ctx) (xd : XReg) (pa : PReg)
  /-- VSF_EXP (R131). -/
  | vsfExp (c : Ctx) (pg : PReg) (vd va : VReg)
  /-- VSF_LOG (R131). -/
  | vsfLog (c : Ctx) (pg : PReg) (vd va : VReg)
  /-- VSF_RSQRT (R131). -/
  | vsfRsqrt (c : Ctx) (pg : PReg) (vd va : VReg)
  /-- VSF_SIGMOID (R131). -/
  | vsfSigmoid (c : Ctx) (pg : PReg) (vd va : VReg)
  /-- VSF_ERF (R131). -/
  | vsfErf (c : Ctx) (pg : PReg) (vd va : VReg)
  /-- TOPK (R63). -/
  | topk (c : Ctx) (vd : VReg) (xa xn : XReg)
  /-- VPK (R100). -/
  | vpk (c : Ctx) (vd va : VReg) (xd : XReg) (code : BitVec 4)
  /-- VPK24 (R101). -/
  | vpk24 (c : Ctx) (vd va : VReg) (xd : XReg) (code : BitVec 4)
  /-- VUPK (R102). -/
  | vupk (c : Ctx) (vd va : VReg) (code : BitVec 4)
  /-- VUPK24 (R102). -/
  | vupk24 (c : Ctx) (vd va : VReg) (code : BitVec 4)
  /-- TMMA (R134). -/
  | tmma (c : Ctx) (t : TReg) (xa xb xm xs : XReg) (afmt bfmt : BitVec 4) (kb : BitVec 8) (me se we : Bool)
  /-- TLD (R137). -/
  | tld (c : Ctx) (t : TReg) (xa : XReg)
  /-- TST (R137). -/
  | tst (c : Ctx) (t : TReg) (xa : XReg)
  /-- TSTBF (R137). -/
  | tstbf (c : Ctx) (t : TReg) (xa : XReg)
  /-- TCLR (R137). -/
  | tclr (c : Ctx) (t : TReg)
  /-- TMOV (R137). -/
  | tmov (c : Ctx) (vd : VReg) (t : TReg) (xr : XReg)
  /-- TENSOR_OP_START (R60). -/
  | tensorOpStart (k : CoreId)
  /-- TENSOR_OP_COMPLETE (R60). -/
  | tensorOpComplete (k : CoreId)
  /-- LOCAL_LONG_OP_COMPLETE (R43). -/
  | localLongOpComplete (k : CoreId)
  /-- RLD1U (R139). -/
  | rld1u (c : Ctx) (xd xa : XReg)
  /-- RLD2U (R139). -/
  | rld2u (c : Ctx) (xd xa : XReg)
  /-- RLD4U (R139). -/
  | rld4u (c : Ctx) (xd xa : XReg)
  /-- RLD8 (R139). -/
  | rld8 (c : Ctx) (xd xa : XReg)
  /-- RLD1S (R139). -/
  | rld1s (c : Ctx) (xd xa : XReg)
  /-- RLD2S (R139). -/
  | rld2s (c : Ctx) (xd xa : XReg)
  /-- RLD4S (R139). -/
  | rld4s (c : Ctx) (xd xa : XReg)
  /-- RST1 (R139). -/
  | rst1 (c : Ctx) (xv xa : XReg)
  /-- RST2 (R139). -/
  | rst2 (c : Ctx) (xv xa : XReg)
  /-- RST4 (R139). -/
  | rst4 (c : Ctx) (xv xa : XReg)
  /-- RST8 (R139). -/
  | rst8 (c : Ctx) (xv xa : XReg)
  /-- RST1_DB (R139). -/
  | rst1Db (c : Ctx) (xv xa : XReg)
  /-- RST2_DB (R139). -/
  | rst2Db (c : Ctx) (xv xa : XReg)
  /-- RST4_DB (R139). -/
  | rst4Db (c : Ctx) (xv xa : XReg)
  /-- RST8_DB (R139). -/
  | rst8Db (c : Ctx) (xv xa : XReg)
  /-- RADD4 (R140). -/
  | radd4 (c : Ctx) (xa xs : XReg)
  /-- RADD4_F (R140). -/
  | radd4F (c : Ctx) (xd xa xs : XReg)
  /-- RADD8 (R140). -/
  | radd8 (c : Ctx) (xa xs : XReg)
  /-- RADD8_F (R140). -/
  | radd8F (c : Ctx) (xd xa xs : XReg)
  /-- RFADD (R140). -/
  | rfadd (c : Ctx) (xa xs : XReg)
  /-- RFADD_F (R140). -/
  | rfaddF (c : Ctx) (xd xa xs : XReg)
  /-- RBFADD (R140). -/
  | rbfadd (c : Ctx) (xa xs : XReg)
  /-- RBFADD_F (R140). -/
  | rbfaddF (c : Ctx) (xd xa xs : XReg)
  /-- RFMIN (R140). -/
  | rfmin (c : Ctx) (xa xs : XReg)
  /-- RFMIN_F (R140). -/
  | rfminF (c : Ctx) (xd xa xs : XReg)
  /-- RFMAX (R140). -/
  | rfmax (c : Ctx) (xa xs : XReg)
  /-- RFMAX_F (R140). -/
  | rfmaxF (c : Ctx) (xd xa xs : XReg)
  /-- RMIN4 (R140). -/
  | rmin4 (c : Ctx) (xa xs : XReg)
  /-- RMIN4_F (R140). -/
  | rmin4F (c : Ctx) (xd xa xs : XReg)
  /-- RMIN8 (R140). -/
  | rmin8 (c : Ctx) (xa xs : XReg)
  /-- RMIN8_F (R140). -/
  | rmin8F (c : Ctx) (xd xa xs : XReg)
  /-- RMAX4 (R140). -/
  | rmax4 (c : Ctx) (xa xs : XReg)
  /-- RMAX4_F (R140). -/
  | rmax4F (c : Ctx) (xd xa xs : XReg)
  /-- RMAX8 (R140). -/
  | rmax8 (c : Ctx) (xa xs : XReg)
  /-- RMAX8_F (R140). -/
  | rmax8F (c : Ctx) (xd xa xs : XReg)
  /-- RMINU4 (R140). -/
  | rminu4 (c : Ctx) (xa xs : XReg)
  /-- RMINU4_F (R140). -/
  | rminu4F (c : Ctx) (xd xa xs : XReg)
  /-- RMINU8 (R140). -/
  | rminu8 (c : Ctx) (xa xs : XReg)
  /-- RMINU8_F (R140). -/
  | rminu8F (c : Ctx) (xd xa xs : XReg)
  /-- RMAXU4 (R140). -/
  | rmaxu4 (c : Ctx) (xa xs : XReg)
  /-- RMAXU4_F (R140). -/
  | rmaxu4F (c : Ctx) (xd xa xs : XReg)
  /-- RMAXU8 (R140). -/
  | rmaxu8 (c : Ctx) (xa xs : XReg)
  /-- RMAXU8_F (R140). -/
  | rmaxu8F (c : Ctx) (xd xa xs : XReg)
  /-- RAND8 (R140). -/
  | rand8 (c : Ctx) (xa xs : XReg)
  /-- RAND8_F (R140). -/
  | rand8F (c : Ctx) (xd xa xs : XReg)
  /-- ROR8 (R140). -/
  | ror8 (c : Ctx) (xa xs : XReg)
  /-- ROR8_F (R140). -/
  | ror8F (c : Ctx) (xd xa xs : XReg)
  /-- RXOR8 (R140). -/
  | rxor8 (c : Ctx) (xa xs : XReg)
  /-- RXOR8_F (R140). -/
  | rxor8F (c : Ctx) (xd xa xs : XReg)
  /-- RSWAP8_F (R140). -/
  | rswap8F (c : Ctx) (xd xa xs : XReg)
  /-- RCAS8_F (R140). -/
  | rcas8F (c : Ctx) (xd xa xs xc : XReg)
  /-- RPUT (R141). -/
  | rput (c : Ctx) (xa xl xn : XReg) (k : KReg) (ken : Bool)
  /-- RGET (R141). -/
  | rget (c : Ctx) (xa xl xn : XReg) (k : KReg) (ken : Bool)
  /-- RSCAT (R143). -/
  | rscat (c : Ctx) (pg : PReg) (xd : XReg) (vi : VReg) (xl xdesc : XReg)
  /-- RGATH (R143). -/
  | rgath (c : Ctx) (pg : PReg) (xd : XReg) (vi : VReg) (xl xdesc : XReg)
  /-- FENCE (R145). -/
  | fence (c : Ctx)
  /-- FENCE_RETURN (R180). -/
  | fenceReturn (c : Ctx)
  /-- YIELD (R146). -/
  | yield (c : Ctx)
  /-- YWAIT (R44). -/
  | ywait (c : Ctx) (mask : BitVec 8)
  /-- KWAIT (R148). -/
  | kwait (c : Ctx) (k : KReg) (xv xt : XReg) (dl : BitVec 2)
  /-- DBARM (R40). -/
  | dbarm (c : Ctx) (xa : XReg)
  /-- DBWAIT (R40). -/
  | dbwait (c : Ctx) (xt : XReg) (dl : BitVec 2)
  /-- STOP (R146). -/
  | stop (c : Ctx)
  /-- WAIT_DEADLINE_PASSED (R42). -/
  | waitDeadlinePassed (c : Ctx)
  /-- KRD (R149). -/
  | krd (c : Ctx) (xd : XReg) (k : KReg)
  /-- KSET (R149). -/
  | kset (c : Ctx) (k : KReg) (xs : XReg)
  /-- CSRR (R150). -/
  | csrr (c : Ctx) (xd : XReg) (sr : BitVec 12)
  /-- CSRW (R150). -/
  | csrw (c : Ctx) (sr : BitVec 12) (xs : XReg)
  /-- HRET (R158). -/
  | hret (c : Ctx)
  /-- ILLEGAL_INSTRUCTION (R117). -/
  | illegalInstruction (c : Ctx) (word : Word)
  /-- HELD_REMOTE_ENTERS_QUEUE (R37). -/
  | heldRemoteEntersQueue (c : Ctx)
  /-- THREAD_STOP_REQUEST (R72). -/
  | threadStopRequest (k : CoreId) (threads : BitVec 8)
  /-- STOP_AT_ISSUE_BOUNDARY (R36). -/
  | stopAtIssueBoundary (c : Ctx)
  /-- CORRECTED_LANE_WRITEBACK (R52). -/
  | correctedLaneWriteback (k : CoreId) (bank : Fin 16)
  /-- SPAD_PATROL_SCRUB (R54). -/
  | spadPatrolScrub (k : CoreId)
  /-- SCRATCHPAD_BANK_TURN (R48). -/
  | scratchpadBankTurn (k : CoreId)
  /-- CORE_NAP_ENTER (R68). -/
  | coreNapEnter (k : CoreId)
  /-- CORE_NAP_WAKE_DONE (R68). -/
  | coreNapWakeDone (k : CoreId)
  /-- REMOTE_PACKET_SEND (R170). -/
  | remotePacketSend (ctx : BitVec 16) (op : Option Nat)
  /-- PACKET_PLACED (R247). -/
  | packetPlaced (e : Endpoint) (dest : Fin 49)
  /-- LANE_BEGIN_PACKET (R245). -/
  | laneBeginPacket (l : LaneId)
  /-- LOAD_PACKET (R172). -/
  | loadPacket (e : Endpoint) (p : Packet) (bad : Bool) (on : Option LaneId)
  /-- STORE_PACKET (R172). -/
  | storePacket (e : Endpoint) (p : Packet) (bad : Bool) (on : Option LaneId)
  /-- ATOMIC_PACKET (R190). -/
  | atomicPacket (e : Endpoint) (p : Packet) (bad : Bool) (on : Option LaneId)
  /-- PUT_PACKET (R172). -/
  | putPacket (e : Endpoint) (p : Packet) (bad : Bool) (on : Option LaneId)
  /-- GET_PACKET (R172). -/
  | getPacket (e : Endpoint) (p : Packet) (bad : Bool) (on : Option LaneId)
  /-- ACK_PACKET (R172). -/
  | ackPacket (e : Endpoint) (p : Packet) (bad : Bool) (on : Option LaneId)
  /-- NACK_PACKET (R175). -/
  | nackPacket (e : Endpoint) (p : Packet) (bad : Bool) (on : Option LaneId)
  /-- DATA_PACKET (R172). -/
  | dataPacket (e : Endpoint) (p : Packet) (bad : Bool) (on : Option LaneId)
  /-- GDATA_PACKET (R172). -/
  | gdataPacket (e : Endpoint) (p : Packet) (bad : Bool) (on : Option LaneId)
  /-- RESERVED_OP_PACKET (R168). -/
  | reservedOpPacket (e : Endpoint) (p : Packet) (bad : Bool) (on : Option LaneId)
  /-- RESEND_INTERVAL_EXPIRED (R182). -/
  | resendIntervalExpired (ctx : BitVec 16) (dest seq : Nat)
  /-- PACKET_BOUND_PASSED (R186). -/
  | packetBoundPassed (ctx : BitVec 16) (dest seq : Nat)
  /-- WINDOW_EXPIRED (R184). -/
  | windowExpired (e : Endpoint) (srcModule srcCtx : Nat)
  /-- COMBINE_ENTRY_WRITE (R191). -/
  | combineEntryWrite (m : Fin 8) (word : Nat)
  /-- COMBINE_OPEN_READ_DONE (R321). -/
  | combineOpenReadDone (m : Fin 8) (word : Nat)
  /-- GATEWAY_FRAME_CLOSE (R196). -/
  | gatewayFrameClose (x : Fin 6) (dst : Nat) (fibre : Fin 4)
  /-- FRAME_RECEIVED (R196). -/
  | frameReceived (x : Fin 6) (f : Frame) (bad : Bool)
  /-- MULTICAST_PUT (R260). -/
  | multicastPut (ctx : BitVec 16) (targets : BitVec 24) (offset : BitVec 49) (p : Packet)
  /-- LANDING_SLOT (R248). -/
  | landingSlot (e : Endpoint) (n : Nat)
  /-- LINK_FLIT_DUE (R245). -/
  | linkFlitDue (src : Endpoint) (dst : LinkTo) (half : Fin 4)
  /-- LINK_FLIT_RECEIVED (R244). -/
  | linkFlitReceived (f : LinkFlit)
  /-- EXT_LINK_FLIT_RECEIVED (R291). -/
  | extLinkFlitReceived (f : ExtArrival)
  /-- LANE_STANDBY_ENTER (R251). -/
  | laneStandbyEnter (l : LaneId)
  /-- LANE_WAKE (R251). -/
  | laneWake (l : LaneId)
  /-- LANE_RESYNC_START (R252). -/
  | laneResyncStart (l : LaneId)
  /-- LANE_RESYNC_RESUME (R252). -/
  | laneResyncResume (l : LaneId)
  /-- LANE_INIT_TIMEOUT (R253). -/
  | laneInitTimeout (l : LaneId)
  /-- RING_LOCK_LOST (R253). -/
  | ringLockLost (l : LaneId)
  /-- PAIR_UNREACHABLE (R253). -/
  | pairUnreachable (src dst : Endpoint)
  /-- PBL_RETIRE_PLANES (R257). -/
  | pblRetirePlanes (planes : BitVec 16)
  /-- PBL_READMIT_PLANES (R258). -/
  | pblReadmitPlanes (planes : BitVec 16)
  /-- PLANE_EPOCH (R257). -/
  | planeEpoch
  /-- PLANE_RETIRED (R257). -/
  | planeRetired (p : Fin 16)
  /-- PLANE_SELFTEST (R261). -/
  | planeSelftest (e : Endpoint) (p : Fin 16) (errors : Nat)
  /-- SELFTEST_FLIT_RECEIVED (R261). -/
  | selftestFlitReceived (e : Endpoint) (p : Fin 16) (line : Fin 26) (bad : Bool)
  /-- CARTRIDGE_INSERTED (R273). -/
  | cartridgeInserted (n : Fin 7)
  /-- CARTRIDGE_REMOVED (R272). -/
  | cartridgeRemoved (n : Fin 7)
  /-- CARTRIDGE_LATCH_RELEASE (R272). -/
  | cartridgeLatchRelease (n : Fin 7)
  /-- OPT_CB_DARK (R298). -/
  | optCbDark (n : Fin 7)
  /-- OPT_CB_WARM (R298). -/
  | optCbWarm (n : Fin 7)
  /-- OPT_CB_MATCH (R298). -/
  | optCbMatch (n : Fin 7) (target : Fin 16)
  /-- CARTRIDGE_WARM_DONE (R272). -/
  | cartridgeWarmDone (n : Fin 7)
  /-- CARTRIDGE_MATCH_DONE (R272). -/
  | cartridgeMatchDone (n : Fin 7)
  /-- SPARE_SWITCH (R275). -/
  | spareSwitch (target : Fin 16)
  /-- SPARE_SWITCH_COMPLETE (R275). -/
  | spareSwitchComplete
  /-- SPARE_RELOCKED (R280). -/
  | spareRelocked
  /-- COMMISSIONING_RECORD (R274). -/
  | commissioningRecord (path : Fin 40) (line : Fin 32) (power : Int)
  /-- FINE_LOCK_UPDATE (R277). -/
  | fineLockUpdate (l : LaneId) (tx : Bool) (detune offset : Int)
  /-- PILOT_TONE_CHECK (R279). -/
  | pilotToneCheck (l : LaneId) (tx : Bool) (tone : Fin 32)
  /-- BER_WINDOW_END (R281). -/
  | berWindowEnd (l : LaneId) (window : Fin 3) (errors : Nat)
  /-- LINE_POWER_CHECK (R283). -/
  | linePowerCheck (path : Fin 40) (line : Fin 32) (power : Int)
  /-- CARTRIDGE_LINE_FAILURE (R283). -/
  | cartridgeLineFailure (path : Fin 40) (line : Fin 32) (power : Int)
  /-- SPARE_PROCEDURE_START (R287). -/
  | spareProcedureStart
  /-- RECALIBRATION_START (R285). -/
  | recalibrationStart
  /-- RING_SWEEP_DONE (R285). -/
  | ringSweepDone (path : Fin 40) (fixes : List RingFix)
  /-- DRIFT_DETECTED (R284). -/
  | driftDetected (l : LaneId) (tx : Bool) (offset : Int)
  /-- OPT_FIBRE_RETIRE (R293). -/
  | optFibreRetire (fibres : BitVec 24)
  /-- OPT_FIBRE_READMIT (R293). -/
  | optFibreReadmit (fibres : BitVec 24)
  /-- FIBRE_PAIR_FORCED_RETIRE (R294). -/
  | fibrePairForcedRetire (pair : Fin 24) (cause : Fin 8)
  /-- FIBRE_SILENCE_TIMEOUT (R294). -/
  | fibreSilenceTimeout (pair : Fin 24)
  /-- CHANNEL_SLOT (R318). -/
  | channelSlot (c : Fin 288) (n : SlotTurn)
  /-- REFRESH_COMMAND (R320). -/
  | refreshCommand (c : Fin 288) (rank : Fin 2) (bank : Fin 16)
  /-- MEM_CH_MARK_WRITE (R338). -/
  | memChMarkWrite (c : Fin 288) (valid : Bool) (pin : Fin 16)
  /-- VAULT_CORE_TURN (R323). -/
  | vaultCoreTurn (t : Fin 8) (bank : Fin 512) (n : CoreTurn)
  /-- VAULT_SIDE_TURN (R325). -/
  | vaultSideTurn (t : Fin 8) (bank : Fin 512) (n : Nat)
  /-- VAULT_FILL_INSTALL (R327). -/
  | vaultFillInstall (t : Fin 8) (line : Nat)
  /-- VAULT_INVALIDATE (R341). -/
  | vaultInvalidate (t : Fin 8)
  /-- BOND_FAILED (R332). -/
  | bondFailed (t : Fin 8) (group : Fin 512) (bond : Fin 288)
  /-- BOND_SPARE_STEERED (R332). -/
  | bondSpareSteered (t : Fin 8) (group : Fin 512)
  /-- BOND_GROUP_RETIRE (R332). -/
  | bondGroupRetire (t : Fin 8) (group : Fin 512)
  /-- POWER_BOND_FAILED (R333). -/
  | powerBondFailed (t : Fin 8) (row : Fin 16)
  /-- LEDGER_DAILY_CLOSE (R334). -/
  | ledgerDailyClose (t : Fin 8)
  /-- LEDGER_DAMAGE_UPDATE (R334). -/
  | ledgerDamageUpdate (t : Fin 8)
  /-- TIME_FRAME (R353). -/
  | timeFrame (lost : List LostLine)
  /-- LAMBDA24_LOST (R468). -/
  | lambda24Lost (e : Endpoint)
  /-- TIME_FLIT_SEND (R356). -/
  | timeFlitSend (pair : Fin 24)
  /-- TIME_FLIT_RECEIVED (R358). -/
  | timeFlitReceived (pair : Fin 24) (f : TimeFlit) (ppm : Fin 51)
  /-- FOLLOWER_LOCK_TIMEOUT (R359). -/
  | followerLockTimeout
  /-- TIME_SET (R358). -/
  | timeSet (value : Word)
  /-- DROOP_STRETCH (R351). -/
  | droopStretch (t : Fin 8) (rows : BitVec 16)
  /-- STRETCH_WINDOW_END (R352). -/
  | stretchWindowEnd (t : Fin 8) (row : Fin 16)
  /-- GOVERNOR_EVALUATE (R360). -/
  | governorEvaluate (amps coreW auxW : Nat)
  /-- FREQ_CHANGE_CHECK (R361). -/
  | freqChangeCheck (locked : Bool)
  /-- FREQ_CHANGE_EPOCH (R361). -/
  | freqChangeEpoch
  /-- ROW_SLEEP_REQUEST (R362). -/
  | rowSleepRequest (t : Fin 8) (row : Fin 16)
  /-- ROW_WAKE_REQUEST (R362). -/
  | rowWakeRequest (t : Fin 8) (row : Fin 16)
  /-- ROW_WAKE_DONE (R67). -/
  | rowWakeDone (t : Fin 8) (row : Fin 16)
  /-- TOWER_DEEP_REQUEST (R362). -/
  | towerDeepRequest (t : Fin 8)
  /-- TOWER_DEEP_WAKE_REQUEST (R362). -/
  | towerDeepWakeRequest (t : Fin 8)
  /-- TOWER_DEEP_WAKE_DONE (R69). -/
  | towerDeepWakeDone (t : Fin 8)
  /-- FEED_SENSE (R365). -/
  | feedSense (mvA mvB ampsA ampsB : Nat)
  /-- SMBALERT (R426). -/
  | smbalert (b : Bool) (r : StatusRead)
  /-- PMBUS_PERIODIC_READ (R425). -/
  | pmbusPeriodicRead (b : Bool) (r : StatusRead)
  /-- FEED_TRIAL_START (R366). -/
  | feedTrialStart (b : Bool) (r : StatusRead)
  /-- FEED_TRIAL_PASS (R366). -/
  | feedTrialPass (b : Bool)
  /-- UNLATCH_A (R385). -/
  | unlatchA
  /-- UNLATCH_B (R385). -/
  | unlatchB
  /-- VAUX_FEED_FAIL (R367). -/
  | vauxFeedFail (b : Bool) (mv : Nat)
  /-- VAUX_FEED_RECONNECT (R367). -/
  | vauxFeedReconnect (b : Bool) (mv : Nat)
  /-- VAUX_GOOD (R531). -/
  | vauxGood (mvA mvB : Nat)
  /-- VAUX_LOSS (R534). -/
  | vauxLoss (mvA mvB : Nat)
  /-- BIMETAL_EVALUATION (R371). -/
  | bimetalEvaluation (temps : List NodeTemp)
  /-- DIODE_SAMPLE (R373). -/
  | diodeSample (die : Fin 8) (a b c d : Int)
  /-- MODEL_VALIDATION (R373). -/
  | modelValidation (die : Fin 8) (a b c d : Int)
  /-- CONSERVATIVE_EXIT (R374). -/
  | conservativeExit
  /-- INLET_TIMEOUT (R372). -/
  | inletTimeout
  /-- JOB_ENABLE (R221). -/
  | jobEnable (p : Port)
  /-- JOB_PACKAGE_COPIED (R206). -/
  | jobPackageCopied
  /-- JOB_LOAD_DONE (R224). -/
  | jobLoadDone
  /-- JOB_START (R221). -/
  | jobStart
  /-- JOB_END (R226). -/
  | jobEnd (p : Port)
  /-- JOB_END_COMPLETE (R226). -/
  | jobEndComplete
  /-- EXPERT_MOVE_HOME (R201). -/
  | expertMoveHome (p : Port) (index : BitVec 32)
  /-- EXPERT_MOVE_ALT (R201). -/
  | expertMoveAlt (p : Port) (index : BitVec 32)
  /-- EXPERT_MOVE_NOWHERE (R201). -/
  | expertMoveNowhere (p : Port) (index : BitVec 32)
  /-- EXPERT_MOVE_RUN (R200). -/
  | expertMoveRun
  /-- REGISTER_WRITE (R20). -/
  | registerWrite (p : Port) (off : BitVec 24) (part : Part) (value : Word)
  /-- REGISTER_READ_CLEAR (R19). -/
  | registerReadClear (p : Port) (off : BitVec 24)
  /-- REG_READ_LOW_HALF (R19). -/
  | regReadLowHalf (p : Port) (off : BitVec 24)
  /-- REG_READ_HIGH_HALF (R19). -/
  | regReadHighHalf (p : Port) (off : BitVec 24)
  /-- REG_ACCESS_NARROW (R18). -/
  | regAccessNarrow (p : Port) (read : Bool)
  /-- MOD_ID_WRITE (R407). -/
  | modIdWrite (p : Port) (module : BitVec 10)
  /-- CXL_MEM_READ (R400). -/
  | cxlMemRead (port : Bool) (tag : BitVec 16) (addr : BitVec 36)
  /-- CXL_MEM_WRITE (R400). -/
  | cxlMemWrite (port : Bool) (tag : BitVec 16) (addr : BitVec 36) (data : Vector Byte 64)
  /-- HOST_WINDOW_ACCESS (R402). -/
  | hostWindowAccess (c1 : Bool) (txn : Nat) (bytes : List Byte) (failed : Bool)
  /-- HOST_SNOOP (R396). -/
  | hostSnoop (port : Bool) (addr : Word)
  /-- HOST_MMIO_ENDPOINT (R403). -/
  | hostMmioEndpoint (port write : Bool) (off : BitVec 24) (part : Part) (value : Word)
  /-- HOST_LINK_RESET (R398). -/
  | hostLinkReset (port : Bool)
  /-- PERST_RELEASE (R532). -/
  | perstRelease (port : Bool)
  /-- HOST_DOORBELL_VALUE_LO (R409). -/
  | hostDoorbellValueLo (p : Port) (n : Fin 64) (value : BitVec 32)
  /-- HOST_DOORBELL_RING (R409). -/
  | hostDoorbellRing (p : Port) (n : Fin 64) (value : BitVec 32)
  /-- HCMD_ENABLE (R411). -/
  | hcmdEnable (p : Port) (size : BitVec 4)
  /-- HCMD_DISABLE (R411). -/
  | hcmdDisable (p : Port) (size : BitVec 4)
  /-- HCMD_TAIL_WRITE (R411). -/
  | hcmdTailWrite (p : Port) (tail : BitVec 12)
  /-- HCMD_NOP (R412). -/
  | hcmdNop
  /-- STAGE_IMAGE (R447). -/
  | stageImage (slot length : BitVec 32) (image : Option (List Byte)) (genuine back : Bool)
  /-- STAGE_ABORT (R447). -/
  | stageAbort (slot : BitVec 32)
  /-- STAGE_QUERY (R447). -/
  | stageQuery
  /-- HEALTH_SNAPSHOT (R413). -/
  | healthSnapshot
  /-- ELVEF_FRAME_ERROR (R422). -/
  | elvefFrameError (seq : BitVec 8)
  /-- ELVEF_GET_ID (R423). -/
  | elvefGetId (seq : BitVec 8)
  /-- ELVEF_GET_HEALTH (R423). -/
  | elvefGetHealth (seq : BitVec 8) (off : BitVec 16)
  /-- ELVEF_READ_REG (R423). -/
  | elvefReadReg (seq : BitVec 8) (off : BitVec 32)
  /-- ELVEF_WRITE_REG (R423). -/
  | elvefWriteReg (seq : BitVec 8) (off : BitVec 32) (value : Word)
  /-- ELVEF_SET_INLET (R423). -/
  | elvefSetInlet (seq : BitVec 8) (celsius : BitVec 8)
  /-- ELVEF_POWER_OFF (R423). -/
  | elvefPowerOff (seq : BitVec 8)
  /-- ELVEF_POWER_ON (R423). -/
  | elvefPowerOn (seq : BitVec 8)
  /-- FW_ACTIVATE_NEXT_START (R448). -/
  | fwActivateNextStart (seq : BitVec 8) (mask : BitVec 8)
  /-- FW_ACTIVATE_LIVE (R449). -/
  | fwActivateLive (seq : BitVec 8) (mask : BitVec 8)
  /-- FW_ACTIVATE_CANCEL (R448). -/
  | fwActivateCancel (seq : BitVec 8) (mask : BitVec 8)
  /-- LIVE_ACTIVATION_TIMEOUT (R449). -/
  | liveActivationTimeout
  /-- ELVEF_RESET (R462). -/
  | elvefReset (seq : BitVec 8) (domain : BitVec 8) (unit : BitVec 16)
  /-- PAIR_LEAVE (R480). -/
  | pairLeave (seq : BitVec 8)
  /-- PAIR_JOIN_ACTIVE (R480). -/
  | pairJoinActive (seq : BitVec 8)
  /-- PAIR_JOIN_STANDBY (R480). -/
  | pairJoinStandby (seq : BitVec 8)
  /-- PAIR_RELEASE (R480). -/
  | pairRelease (seq : BitVec 8)
  /-- PAIR_SET_PREFERRED (R480). -/
  | pairSetPreferred (seq : BitVec 8)
  /-- PAIR_CLEAR_PREFERRED (R480). -/
  | pairClearPreferred (seq : BitVec 8)
  /-- ELVEF_SERVICE_LOCK (R432). -/
  | elvefServiceLock (seq : BitVec 8)
  /-- ELVEF_SERVICE_UNLOCK (R432). -/
  | elvefServiceUnlock (seq : BitVec 8)
  /-- ELVEF_LOG_READ (R423). -/
  | elvefLogRead (seq : BitVec 8) (index count : BitVec 8)
  /-- I3C_ENTDAA (R421). -/
  | i3cEntdaa (addr : BitVec 7)
  /-- I3C_SETDASA (R421). -/
  | i3cSetdasa (addr : BitVec 7)
  /-- I3C_RSTDAA (R421). -/
  | i3cRstdaa
  /-- I3C_ENEC (R421). -/
  | i3cEnec (events : BitVec 8)
  /-- I3C_DISEC (R421). -/
  | i3cDisec (events : BitVec 8)
  /-- I3C_GETPID (R421). -/
  | i3cGetpid
  /-- I3C_GETBCR (R421). -/
  | i3cGetbcr
  /-- I3C_GETDCR (R421). -/
  | i3cGetdcr
  /-- I3C_GETSTATUS (R421). -/
  | i3cGetstatus
  /-- I3C_SETMWL (R421). -/
  | i3cSetmwl (n : BitVec 16)
  /-- I3C_GETMWL (R421). -/
  | i3cGetmwl
  /-- I3C_SETMRL (R421). -/
  | i3cSetmrl (n : BitVec 16)
  /-- I3C_GETMRL (R421). -/
  | i3cGetmrl
  /-- I3C_RSTACT (R421). -/
  | i3cRstact (action : BitVec 8)
  /-- HEARTBEAT_SEND (R481). -/
  | heartbeatSend
  /-- HEARTBEAT (R481). -/
  | heartbeat (m : PartnerMsg)
  /-- TAKEOVER (R483). -/
  | takeover (m : PartnerMsg)
  /-- RELEASE (R484). -/
  | release (m : PartnerMsg)
  /-- PARTNER_MESSAGE_BAD (R429). -/
  | partnerMessageBad
  /-- PARTNER_LINK_DOWN (R482). -/
  | partnerLinkDown
  /-- TAKEBACK_READY (R484). -/
  | takebackReady
  /-- RELEASE_TIMEOUT (R484). -/
  | releaseTimeout
  /-- UART_ID (R433). -/
  | uartId
  /-- UART_R (R433). -/
  | uartR (off : BitVec 32)
  /-- UART_H (R433). -/
  | uartH (off : BitVec 16)
  /-- UART_LOG (R433). -/
  | uartLog (index count : BitVec 8)
  /-- UART_SELFTEST (R433). -/
  | uartSelftest (unit : TestUnit) (report : List Byte) (writes : List (Nat × Byte))
  /-- JTAG_BYPASS (R431). -/
  | jtagBypass
  /-- JTAG_IDCODE (R431). -/
  | jtagIdcode
  /-- JTAG_SAMPLE_PRELOAD (R431). -/
  | jtagSamplePreload
  /-- JTAG_EXTEST (R431). -/
  | jtagExtest
  /-- JTAG_CLAMP (R431). -/
  | jtagClamp
  /-- JTAG_HIGHZ (R431). -/
  | jtagHighz
  /-- JTAG_PRIVATE_SCAN (R432). -/
  | jtagPrivateScan (dies : List Die)
  /-- STAGE_S0_COMPLETE (R434). -/
  | stageS0Complete
  /-- STAGE_S1_COMPLETE (R434). -/
  | stageS1Complete
  /-- STAGE_S2_COMPLETE (R434). -/
  | stageS2Complete (planes : BitVec 16) (fibres : BitVec 24) (channels : TrainedChannels) (units : TrainedUnits)
  /-- STAGE_S3_COMPLETE (R434). -/
  | stageS3Complete (towers' : BitVec 8) (bad : FailedTests) (fallbacks : Nat)
  /-- STAGE_FAILED (R436). -/
  | stageFailed (why : StageFailure)
  /-- START_GO (R437). -/
  | startGo (p : Port)
  /-- REFCLK_LOST (R539). -/
  | refclkLost
  /-- REFCLK_RESTORED (R539). -/
  | refclkRestored
  /-- SVN_MIN_RISE (R442). -/
  | svnMinRise (kind : Fin 3)
  /-- DOE_EVIDENCE (R450). -/
  | doeEvidence (b : Bool) (nonce : List Byte)
  /-- DOE_ENABLE_RECORD (R450). -/
  | doeEnableRecord (b : Bool)
  /-- DOE_CHAIN (R450). -/
  | doeChain (b : Bool)
  /-- RESET_REQUEST (R462). -/
  | resetRequest (p : Port) (domain : Fin 8) (unit : BitVec 16)
  /-- UNIT_RESET_START (R461). -/
  | unitResetStart (domain : Fin 8) (unit : BitVec 16)
  /-- UNIT_RESET_COMPLETE (R461). -/
  | unitResetComplete (domain : Fin 8) (unit : BitVec 16)
  /-- RESET_ESCALATE (R466). -/
  | resetEscalate (domain : Fin 8) (unit : BitVec 16)
  /-- HANG_THREAD_HOLD (R465). -/
  | hangThreadHold (k : CoreId)
  /-- HANG_STALL_IN_PLACE (R465). -/
  | hangStallInPlace (k : CoreId)
  /-- HANG_REMOTE_ENGINE (R465). -/
  | hangRemoteEngine (c : Ctx)
  /-- HANG_CHANNEL_AGE (R465). -/
  | hangChannelAge (c : Fin 288) (owner : BitVec 8)
  /-- HANG_CREDIT_STALL (R465). -/
  | hangCreditStall (l : LaneId)
  /-- DUMP_BEFORE_RESET (R469). -/
  | dumpBeforeReset (domain : Fin 8) (unit : BitVec 16) (answers : BitVec 8)
  /-- DUMP_ABANDONED (R469). -/
  | dumpAbandoned (domain : Fin 8) (unit : BitVec 16)
  /-- REPLAY_SOLO (R472). -/
  | replaySolo (p : Port) (k : CoreId) (t : Fin 8) (pc : BitVec 13) (limit : BitVec 16)
  /-- REPLAY_JOIN (R472). -/
  | replayJoin (p : Port) (k : CoreId) (t : Fin 8) (pc : BitVec 13)
  /-- REPLAY_LIMIT (R473). -/
  | replayLimit
  /-- WITNESS_SAMPLE (R477). -/
  | witnessSample
  /-- WITNESS_RECORD_READY (R478). -/
  | witnessRecordReady
  /-- WITNESS_COMPARE (R479). -/
  | witnessCompare
  /-- WITNESS_LATE (R479). -/
  | witnessLate
  /-- CKPT_DUE_TICK (R485). -/
  | ckptDueTick
  /-- CHECKPOINT_REQUEST (R485). -/
  | checkpointRequest
  /-- CHECKPOINT_DONE (R486). -/
  | checkpointDone (ok : Bool)
  /-- CKPT_RESTORE (R488). -/
  | ckptRestore (p : Port)
  /-- CKPT_INVALIDATE (R488). -/
  | ckptInvalidate (p : Port)
  /-- CKPT_RESTORE_DONE (R488). -/
  | ckptRestoreDone (a b : List (Nat × Byte)) (ok : Bool)
  /-- PMC_OVERFLOW (R504). -/
  | pmcOverflow (k : CoreId) (n : Fin 8)
  /-- PMC_SAMPLE (R504). -/
  | pmcSample (k : CoreId) (n : Fin 8) (entry : Fin 24)
  /-- DUMP_BOUNDARY (R513). -/
  | dumpBoundary
  /-- DUMP_RECORD_COMPLETE (R517). -/
  | dumpRecordComplete (ok : Bool)
  /-- DMP_ENABLE (R519). -/
  | dmpEnable (p : Port) (value : Word)
  /-- DMP_DISABLE (R519). -/
  | dmpDisable (p : Port) (value : Word)
  /-- BABBITT_PROGRESS_RECORD (R523). -/
  | babbittProgressRecord
  /-- SPAD_SCRUB_PASS_START (R525). -/
  | spadScrubPassStart
  /-- MRAM_WEAR_MOVE (R526). -/
  | mramWearMove (c1 : Bool) (block target : Nat)
  /-- CARTRIDGE_INTERNAL_FAULT (R272). -/
  | cartridgeInternalFault (n : Fin 7)
  /-- FIBRE_PAIR_EPOCH (R293). -/
  | fibrePairEpoch
  /-- FIBRE_PAIR_RETIRED (R293). -/
  | fibrePairRetired (pair : Fin 24)
  /-- VAUX_INPUT_BELOW_10V (R531). -/
  | vauxInputBelow10v (b : Bool) (mv : Nat)
  /-- CXL_LINK_CHANGE (R435). -/
  | cxlLinkChange (port up lopt : Bool) (width : Fin 16) (rate : Fin 4)
  /-- MANAGEMENT_PROCESSORS_RESTARTED (R449). -/
  | managementProcessorsRestarted (c1 healthy : Bool)
  /-- CONTROL_CHIPLET_LOST (R474). -/
  | controlChipletLost (c1 : Bool)
  deriving DecidableEq, Repr

end Sys2Proof
end

