-- ==== Sys2Proof/Config.lean ====
section
/-!
DEFINITION. What an implementation fixes and the spec leaves open: free values. None of them has a body, so nothing
can be proved of any of them beyond its type. Each is named in the assumption log.
-/
namespace Sys2Proof.Config

/-- The five functions of the special-function unit (R62). -/
inductive Sfu where
  | exp | log | rsqrt | sigmoid | erf
  deriving DecidableEq, Repr

/-- The FP32 result the special-function unit gives, by function and input: the spec fixes it only to within the error
bound of R62 (assumption 20). The model keeps it inside that bound. -/
opaque sfuResult : Sfu → Lane → Lane

/-- What a W288 decoder delivers for a codeword in a cell of R307 marked "Undefined": nothing (detected), or 32 bytes
(the word as it is, or another codeword). By the bytes held, the symbols in error and the marks (assumption 21). -/
opaque undefinedDecode : List Byte → List (Nat × Byte) → List Nat → Option (List Byte)

/-- The control chiplet whose MRAM holds a kept register field, ring table or other kept item, by an index of the item: true for C1
(R378 speaks of "the chiplet that holds it", assumption 40). -/
opaque mramOnC1 : Nat → Bool

/-- The Bimetal node that holds a ring, and the reference diode nearest to it (R276, assumption 41). -/
opaque ringNode : Nat → Nat
opaque ringDiode : Nat → Nat

/-- HSS signatures (R443, R444): the bytes of an identity key's signature by chiplet (true for C1), generation, index and message; its
public key's bytes; and the device certificate a chiplet was made with (assumption 42). -/
opaque signatureByte : Bool → Nat → Nat → List Byte → Nat → Byte
opaque identityKeyByte : Bool → Nat → Nat → Byte
opaque certificate : Bool → List Byte

/-- The CODE of the event log entry of a start that used the inactive bank of an image kind, which R441 has logged and R460 does not
list (assumption 43). -/
opaque fallbackCode : Nat → Nat

/-- The 4 KiB block of its chiplet's MRAM that holds an item (R526 counts its writes, and the manual gives no layout); assumption 44. -/
opaque mramBlock : Nat → Nat

/-- The endpoint of the far gateway a frame for a module is addressed to, 16 to 21: R196 gives the field and not the choice
(assumption 45). -/
opaque farGateway : Nat → Nat

/-- Zhevino's MIPI manufacturer id, 15 bits of the I3C provisional ID (R421 names it and gives no value), and below the two bytes a
GETSTATUS returns, by draw (assumption 46). -/
opaque mipiManufacturer : Nat
/-- The version and Zhevino's JEDEC manufacturer code in the IDCODE of the JTAG port (R431, assumption 46). -/
opaque jtagVersion : Nat
opaque jedecManufacturer : Nat
opaque i3cStatus : Nat → Nat → Byte

/-- The trim, 0 to 30 mV, by which each row's LDO holds its row below the VCORE set point: set at test and kept, by tower x 16 + row (R360,
assumption 132). -/
opaque rowTrim : Nat → Fin 31

/-- What stage S2 measures as the flight delay of a plane to an endpoint, plane x 24 + endpoint, and what stage S3 sets as the skew trim of
a crossing between two regions of a die, tower x 15 + lower row; by the time it is done (R349, R354, assumption 132). -/
opaque flightDelay : Nat → Nat → Nat
opaque skewTrim : Nat → Nat → Int

/-- How many 32-byte units, beyond one packet of 32, a vault holds of requests that came by the base: R249 tests the vault's room and gives no
size (assumption 133). -/
opaque vaultRoom : Nat

/-- Where the superframes of a lane stand in Constantan time, in 1/100 ns, by the lane's number (R239, R252, R289; assumption 134). -/
opaque superframePhase : Nat → Nat

end Sys2Proof.Config
end

