-- ==== Sys2Proof/Machine/Numbers.lean ====
section
/-!
DEFINITION. Number formats, exact arithmetic and rounding (03_numbers_and_sparsity.md). Values are taken exactly, as a
sign, a magnitude and a power of two, and narrowed once, as each rule says.
-/
namespace Sys2Proof.Machine

/-- A value of a float format: not a number, an infinity, or (-1)^neg x m x 2^e, exactly. -/
inductive Num where
  | nan
  | inf (neg : Bool)
  | fin (neg : Bool) (m : Nat) (e : Int)
  deriving DecidableEq, Repr

/-- The two directed choices of R97 (stochastic rounding acts on elements only, R99). -/
inductive Rounding where
  | nearestEven
  | towardZero
  deriving DecidableEq, Repr

/-- `m x 2^e` as a whole number of `2^q`, rounded (R97). -/
def roundTo (mode : Rounding) (m : Nat) (e q : Int) : Nat :=
  if q ≤ e then m * 2 ^ (e - q).toNat
  else
    let d := 2 ^ (q - e).toNat
    let lo := m / d
    let r := m % d
    match mode with
    | .towardZero => lo
    | .nearestEven => if d < 2 * r then lo + 1 else if 2 * r = d ∧ lo % 2 = 1 then lo + 1 else lo

/-- The exponent of the leading one of `m x 2^e` (`m` not zero). -/
def topExp (m : Nat) (e : Int) : Int := (Nat.log2 m : Int) + e

/-! IEEE formats with `eb` exponent and `mb` mantissa bits. -/

/-- The value of an IEEE encoding. -/
def ieeeDecode (eb mb : Nat) (w : Nat) : Num :=
  let neg := (w / 2 ^ (eb + mb)) % 2 = 1
  let ex := (w / 2 ^ mb) % 2 ^ eb
  let man := w % 2 ^ mb
  let bias : Int := 2 ^ (eb - 1) - 1
  if ex = 2 ^ eb - 1 then (if man = 0 then .inf neg else .nan)
  else if ex = 0 then .fin neg man (1 - bias - mb)
  else .fin neg (2 ^ mb + man) ((ex : Int) - bias - mb)

/-- The canonical NaN of a format (R84): sign clear, leading mantissa bit set. -/
def ieeeNan (eb mb : Nat) : Nat := (2 ^ eb - 1) * 2 ^ mb + 2 ^ (mb - 1)

/-- An exact value narrowed to an IEEE format, subnormals kept (R61, R97, R103). Overflow gives an infinity to
nearest even and the largest finite value toward zero. -/
def ieeeEncode (eb mb : Nat) (mode : Rounding) (x : Num) : Nat :=
  let sgn := fun (neg : Bool) => if neg then 2 ^ (eb + mb) else 0
  let bias : Int := 2 ^ (eb - 1) - 1
  match x with
  | .nan => ieeeNan eb mb
  | .inf neg => sgn neg + (2 ^ eb - 1) * 2 ^ mb
  | .fin neg m e =>
    if m = 0 then sgn neg
    else
      let q := max (topExp m e - mb) (1 - bias - mb)
      let k := roundTo mode m e q
      -- k is at most 2^(mb+1); the encoding of k x 2^q, a carry out of the mantissa included
      let code := if q = 1 - bias - mb then k else ((q + mb + bias - 1).toNat) * 2 ^ mb + k
      if (2 ^ eb - 1) * 2 ^ mb ≤ code then
        (match mode with
         | .nearestEven => sgn neg + (2 ^ eb - 1) * 2 ^ mb
         | .towardZero => sgn neg + ((2 ^ eb - 1) * 2 ^ mb - 1))
      else sgn neg + code

def f32 (w : Lane) : Num := ieeeDecode 8 23 w.toNat
def toF32 (mode : Rounding) (x : Num) : Lane := BitVec.ofNat 32 (ieeeEncode 8 23 mode x)
def bf16 (w : Nat) : Num := ieeeDecode 8 7 w
def toBf16 (x : Num) : Nat := ieeeEncode 8 7 .nearestEven x
def f16 (w : Nat) : Num := ieeeDecode 5 10 w
def toF16 (mode : Rounding) (x : Num) : Nat := ieeeEncode 5 10 mode x

/-- The canonical FP32 NaN (R84). -/
def nan32 : Lane := 0x7FC00000

/-! Exact arithmetic. -/

def Num.neg : Num → Num
  | .nan => .nan
  | .inf n => .inf (!n)
  | .fin n m e => .fin (!n) m e

/-- The signed integer `x x 2^-q`, for `q` at most the exponent of `x`. -/
def scaled (neg : Bool) (m : Nat) (e q : Int) : Int :=
  let k : Nat := m * 2 ^ (e - q).toNat
  if neg then -(k : Int) else (k : Int)

/-- The exact sum; an exact zero is -0 only from two -0 (R93, IEEE 754). -/
def Num.add (x y : Num) : Num :=
  match x, y with
  | .nan, _ => .nan
  | _, .nan => .nan
  | .inf a, .inf b => if a = b then .inf a else .nan
  | .inf a, .fin _ _ _ => .inf a
  | .fin _ _ _, .inf b => .inf b
  | .fin a m e, .fin b n f =>
    let q := min e f
    let t := scaled a m e q + scaled b n f q
    if t = 0 then .fin (a && b && decide (m = 0) && decide (n = 0)) 0 q
    else .fin (decide (t < 0)) t.natAbs q

/-- The exact product. -/
def Num.mul (x y : Num) : Num :=
  match x, y with
  | .nan, _ => .nan
  | _, .nan => .nan
  | .inf a, .inf b => .inf (a != b)
  | .inf a, .fin b n _ => if n = 0 then .nan else .inf (a != b)
  | .fin a m _, .inf b => if m = 0 then .nan else .inf (a != b)
  | .fin a m e, .fin b n f => .fin (a != b) (m * n) (e + f)

/-- The order of numbers: -1, 0 or 1; `none` where either is NaN. +0 equals -0. -/
def Num.cmp (x y : Num) : Option Int :=
  match x, y with
  | .nan, _ => none
  | _, .nan => none
  | .inf a, .inf b => some (if a = b then 0 else if a then -1 else 1)
  | .inf a, .fin _ _ _ => some (if a then -1 else 1)
  | .fin _ _ _, .inf b => some (if b then 1 else -1)
  | .fin a m e, .fin b n f =>
    let q := min e f
    some (scaled a m e q - scaled b n f q).sign

/-- The sign of a value, NaN counting as positive. -/
def Num.signBit : Num → Bool
  | .nan => false
  | .inf n => n
  | .fin n _ _ => n

/-- FP32 minimum and maximum (R104): the other input where one is NaN, -0 below +0. -/
def fMin (x y : Lane) : Lane :=
  match (f32 x).cmp (f32 y) with
  | none => (match f32 x, f32 y with
    | .nan, .nan => nan32
    | .nan, _ => y
    | _, _ => x)
  | some r => if r < 0 then x else if 0 < r then y else if (f32 x).signBit then x else y

def fMax (x y : Lane) : Lane :=
  match (f32 x).cmp (f32 y) with
  | none => (match f32 x, f32 y with
    | .nan, .nan => nan32
    | .nan, _ => y
    | _, _ => x)
  | some r => if r < 0 then y else if 0 < r then x else if (f32 x).signBit then y else x

/-! FP32 arithmetic of the vector unit (R126). -/

def fAdd (mode : Rounding) (x y : Lane) : Lane := toF32 mode ((f32 x).add (f32 y))
def fSub (mode : Rounding) (x y : Lane) : Lane := toF32 mode ((f32 x).add (f32 y).neg)
def fMul (mode : Rounding) (x y : Lane) : Lane := toF32 mode ((f32 x).mul (f32 y))
def fFma (mode : Rounding) (x y z : Lane) : Lane := toF32 mode (((f32 x).mul (f32 y)).add (f32 z))

/-- `vabs` and `vneg`: the sign bit cleared or inverted, a NaN canonical (R126). -/
def fAbs (x : Lane) : Lane := if f32 x = .nan then nan32 else x &&& 0x7FFFFFFF
def fNeg (x : Lane) : Lane := if f32 x = .nan then nan32 else x ^^^ 0x80000000

/-- FP32 to signed integer, nearest even; NaN gives 0, out of range saturates (R129). -/
def fToInt (x : Lane) : Lane :=
  match f32 x with
  | .nan => 0
  | .inf neg => if neg then 0x80000000 else 0x7FFFFFFF
  | .fin neg m e =>
    let k := roundTo .nearestEven m e 0
    if neg then (if 2 ^ 31 ≤ k then 0x80000000 else BitVec.ofInt 32 (-(k : Int)))
    else (if 2 ^ 31 ≤ k then 0x7FFFFFFF else BitVec.ofNat 32 k)

/-- Signed integer to FP32, nearest even (R129). -/
def intToF (x : Lane) : Lane := toF32 .nearestEven (.fin (decide (x.toInt < 0)) x.toInt.natAbs 0)

/-- BF16 and FP16 widened exactly (R61, R103); a NaN becomes the canonical one (R84). -/
def widenBf (w : Nat) : Lane := toF32 .nearestEven (bf16 w)
def widenF16 (w : Nat) : Lane := toF32 .nearestEven (f16 w)

/-! Element formats (R82, R135). -/

/-- The element codes of R135. -/
inductive Elem where
  | e4m3 | e5m2 | e2m3 | e3m2 | e2m1 | int8 | bf16
  deriving DecidableEq, Repr

/-- A format code: dense elements, or S24 packing of an element type (R135). -/
inductive Fmt where
  | dense (e : Elem)
  | s24 (e : Elem)
  deriving DecidableEq, Repr

/-- The codes of R135; 0x7 and 0xB to 0xF are reserved. -/
def Fmt.ofCode (c : BitVec 4) : Option Fmt :=
  match c.toNat with
  | 0 => some (.dense .e4m3) | 1 => some (.dense .e5m2) | 2 => some (.dense .e2m3) | 3 => some (.dense .e3m2)
  | 4 => some (.dense .e2m1) | 5 => some (.dense .int8) | 6 => some (.dense .bf16)
  | 8 => some (.s24 .e4m3) | 9 => some (.s24 .e5m2) | 10 => some (.s24 .e2m1)
  | _ => none

def Elem.width : Elem → Nat
  | .e4m3 => 8 | .e5m2 => 8 | .e2m3 => 6 | .e3m2 => 6 | .e2m1 => 4 | .int8 => 8 | .bf16 => 16

/-- Exponent bits, mantissa bits and bias of a float element (R82). -/
def Elem.shape : Elem → Nat × Nat × Int
  | .e4m3 => (4, 3, 7) | .e5m2 => (5, 2, 15) | .e2m3 => (2, 3, 1) | .e3m2 => (3, 2, 3) | .e2m1 => (2, 1, 1)
  | .int8 => (0, 0, 0) | .bf16 => (8, 7, 127)

/-- The scale exponent emax of R82. -/
def Elem.emax : Elem → Int
  | .e4m3 => 8 | .e5m2 => 15 | .e2m3 => 2 | .e3m2 => 4 | .e2m1 => 2 | .int8 => 0 | .bf16 => 0

/-- The value of an element code (R82, R91: a BF16 subnormal counts as zero with its sign). -/
def Elem.value (t : Elem) (w : Nat) : Num :=
  match t with
  | .int8 => let k := (BitVec.ofNat 8 w).toInt; .fin (decide (k < 0)) k.natAbs (-6)
  | .bf16 => (match Machine.bf16 w with
    | .fin neg m e => if m < 2 ^ 7 then .fin neg 0 0 else .fin neg m e
    | x => x)
  | t =>
    let (eb, mb, bias) := t.shape
    let neg := (w / 2 ^ (eb + mb)) % 2 = 1
    let ex := (w / 2 ^ mb) % 2 ^ eb
    let man := w % 2 ^ mb
    if t = .e4m3 ∧ ex = 15 ∧ man = 7 then .nan
    else if t = .e5m2 ∧ ex = 31 then (if man = 0 then .inf neg else .nan)
    else if ex = 0 then .fin neg man (1 - bias - mb)
    else .fin neg (2 ^ mb + man) ((ex : Int) - bias - mb)

/-- The largest normal of an element type as its code without sign (R82). -/
def Elem.maxCode : Elem → Nat
  | .e4m3 => 0x7E | .e5m2 => 0x7B | .e2m3 => 0x1F | .e3m2 => 0x1F | .e2m1 => 0x7 | .int8 => 127 | .bf16 => 0x7F7F

/-- The magnitude code just at or below `m x 2^e`, and the part of the step above it in 65,536ths, rounded down
(R99); `none` at or above the largest normal. `k` steps of `2^q` are the code, as in an IEEE format. -/
def Elem.below (t : Elem) (m : Nat) (e : Int) : Nat × Nat × Int :=
  let (_, mb, bias) := t.shape
  let q : Int := match t with
    | .int8 => -6
    | _ => if m = 0 then 1 - bias - mb else max (topExp m e - mb) (1 - bias - mb)
  let k := roundTo .towardZero m e q
  let f := roundTo .towardZero m e (q - 16) - k * 65536
  (k, f, q)

/-- The code of `k x 2^q`, a carry out of the mantissa included. -/
def Elem.codeOf (t : Elem) (k : Nat) (q : Int) : Nat :=
  let (_, mb, bias) := t.shape
  match t with
  | .int8 => k
  | _ => if q = 1 - bias - mb then k else ((q + mb + bias - 1).toNat) * 2 ^ mb + k

/-- How an element is rounded (R97). -/
inductive ElemRound where
  | det (m : Rounding)
  | stochastic (u : Nat)
  deriving DecidableEq, Repr

/-- A finite value rounded to an element type, saturating at the largest normal (R99, R100 steps 4 to 6). -/
def Elem.round (t : Elem) (r : ElemRound) (neg : Bool) (m : Nat) (e : Int) : Nat :=
  let (k, f, q) := t.below m e
  let k' := match r with
    | .det mode => roundTo mode m e q
    | .stochastic u => if 65536 ≤ f + u then k + 1 else k
  let mag := min (t.codeOf k' q) t.maxCode
  match t with
  | .int8 => if neg then (256 - mag) % 256 else mag
  | _ => (if neg then 2 ^ (t.width - 1) else 0) + mag

/-! Bit strings and blocks (R85 to R89). -/

/-- `n` bits of a byte string from bit `at`, read as one little-endian bit string (R85). -/
def bitField (s : Nat) (start n : Nat) : Nat := (s / 2 ^ start) % 2 ^ n

/-- The two kept positions a pattern code names; none for a reserved code (R88). -/
def s24Kept : Nat → Option (Nat × Nat)
  | 0 => some (0, 1) | 1 => some (0, 2) | 2 => some (0, 3) | 3 => some (1, 2) | 4 => some (1, 3) | 5 => some (2, 3)
  | _ => none

/-- The pattern code that keeps positions `i` and `j`, `i < j` (R88). -/
def s24Code (i j : Nat) : Nat :=
  match i, j with
  | 0, 1 => 0 | 0, 2 => 1 | 0, 3 => 2 | 1, 2 => 3 | 1, 3 => 4 | _, _ => 5

/-- Bytes of an S24 block (R87, R89). -/
def s24Size (e : Elem) : Nat := if e.width = 4 then 12 else 20

/-- The code at K position `i` of an S24 block read as one number, and `none` where no value is kept there (R88, R89). -/
def s24At (e : Elem) (blk i : Nat) : Option Nat :=
  let g := i / 4
  let p := i % 4
  match s24Kept (bitField blk (8 + 3 * g) 3) with
  | none => none
  | some (a, b) =>
    if p = a then some (bitField blk (32 + e.width * (2 * g)) e.width)
    else if p = b then some (bitField blk (32 + e.width * (2 * g + 1)) e.width)
    else none

/-- How many groups of an S24 block hold a reserved code (R88). -/
def s24Reserved (blk : Nat) : Nat :=
  ((List.range 8).filter fun g => (s24Kept (bitField blk (8 + 3 * g) 3)).isNone).length

/-- Multiply by a power of two. -/
def Num.shift (x : Num) (k : Int) : Num :=
  match x with
  | .fin n m e => .fin n m (e + k)
  | y => y

/-! Pack and unpack (R100 to R102). -/

/-- The scale byte of a block from the exact magnitudes of its inputs: R100 steps 2 and 3. -/
def packScale (t : Elem) (xs : List Num) : Nat :=
  let tops := xs.filterMap fun x => match x with
    | .fin _ m e => if m = 0 then none else some (topExp m e)
    | _ => none
  match tops with
  | [] => 0
  | a :: rest =>
    let X := rest.foldl max a - t.emax
    (max (-127) (min 127 X) + 127).toNat

/-- Whether R100 step 1 applies. -/
def packSpecial (xs : List Num) : Bool := xs.any fun x => match x with
  | .fin _ _ _ => false
  | _ => true

/-- One input of a block as an element code, the scale byte given. -/
def packElem (t : Elem) (scale : Nat) (r : ElemRound) (x : Num) : Nat :=
  match x with
  | .fin neg m e =>
    if m = 0 then (match t with
      | .int8 => 0
      | _ => if neg then 2 ^ (t.width - 1) else 0)
    else t.round r neg m (e - ((scale : Int) - 127))
  | _ => 0

/-- Whether an element code has the value zero, of either sign. -/
def Elem.isZero (t : Elem) (w : Nat) : Bool :=
  match t with
  | .int8 => w == 0
  | _ => w % 2 ^ (t.width - 1) == 0

/-- The MX pack of one block: its scale and its element codes; `u i` is the stochastic field of element `i`. -/
def mxPack (t : Elem) (r : Nat → ElemRound) (xs : List Lane) : Nat × List Nat :=
  let vs := xs.map f32
  if packSpecial vs then (255, vs.map fun _ => 0)
  else
    let sc := packScale t vs
    (sc, (List.range vs.length).map fun i => packElem t sc (r i) (vs.getD i .nan))

/-- The magnitude order of R101 step 1: is `|y|` above `|x|`? -/
def magLt (x y : Num) : Bool :=
  match x, y with
  | .fin _ m e, .fin _ n f => ((Num.fin false m e).cmp (.fin false n f)) == some (-1)
  | _, _ => false

/-- The two kept positions of a group of four: the two largest magnitudes, the lower position first when equal. -/
def keepTwo (g : List Num) : Nat × Nat :=
  let v := fun i => g.getD i .nan
  let first := [1, 2, 3].foldl (fun b i => if magLt (v b) (v i) then i else b) 0
  let cand := [0, 1, 2, 3].filter (· ≠ first)
  let second := match cand with
    | [] => 0
    | c :: cs => cs.foldl (fun b i => if magLt (v b) (v i) then i else b) c
  (min first second, max first second)

/-- The S24 pack of one block: scale, eight pattern codes and sixteen kept codes (R101). -/
def s24Pack (t : Elem) (r : Nat → ElemRound) (xs : List Lane) : Nat × List Nat × List Nat :=
  let vs := xs.map f32
  if packSpecial vs then (255, List.replicate 8 0, List.replicate 16 0)
  else
    let groups := (List.range 8).map fun g => (List.range 4).map fun i => vs.getD (4 * g + i) .nan
    let kept := groups.map keepTwo
    let vals := (groups.zip kept).flatMap fun (g, ij) => [g.getD ij.1 .nan, g.getD ij.2 .nan]
    let sc := packScale t vals
    (sc, kept.map fun ij => s24Code ij.1 ij.2,
      (List.range 16).map fun j => packElem t sc (r j) (vals.getD j .nan))

/-- Codes of `w` bits each as one little-endian bit string. -/
def joinBits (w : Nat) : List Nat → Nat
  | [] => 0
  | c :: cs => c % 2 ^ w + 2 ^ w * joinBits w cs

/-- One unpacked element (R102): exact, but for overflow; a scale of 0xFF gives NaN. -/
def unpackElem (t : Elem) (mode : Rounding) (scale code : Nat) : Lane :=
  if scale = 255 then nan32 else toF32 mode ((t.value code).shift ((scale : Int) - 127))

/-! The tensor unit's rounding (R92, R93). -/

/-- A value rounded to a tile entry: a 24-bit significand, unbounded exponent, then the subnormal range flushed to zero
with its sign, then the overflow of the mode (R93 steps 1 to 3). -/
def tileRound (mode : Rounding) (x : Num) : Lane :=
  match x with
  | .fin neg m e =>
    if m = 0 then (if neg then 0x80000000 else 0)
    else
      let q := topExp m e - 23
      let k := roundTo mode m e q
      if topExp k q < -126 then (if neg then 0x80000000 else 0) else toF32 mode (.fin neg k q)
  | y => toF32 mode y

/-- One block value and its accumulation (R92, R93): `prods` are the exact products that enter, `xa + xb` the block
scales' exponents, `none` for a scale of 0xFF. -/
def blockValue (mode : Rounding) (scale : Option Int) (prods : List Num) : Lane :=
  let sum := prods.foldl Num.add (.fin false 0 0)
  match scale with
  | none => nan32
  | some k => match sum with
    | .nan => nan32
    | .inf n => toF32 mode (.inf n)
    | .fin neg m e => if m = 0 then 0 else tileRound mode (.fin neg m (e + k))

/-- R93 step 4: the entry with one block value added. -/
def tileAdd (mode : Rounding) (d v : Lane) : Lane := tileRound mode ((f32 d).add (f32 v))

/-- What a tile load keeps of an FP32 value: subnormals flushed, NaNs canonical (R95). -/
def tileLoad (w : Lane) : Lane := tileRound .nearestEven (f32 w)

/-! The stochastic generator (R98). -/

def mix (z : Word) : Word :=
  let z := (z ^^^ (z >>> 30)) * 0xBF58476D1CE4E5B9
  let z := (z ^^^ (z >>> 27)) * 0x94D049BB133111EB
  z ^^^ (z >>> 31)

/-- The key of a core's generator (R98). -/
def coreKey (seed : Word) (moduleId endpoint core : Nat) : Word :=
  mix (seed ^^^ (BitVec.ofNat 64 moduleId <<< 54) ^^^ (BitVec.ofNat 64 endpoint <<< 49) ^^^ (BitVec.ofNat 64 core <<< 41))

/-- The draw numbered `draws` of a thread (R98). -/
def drawOf (key : Word) (thread : Nat) (draws : Nat) : Word :=
  mix (key + ((BitVec.ofNat 64 thread <<< 61) ||| BitVec.ofNat 64 (draws % 2 ^ 61)) * 0x9E3779B97F4A7C15)

/-- Field `j` of a draw (R98). -/
def drawField (w : Word) (j : Nat) : Nat := (w.toNat / 2 ^ (16 * j)) % 65536

/-! The special-function unit (R62): reference values to far more bits than the bound needs, in fixed point. -/

/-- Fraction bits of the fixed-point references. -/
def fxBits : Nat := 320

/-- Fixed point of an exact value. -/
def fxOf (neg : Bool) (m : Nat) (e : Int) : Int :=
  let k : Nat := roundTo .towardZero m e (-(fxBits : Int))
  if neg then -(k : Int) else k

def fxMul (a b : Int) : Int := a * b / 2 ^ fxBits
def fxDiv (a b : Int) : Int := a * 2 ^ fxBits / b

/-- The Taylor sum of e^r for fixed-point r, `n` terms. -/
def fxExpTaylor (r : Int) : Nat → Nat → Int → Int
  | 0, _, _ => 0
  | n + 1, i, term => term + fxExpTaylor r n (i + 1) (fxMul term r / (i + 1 : Nat))

/-- The sum of 2 (y^(2i+1) / (2i+1)), the logarithm of (1 + y) / (1 - y). -/
def fxAtanh (y2 : Int) : Nat → Nat → Int → Int
  | 0, _, _ => 0
  | n + 1, i, pow => pow / (2 * i + 1 : Nat) + fxAtanh y2 n (i + 1) (fxMul pow y2)

/-- Natural logarithm of 2, fixed point: 2 artanh(1/3). -/
def fxLn2 : Int :=
  let y := 2 ^ fxBits / 3
  2 * fxAtanh (fxMul y y) 120 0 y

/-- e^x in fixed point, times 2^-k with its k: e^x = value x 2^k. -/
def fxExp (x : Int) : Int × Int :=
  let k := x / fxLn2
  (fxExpTaylor (x - k * fxLn2) 90 0 (2 ^ fxBits), k)

/-- The logarithm of m x 2^e, fixed point. -/
def fxLog (m : Nat) (e : Int) : Int :=
  let t := topExp m e
  -- mantissa in [1, 2), moved to [1/sqrt 2, sqrt 2) so that a value near 1 keeps its precision
  let f := fxOf false m (e - t)
  let (f, t) := if 3 * 2 ^ fxBits < 2 * f then (f / 2, t + 1) else (f, t)
  let y := fxDiv (f - 2 ^ fxBits) (f + 2 ^ fxBits)
  2 * fxAtanh (fxMul y y) 130 0 y + t * fxLn2

/-- The sum of (-1)^n x^(2n+1) / (n! (2n+1)). -/
def fxErfSum (x2 : Int) : Nat → Nat → Int → Int
  | 0, _, _ => 0
  | n + 1, i, term => term / (2 * i + 1 : Nat) + fxErfSum x2 n (i + 1) (-(fxMul term x2) / (i + 1 : Nat))

/-- 4 artan(1/x) sums for pi, Machin's formula. -/
def fxArctanInv (x : Nat) : Nat → Nat → Int → Int
  | 0, _, _ => 0
  | n + 1, i, pow => pow / (2 * i + 1 : Nat) + fxArctanInv x n (i + 1) (-(pow / (x * x : Nat)))

def fxPi : Int :=
  4 * (4 * fxArctanInv 5 160 0 (2 ^ fxBits / 5) - fxArctanInv 239 60 0 (2 ^ fxBits / 239))

def fxSqrt (a : Nat) : Nat := Nat.sqrt (a * 2 ^ fxBits)

/-- The value of a special function at a finite input, as an exact dyadic within 2^-200 of the true value. -/
def sfuReference (fn : Config.Sfu) (neg : Bool) (m : Nat) (e : Int) : Num :=
  let ofFx := fun (v : Int) (k : Int) => Num.fin (decide (v < 0)) v.natAbs (k - fxBits)
  match fn with
  | .exp =>
    if m ≠ 0 ∧ 8 < topExp m e then (if neg then .fin false 1 (-400) else .fin false 1 400)
    else let (v, k) := fxExp (fxOf neg m e); ofFx v k
  | .log => ofFx (fxLog m e) 0
  | .rsqrt =>
    -- 1 / sqrt(m 2^e): with e even, 2^(-e/2) / sqrt m
    let (m', e') := if e % 2 = 0 then (m, e) else (2 * m, e - 1)
    .fin false (Nat.sqrt (2 ^ (2 * fxBits) / m')) (-(e' / 2) - fxBits)
  | .sigmoid =>
    if m ≠ 0 ∧ 8 < topExp m e then (if neg then .fin false 1 (-400) else .fin false 1 0)
    else
      -- for x >= 0: 1 / (1 + e^-x); for x < 0: e^x / (1 + e^x)
      let (v, k) := fxExp (fxOf true m e)
      if neg then
        let one : Int := 2 ^ fxBits
        let ex := if 0 ≤ k then v * 2 ^ k.toNat else v / 2 ^ (-k).toNat
        ofFx (fxDiv v (one + ex)) k
      else
        let ex := if 0 ≤ k then v * 2 ^ k.toNat else v / 2 ^ (-k).toNat
        ofFx (fxDiv (2 ^ fxBits) (2 ^ fxBits + ex)) 0
  | .erf =>
    if m ≠ 0 ∧ 3 ≤ topExp m e then .fin neg 1 0
    else
      let x := fxOf false m e
      let v := fxErfSum (fxMul x x) 400 0 x
      ofFx (let r := fxDiv (2 * v) (fxSqrt fxPi.toNat); if neg then -r else r) 0

/-- A fixed result of R62 for a special input, where the table gives one. -/
def sfuSpecial (fn : Config.Sfu) (x : Num) : Option Lane :=
  match fn, x with
  | _, .nan => some nan32
  | .exp, .inf neg => some (if neg then 0 else 0x7F800000)
  | .log, .inf neg => some (if neg then nan32 else 0x7F800000)
  | .log, .fin neg m _ => if m = 0 then some 0xFF800000 else if neg then some nan32 else none
  | .rsqrt, .inf neg => some (if neg then nan32 else 0)
  | .rsqrt, .fin neg m _ => if m = 0 then some (if neg then 0xFF800000 else 0x7F800000) else if neg then some nan32 else none
  | .sigmoid, .inf neg => some (if neg then 0 else 0x3F800000)
  | .erf, .inf neg => some (if neg then 0xBF800000 else 0x3F800000)
  | _, .fin _ _ _ => none

/-- The largest error of R62, in units in the last place. -/
def sfuUlp : Config.Sfu → Nat
  | .rsqrt => 1
  | _ => 2

/-- Is an FP32 result within `n` units in the last place of the exact reference? The unit is that of the reference's
binade, subnormals included; one part in 2^40 of a unit is allowed for the reference's own error. -/
def withinUlp (n : Nat) (ref : Num) (r : Lane) : Bool :=
  match ref, f32 r with
  | .fin a m e, .fin b k f =>
    let q : Int := if m = 0 then -149 else max (topExp m e - 23) (-149)
    let d := (Num.fin a m e).add (.fin (!b) k f)
    (match d with
     | .fin _ dm de => (Num.fin false dm de).cmp (.fin false (n * 2 ^ 40 + 1) (q - 40)) != some 1
     | _ => false)
  | .fin a m e, .inf b =>
    -- an infinity stands for the overflow of a value at or above 2^128, give or take the bound
    (a == b) && ((Num.fin false m e).cmp (.fin false (2 ^ 24 - n) 104) != some (-1))
  | _, _ => false

/-- One lane of a special-function operation (R62, assumption 20). -/
def sfu (fn : Config.Sfu) (x : Lane) : Lane :=
  match sfuSpecial fn (f32 x), f32 x with
  | some r, _ => r
  | none, .fin neg m e =>
    let ref := sfuReference fn neg m e
    let r := Config.sfuResult fn x
    if (fn == .exp) && ((ref.cmp (f32 0x7F7FFFFF)) == some 1) then 0x7F800000
    else if withinUlp (sfuUlp fn) ref r then r
    else toF32 .nearestEven ref
  | none, _ => nan32

end Sys2Proof.Machine
end

