-- ==== Sys2Proof/Machine/Table.lean ====
section
/-!
DEFINITION. Sparse tables in one canonical form: keys strictly rising, and no entry equal to what an unlisted key
reads as. Memories, register files and every other large array of the module are such tables.
-/
namespace Sys2Proof.Machine

/-- A table from keys to values. -/
abbrev Tab (β : Type) := List (Nat × β)

/-- The value at `k`; `d` where nothing is listed. -/
def Tab.get {β : Type} (d : β) (t : Tab β) (k : Nat) : β :=
  match t with
  | [] => d
  | (j, v) :: rest => if j = k then v else Tab.get d rest k

/-- The table without an entry at `k`. -/
def Tab.erase {β : Type} (t : Tab β) (k : Nat) : Tab β :=
  match t with
  | [] => []
  | (j, v) :: rest => if j = k then Tab.erase rest k else (j, v) :: Tab.erase rest k

/-- The table with `v` at `k`, its keys still rising. -/
def Tab.insert {β : Type} (t : Tab β) (k : Nat) (v : β) : Tab β :=
  match t with
  | [] => [(k, v)]
  | (j, w) :: rest => if j = k then (k, v) :: rest else if k < j then (k, v) :: (j, w) :: rest else (j, w) :: Tab.insert rest k v

/-- Write `v` at `k`, keeping the canonical form. -/
def Tab.set {β : Type} [DecidableEq β] (d : β) (t : Tab β) (k : Nat) (v : β) : Tab β :=
  if v = d then t.erase k else t.insert k v

/-- Change the entry at `k`. -/
def Tab.modify {β : Type} [DecidableEq β] (d : β) (t : Tab β) (k : Nat) (f : β → β) : Tab β :=
  t.set d k (f (t.get d k))

/-- Every listed key is above `lo`, the keys rise, and no entry is the default. -/
def Tab.wfFrom {β : Type} [DecidableEq β] (d : β) (lo : Nat) : Tab β → Bool
  | [] => true
  | (j, v) :: rest => decide (lo ≤ j) && decide (v ≠ d) && Tab.wfFrom d (j + 1) rest

/-- The canonical form. -/
def Tab.wf {β : Type} [DecidableEq β] (d : β) (t : Tab β) : Bool := Tab.wfFrom d 0 t

/-- The entries whose keys satisfy `p`, changed by `f`; an entry that becomes the default is dropped. -/
def Tab.mapKeys {β : Type} [DecidableEq β] (d : β) (p : Nat → Bool) (f : β → β) : Tab β → Tab β
  | [] => []
  | (j, v) :: rest =>
    if p j then (if f v = d then Tab.mapKeys d p f rest else (j, f v) :: Tab.mapKeys d p f rest)
    else (j, v) :: Tab.mapKeys d p f rest

/-- The table without the entries whose keys satisfy `p`. -/
def Tab.drop {β : Type} (p : Nat → Bool) (t : Tab β) : Tab β := t.filter fun e => !p e.1

/-! Byte memories: an unlisted address reads as zero. -/

/-- A byte memory. The cells are pairs of address and byte. -/
abbrev Mem := Tab Byte

/-- The canonical form of a memory. -/
def Mem.wf (m : Mem) : Bool := Tab.wf (0 : Byte) m

def Mem.byte (m : Mem) (a : Nat) : Byte := Tab.get 0 m a

def Mem.setByte (m : Mem) (a : Nat) (b : Byte) : Mem := Tab.set 0 m a b

/-- `n` bytes from `a`, in rising address order. -/
def Mem.read (m : Mem) (a : Nat) : Nat → List Byte
  | 0 => []
  | n + 1 => m.byte a :: m.read (a + 1) n

/-- The bytes written from `a` on. -/
def Mem.write (m : Mem) (a : Nat) : List Byte → Mem
  | [] => m
  | b :: bs => (m.setByte a b).write (a + 1) bs

/-- The little-endian number in `n` bytes from `a` (R16). -/
def Mem.readNat (m : Mem) (a n : Nat) : Nat := ofBytes (m.read a n)

/-- Every byte in `[a, a + n)` returned to zero. -/
def Mem.clear (m : Mem) (a n : Nat) : Mem := Tab.drop (fun k => decide (a ≤ k) && decide (k < a + n)) m

end Sys2Proof.Machine
end

