-- ==== Sys2Proof/Machine/CoreState.lean ====
section
/-!
DEFINITION. What a Vipel core holds (02_vipel_core.md, R33): threads, scratchpad, tensor unit, scoreboards, counters.
-/
namespace Sys2Proof.Machine
open Sys2Proof

/-- The thread states (R34), in the order of their codes. -/
inductive TState where
  | stopped | ready | running | waitRemote | waitCounter | waitDoorbell | waitLocal | faulted
  deriving DecidableEq, Repr

/-- The code CORE_STATUS and CORE_THREADn report (R34). -/
def TState.code : TState → Nat
  | .stopped => 0 | .ready => 1 | .running => 2 | .waitRemote => 3 | .waitCounter => 4 | .waitDoorbell => 5
  | .waitLocal => 6 | .faulted => 7

/-- One piece of a remote operation: one packet to be sent (R170). -/
structure Piece where
  /-- The packet type to send (R168). -/
  op : Nat
  sub : Nat
  far : Word
  /-- Local scratchpad offset of its bytes (PUT source, GET destination). -/
  loc : Nat
  /-- Bytes it moves. -/
  len : Nat
  operand : Word
  comparand : Word
  ken : Bool
  knum : Nat
  kctx : Nat
  db : Bool
  deriving DecidableEq, Repr

/-- What a remote operation does with its answer (R188). -/
inductive OpKind where
  /-- A remote load: destination register, bytes, sign extension (R139). -/
  | load (xd size : Nat) (signed : Bool)
  /-- A fetch atomic: destination register, bytes (R140). -/
  | fetch (xd size : Nat)
  /-- A store or a non-fetch atomic. -/
  | write
  /-- `rput` and `rscat`. -/
  | put
  /-- `rget` and `rgath`. -/
  | get
  /-- A CXL.mem read or write of a host port (true: B), by tag and the hashed offset it reached (R400). -/
  | memRead (port : Bool) (tag off : Nat)
  | memWrite (port : Bool) (tag off : Nat)
  /-- A host doorbell's store (R409). -/
  | bell
  /-- A host port's MMIO read or write of an endpoint block, of 4 or 8 bytes (R403). -/
  | mmioRead (port : Bool) (size : Nat)
  | mmioWrite
  /-- A multicast store or put (R260). -/
  | multi
  deriving DecidableEq, Repr

/-- A packet that has been sent and not yet answered (R171, R182, R186). -/
structure Flight where
  piece : Piece
  seq : Nat
  /-- Destination: module x 32 + endpoint. -/
  dest : Nat
  firstSent : Nat
  lastSent : Nat
  tries : Nat
  /-- T, taken from TIME_REMOTE_TO at the first send (R186, R187). -/
  bound : Nat
  /-- Units its GDATA still has to write before the counter rises (R172). -/
  writing : Nat
  /-- Units of a PUT's source that the outbound port still has to read before the packet leaves, and the bytes read (R48, R144). -/
  reading : Nat
  source : Mem
  /-- Its response has been received. -/
  answered : Bool
  deriving DecidableEq, Repr

/-- A remote operation: one tracking entry (R37, R172). -/
structure RemoteOp where
  id : Nat
  thread : Nat
  pc : BitVec 13
  kind : OpKind
  /-- Pieces not yet sent once; the operation holds a queue entry while there are any (R37). -/
  unsent : List Piece
  flights : List Flight
  /-- The first failure: its cause and the failed target's address (R66, R188). -/
  failure : Option (Nat × Word)
  /-- The value to be written to the destination register. -/
  value : Option Word
  /-- Bytes of a host port or of a multicast: to be sent, or received. -/
  bytes : List Byte
  /-- Of `rscat` and `rgath`: xd and its count of spilled lanes, written once the operation has its entries (R72, R143). -/
  spills : Option (Nat × Nat)
  deriving DecidableEq, Repr

/-- What a waiting thread waits for (R37, R44, R147). -/
inductive Wait where
  | none
  /-- The answer of a load or fetch. -/
  | answer (op : Nat)
  /-- A free tracking or queue entry; `no` is its place in the core's issue order (R33). -/
  | held (op : RemoteOp) (no : Nat)
  /-- Every operation issued before the `fence`: those with a smaller number. -/
  | fence (before : Nat)
  | counter (k : Nat) (xv : Lane) (deadline : Option Nat)
  | doorbell (deadline : Option Nat)
  | ylocal (mask : BitVec 8)
  deriving DecidableEq, Repr

/-- One hardware thread (R33). -/
structure Thread where
  st : TState
  /-- Index of the next instruction. -/
  pc : BitVec 13
  /-- x1 to x31, by number; unlisted registers hold 0. -/
  x : Tab Word
  /-- The lanes of v0 to v31, by register x 64 + lane. -/
  v : Tab Lane
  /-- p1 to p7. -/
  p : Tab Word
  /-- The armed 64-byte block of the doorbell watch, by its number (R40). -/
  armed : Option Nat
  dbPending : Bool
  wait : Wait
  /-- The deferred slot: cause and address (R66). -/
  deferred : Option (Nat × Word)
  /-- CORE_NUMCTL (R96). -/
  numctl : Word
  /-- CORE_HCTL (R155). -/
  hctl : Word
  /-- CORE_EINFO (R156). -/
  einfo : Word
  /-- CORE_EADDR (R157). -/
  eaddr : Word
  /-- A stop from outside waits for the next issue boundary (R36, R72). -/
  stopReq : Bool
  /-- A held fence has returned and its deferred fault is due at the next issue (R145). -/
  fenceDue : Bool
  /-- When the thread last gave up the core (R465). -/
  since : Nat
  /-- The core cycle in which the thread last became READY (R38). -/
  readyAt : Nat
  /-- The core cycle in which a stop from outside took a thread that waited for an answer (R66). -/
  stoppedAt : Option Nat
  deriving DecidableEq, Repr

/-- A thread after a core reset (R80). -/
def Thread.reset : Thread :=
  { st := .stopped, pc := 0, x := [], v := [], p := [], armed := none, dbPending := false, wait := .none,
    deferred := none, numctl := 0, hctl := 0, einfo := 0, eaddr := 0, stopReq := false, fenceDue := false, since := 0,
    readyAt := 0, stoppedAt := none }

/-- How a local scalar or vector load reads its bytes (R124, R125). -/
inductive LoadKind where
  | scalar (size : Nat) (signed : Bool)
  | vec32 | vecBf | vecHalf
  deriving DecidableEq, Repr

/-- What a local long operation will write (R43). -/
inductive LongDest where
  | x (r : Nat) (value : Word)
  | v (r : Nat) (lanes : List (Nat × Lane))
  | p (r : Nat) (value : Word)
  /-- A pack: vector image and report register. -/
  | vx (r : Nat) (lanes : List (Nat × Lane)) (xr : Nat) (value : Word)
  | load (kind : LoadKind) (r : Nat) (offset : Nat) (mask : Word)
  | topk (r : Nat) (offset n : Nat)
  deriving DecidableEq, Repr

/-- A local long operation in flight: its result is written in core cycle `due` (R43, R45). -/
structure LongOp where
  thread : Nat
  pc : BitVec 13
  due : Nat
  /-- Its place in the core's order of local accesses (R45). -/
  order : Nat
  dest : LongDest
  /-- Lanes it has still to read, each with the core cycle of its booked local turn (R45). -/
  reads : List (Nat × Nat)
  /-- Lanes it has read. -/
  got : List (Nat × List Byte)
  /-- The lowest uncorrectable lane it has met (R76). -/
  bad : Option Nat
  deriving DecidableEq, Repr

/-- The part of a local store that falls in one scratchpad lane: performed in core cycle `turn` (R124). -/
structure LaneStore where
  thread : Nat
  pc : BitVec 13
  turn : Nat
  order : Nat
  bytes : List (Nat × Byte)
  /-- The lowest uncorrectable lane that an earlier part of the same store has met (R76). -/
  bad : Option Nat
  deriving DecidableEq, Repr

/-- Operands of a tensor operation as they stand at issue (R134). -/
structure Tmma where
  xa : Nat
  xb : Nat
  mask : Word
  skip : Option Nat
  map : Option Nat
  afmt : Fmt
  bfmt : Fmt
  kb : Nat
  mode : Rounding
  deriving DecidableEq, Repr

/-- What a queued tensor operation or tile transfer does (R134, R137). -/
inductive TensorAct where
  | mma (a : Tmma)
  | load (offset : Nat)
  | store (offset : Nat)
  | storeBf (offset : Nat)
  | clear
  deriving DecidableEq, Repr

/-- A K block of a tensor operation whose lanes are being read (R49, R106 to R109). -/
structure BlockRun where
  kb : Nat
  /-- Its skip word and map byte, read once, just before it (R109). -/
  skip : Word
  map : Byte
  /-- Lanes it has still to read, each with the core cycle of its tensor turn (R48). -/
  reads : List (Nat × Nat)
  got : List (Nat × List Byte)
  /-- The lowest uncorrectable lane it has met (R76). -/
  bad : Option Nat
  deriving DecidableEq, Repr

/-- An entry of the tensor unit: queued, or started (R60). -/
structure TensorOp where
  thread : Nat
  pc : BitVec 13
  tile : Nat
  act : TensorAct
  /-- Not started: none. Started: the first cycle after its last cycle in the unit, and the cycle its tile is written, on the
  footing that every K block whose controls are still unread costs its cycles (R59, R109). -/
  times : Option (Nat × Nat)
  /-- The next K block, and the core cycle in which it falls. -/
  kb : Nat
  next : Nat
  /-- K blocks, or the one transfer, whose lanes are being read, oldest first. -/
  blocks : List BlockRun
  /-- Lanes a tile store has still to write, each with the core cycle of its tensor turn. -/
  writes : List (Nat × Nat)
  /-- The witness engine captures it (R478). -/
  captured : Bool
  deriving DecidableEq, Repr

/-- Whose unit it is: a request performed at the tower, the response of a GET being written (R172), or the source of a PUT being
read (R144). -/
inductive PortOwner where
  | txn (id : Nat)
  | got (ctx op seq dest : Nat)
  | put (ctx op seq dest : Nat)
  deriving DecidableEq, Repr

/-- What a unit does in its bank's turn. -/
inductive PortAct where
  | write (off : Nat) (bytes : List Byte)
  /-- A read of `count` bytes, placed at `pos` of the answer. -/
  | read (off count pos : Nat)
  | atomic (off : Nat)
  deriving DecidableEq, Repr

/-- A unit of at most 32 bytes on its way into a scratchpad lane, or a read that leaves through the outbound port (R48). -/
structure PortUnit where
  owner : PortOwner
  act : PortAct
  deriving DecidableEq, Repr

def PortAct.off : PortAct → Nat
  | .write o _ => o
  | .read o _ _ => o
  | .atomic o => o

/-- What a bond group's FIFO holds for its core: a delivery, or what an own-vault access of the core returns (R324, R350). -/
inductive DownUnit where
  | unit (u : PortUnit)
  /-- Bytes of a read, by transaction and position, or the old value of an atomic. -/
  | data (txn pos : Nat) (bytes : List Byte) (old : Option Word)
  deriving DecidableEq, Repr

/-- Where a core stands between active and nap (R67, R68). -/
inductive CoreSleep where
  | awake
  | nap
  /-- A wake has started; the issue logic runs at this Constantan time. -/
  | waking (ready : Nat)
  deriving DecidableEq, Repr

/-- One Vipel core (R33). -/
structure Core where
  threads : Tab Thread
  /-- The thread that ran last; 7 before any has run (R39). -/
  ranLast : Fin 8
  /-- An idle core took a thread in this cycle: the thread that had run last before, and the cycle (R39). -/
  took : Option (Fin 8 × Nat)
  /-- The free-running core cycle count c (R48, R154). -/
  cycle : Nat
  /-- The thread that stalls in place in the present cycle, and whether the cycle is stretched (R352, R503). -/
  stalled : Option Nat
  stretched : Bool
  /-- The cycle in which CORE_FAULT took a thread's fault (R66). -/
  faultAt : Option Nat
  /-- The next number in the issue order of held remote instructions (R33). -/
  heldNo : Nat
  /-- The earliest cycle in which the core can issue (R38, R43). -/
  nextIssue : Nat
  /-- Constantan time at which the core became idle. -/
  idleSince : Nat
  sleep : CoreSleep
  /-- Scratchpad bytes (R47). -/
  spad : Mem
  /-- Symbols of scratchpad lanes that differ from the codeword: lane x 36 + symbol (R51). -/
  spadErr : Tab Byte
  /-- Instruction memory bytes (R55, R114). -/
  imem : Mem
  imemErr : Tab Byte
  /-- The write-back that each bank holds: lane + 1 (R52). -/
  writebacks : Tab Nat
  /-- Tile entries: tile x 4096 + row x 64 + column (R33). -/
  tiles : Tab Lane
  /-- The tiles that started operations accumulate into, as the unit holds them before it writes them: by tile, then row x 64 +
  column (R60, R94). -/
  work : Tab (Tab Lane)
  longOps : List LongOp
  stores : List LaneStore
  /-- The next number in the order of local accesses. -/
  accessNo : Nat
  /-- For each bank, the first cycle whose local turn no earlier local access holds (R45). -/
  bankFree : Tab Nat
  divFree : Nat
  sfuFree : Nat
  topkFree : Nat
  /-- Tensor operations: started ones first, then the queued one (R60). -/
  tensor : List TensorOp
  /-- The first cycle the tensor unit is free (R60). -/
  tensorFree : Nat
  /-- For each bank, the first cycle whose tensor turn no earlier lane of the tensor port holds. -/
  tensorBank : Tab Nat
  /-- A tile that stays busy until the witness engine has copied it (R478). -/
  heldTile : Option Nat
  /-- Inbound buffer, oldest first, at most 64 lanes (R48). -/
  inbound : List PortUnit
  /-- Outbound reads, oldest first (R48). -/
  outbound : List PortUnit
  /-- What the down FIFOs of the bond groups hold for the core, oldest first, each with its group (R350). -/
  bond : List (Nat × DownUnit)
  /-- Units read and waiting for an up turn of the bond groups, with their bytes (R324). -/
  up : List (PortUnit × List Byte)
  /-- The first cycle whose bank turns have not been served. -/
  served : Nat
  /-- The key of the stochastic generator (R98). -/
  key : Word
  /-- The lane the patrol scrub reads next (R54). -/
  scrubLane : Nat
  /-- Lanes the present scrub pass still has to read (R525). -/
  scrubLeft : Nat
  /-- The conditions of state events in the last counted cycle, by counter (R502). -/
  pmcPrev : Tab Nat
  /-- Instructions issued since an armed overflow, oldest first, at most 24, by counter (R504). -/
  pmcWindow : Tab (List (Nat × Nat))
  /-- A sample is armed, by counter (R504). -/
  pmcArmed : Tab Bool
  /-- The core takes part in no job: disabled (R467). -/
  disabled : Bool
  /-- Constantan times of recent resets of the core (R467). -/
  resetTimes : List Nat
  /-- The core is in reset until this Constantan time. -/
  inReset : Bool
  /-- The most recent time the core issued an instruction or gave up the core (R465). -/
  lastIssue : Nat
  /-- When the RUNNING thread took the core (R465). -/
  heldSince : Nat
  deriving DecidableEq, Repr

/-- A core after a module reset. -/
def Core.reset : Core :=
  { threads := [], ranLast := 7, took := none, cycle := 0, stalled := none, stretched := false, faultAt := none, heldNo := 0, nextIssue := 0
    idleSince := 0, sleep := .awake, spad := [], spadErr := [], imem := [], imemErr := [], writebacks := [], tiles := [], work := [], longOps := []
    stores := [], accessNo := 0, bankFree := [], divFree := 0, sfuFree := 0, topkFree := 0, tensor := [], tensorFree := 0, tensorBank := []
    heldTile := none, inbound := [], outbound := [], bond := [], up := [], served := 0, key := 0, scrubLane := 0, scrubLeft := 0, pmcPrev := []
    pmcWindow := [], pmcArmed := [], disabled := false, resetTimes := [], inReset := false, lastIssue := 0, heldSince := 0 }

end Sys2Proof.Machine
end

