-- ==== Sys2Proof/Machine/NetState.lean ====
section
/-!
DEFINITION. What the endpoints, the photonic base, the fibres, the memory ports and the vaults hold (05, 07, 08 and 09 of
the spec).
-/
namespace Sys2Proof.Machine
open Sys2Proof

/-- The requester side of one context: its operations and its numbering (R37, R181). -/
structure Requester where
  ops : List RemoteOp
  nextOp : Nat
  /-- The next SEQ, by destination module x 32 + endpoint. -/
  seqs : Tab Nat
  /-- SRC_INC of the endpoint when the context was last cleared (R181). -/
  since : Nat
  /-- Packets that failed at their bound, by destination and SEQ: a response that still comes is counted (R189). -/
  lost : List (Nat × Nat)
  /-- How the last multicast that ended did: acknowledged, or the cause and address of its first failed copy (R260). -/
  multicast : Option (Option (Nat × Word))
  deriving DecidableEq, Repr

def Requester.empty : Requester := { ops := [], nextOp := 0, seqs := [], since := 0, lost := [], multicast := none }

/-- How a window remembers one request (R183). -/
inductive Seen where
  /-- Received, not yet performed. -/
  | waiting
  /-- Refused with a failing NACK of this cause. -/
  | refused (cause : Nat)
  /-- A LOAD or GET was performed. -/
  | readDone
  /-- A STORE, PUT or non-fetch ATOMIC was performed. -/
  | written
  /-- A fetch ATOMIC was performed; its old value. -/
  | fetched (old : Word)
  deriving DecidableEq, Repr

/-- The window of one requester (R183, R184). -/
structure Window where
  srcModule : Nat
  srcCtx : Nat
  srcInc : Nat
  /-- The highest SEQ received, and what is known of the last 64. -/
  high : Nat
  seen : List (Nat × Seen)
  last : Nat
  deriving DecidableEq, Repr

/-- A packet inside the module, with where it goes next: an endpoint 0-23, fibre pair `24 + 4x + f`, or 48 while no fibre
pair of its route is ACTIVE (R164, R295). -/
structure Transit where
  pkt : Packet
  /-- The endpoint it was last sent by. -/
  by' : Nat
  dest : Nat
  /-- The fibre pair it is to leave on, once it has reached that pair's X-chiplet. -/
  fibre : Option Nat
  deriving DecidableEq, Repr

/-- A request being performed at an endpoint. -/
structure Txn where
  id : Nat
  pkt : Packet
  /-- The endpoint that sent it here (the owner of R215 follows from it). -/
  by' : Nat
  /-- Units not yet done. -/
  left : Nat
  /-- Bytes read so far, by position in the request. -/
  got : Mem
  old : Word
  failure : Option Nat
  /-- A GET of a core to its own vault, or to the lines it holds there: its bytes go straight to its scratchpad as they are read (R324). -/
  straight : Bool
  deriving DecidableEq, Repr

/-- An atomic waiting in a combining entry (R191, R321): its transaction, and whether it has been acknowledged. -/
structure Waiting where
  pkt : Packet
  by' : Nat
  acked : Bool
  deriving DecidableEq, Repr

/-- An entry of a memory port's combining buffer (R191, R321). -/
structure Combine where
  /-- The aligned 8-byte word, by hashed offset / 8. -/
  word : Nat
  opened : Nat
  /-- The opener's owner (R215). -/
  owner : Nat
  /-- The starting value has arrived. -/
  fetched : Bool
  /-- The opening read has completed and what waited has been applied. -/
  ready : Bool
  value : Word
  waiting : List Waiting
  /-- The entry has passed a + 100 ns: its write is queued and it merges nothing. -/
  closing : Bool
  /-- Its write waits for room outside the owner's 8 (R321). -/
  outside : Bool
  deriving DecidableEq, Repr

/-- What a channel request does in its slot (R318). -/
inductive ChanAct where
  | read (off count : Nat)
  | opening (word : Nat)
  | write (off count : Nat)
  | combineWrite (word : Nat)
  /-- An atomic performed alone: read-modify-write (R191). -/
  | atomic (off : Nat)
  deriving DecidableEq, Repr

/-- A request in a channel's queue (R319). -/
structure ChanReq where
  act : ChanAct
  joined : Nat
  /-- The request it answers in its slot; none where it was answered at once. -/
  txn : Option Nat
  deriving DecidableEq, Repr

/-- What an engine of the module asks of a channel: to read bytes of a checkpoint, which go to a position of the slot being written, or
to write bytes of a counter record (R485, R514, R517). -/
inductive EngineAct where
  | save (off count at' : Nat)
  | record (off : Nat) (bytes : List Byte)
  deriving DecidableEq, Repr

/-- Work of an engine that waits for a slot of its chiplet (R522). -/
structure EngineReq where
  owner : Nat
  act : EngineAct
  deriving DecidableEq, Repr

/-- Channel states (R314). -/
inductive ChanState where
  | untrained | ready | marked | failed
  deriving DecidableEq, Repr

def ChanState.code : ChanState → Nat
  | .untrained => 0 | .ready => 1 | .marked => 2 | .failed => 3

/-- One LPDDR5X channel. -/
structure Channel where
  st : ChanState
  /-- Requests by owner: towers 0-7, then the classes of R215. -/
  queues : Tab (List ChanReq)
  /-- Correction counts of the present second: by pin, the distinct lines (R314). -/
  pinLines : Tab (List Nat)
  /-- Corrections of the present second, by pin (R338). -/
  pinCounts : Tab Nat
  secondStart : Nat
  /-- Banks that the access of the last slot performed addresses (R320). -/
  slotBanks : List Nat
  /-- Work of the module's engines, oldest first. -/
  work : List EngineReq
  /-- The open row of each bank, row + 1 (R510). -/
  openRows : Tab Nat
  /-- The last slot performed, + 1. -/
  slotDone : Nat
  /-- The next line the patrol scrub reads, and the corrected units whose write-back is due (R335). -/
  scrubLine : Nat
  scrubFix : List Nat
  /-- When the patrol scrub last read a line. -/
  scrubAt : Nat
  /-- The present pass has reached its last line (R523). -/
  passDone : Bool
  deriving DecidableEq, Repr

def Channel.reset : Channel :=
  { st := .untrained, queues := [], pinLines := [], pinCounts := [], secondStart := 0, slotBanks := [], work := [], openRows := [], slotDone := 0, scrubLine := 0, scrubFix := [], scrubAt := 0,
    passDone := false }

/-- A frame a gateway gathers (R196). -/
structure Gather where
  dstModule : Nat
  fibre : Nat
  packets : List Packet
  first : Nat
  deriving DecidableEq, Repr

/-- An endpoint's share of the remote machinery. -/
structure EndState where
  srcInc : Nat
  windows : List Window
  /-- When a reset last cleared the windows (R464). -/
  clearedAt : Option Nat
  txns : List Txn
  nextTxn : Nat
  /-- Packets waiting to be placed, oldest first (R247). -/
  staged : List Transit
  /-- Packets that have landed and wait to be performed. -/
  landed : List Transit
  /-- The last landing slot served, + 1. -/
  slotDone : Nat
  /-- Combining entries (memory ports). -/
  combine : List Combine
  /-- Frames being gathered, and the next frame number (R196). -/
  frames : List Gather
  frameNo : Nat
  /-- The frame sent last. -/
  sentFrame : Option Frame
  /-- Requests a gateway turned into GETs, with the LOADs they answer (R195). -/
  turned : List (Packet × Packet)
  inReset : Bool
  disabled : Bool
  resetTimes : List Nat
  deriving DecidableEq, Repr

def EndState.reset : EndState :=
  { srcInc := 0, windows := [], clearedAt := none, txns := [], nextTxn := 0, staged := [], landed := [], slotDone := 0,
    combine := [], frames := [], frameNo := 0, sentFrame := none, turned := [], inReset := false, disabled := false, resetTimes := [] }

/-- A packet in an ingress FIFO: when its head flit stands there, in 1/100 ns, each further flit 2.88 ns later (R241), and how many of its
flits have drained (R248). -/
structure FifoPkt where
  tr : Transit
  ready : Nat
  drained : Nat
  deriving DecidableEq, Repr

/-- Credit initialisation as one side sees it (R254). -/
inductive InitState where
  | idle
  /-- It set INIT and waits for the echo. -/
  | asked
  /-- It echoed INIT and waits for the other side to clear it. -/
  | echoed
  /-- It had its echo; the other side's INIT has not cleared yet. -/
  | done
  deriving DecidableEq, Repr

/-- One optical lane: what its source and its receiver hold (R238 to R254). A base lane (s, d, p) has both ends here. Of an external lane the
outgoing one has its source here and the incoming one its receiver (R288). -/
structure LaneState where
  /-- Transmit queue, oldest first. -/
  txq : List Transit
  /-- When the flits begun have left the lane, in 1/100 ns. -/
  busyUntil : Nat
  /-- Flits sent, and freed counts received, by class (R245). -/
  sentReq : Nat
  sentRsp : Nat
  creditReq : Nat
  creditRsp : Nat
  /-- Flits drained at the receiver, by class (R244). -/
  freedReq : Nat
  freedRsp : Nat
  fifoReq : List FifoPkt
  fifoRsp : List FifoPkt
  /-- When the drain of the lane's last drained flit ends, in 1/100 ns (R248). -/
  drainEnd : Nat
  /-- The receiver has declared the lane failed (R253). -/
  failed : Bool
  /-- The source has decoded DOWN for the lane. -/
  down : Bool
  standby : Bool
  /-- The first time a packet flit may start after a wake (R251). -/
  wakeAt : Nat
  /-- When a packet flit or a due link flit last left the lane, in 1/100 ns (R251). -/
  lastUse : Nat
  /-- A resynchronisation runs at the receiver until this time (R252). -/
  resync : Option Nat
  resyncTimes : List Nat
  /-- The source has decoded RESYNC and sends only link flits. -/
  halted : Bool
  /-- Credit initialisation at the source of this lane, with its peer lane the other way (R254). -/
  init : InitState
  initStart : Nat
  /-- When the head packet first found no credit (R465). -/
  stalledSince : Option Nat
  /-- Bit errors of the last complete windows of 1 ms, 1 s and 10 s at the receive end (R281, R304). -/
  errMs : Nat
  errBits : Nat
  errTen : Nat
  deriving DecidableEq, Repr

def LaneState.reset : LaneState :=
  { txq := [], busyUntil := 0, sentReq := 0, sentRsp := 0, creditReq := 0, creditRsp := 0, freedReq := 0, freedRsp := 0,
    fifoReq := [], fifoRsp := [], drainEnd := 0, failed := false, down := false, standby := false, wakeAt := 0, lastUse := 0, resync := none,
    resyncTimes := [], halted := false, init := .idle, initStart := 0, stalledSince := none, errMs := 0, errBits := 0,
    errTen := 0 }

/-- A lane whose source has been reset: what waits at the source is gone (R254, R461). -/
def LaneState.sourceReset (l : LaneState) : LaneState :=
  { l with
    txq := [], busyUntil := 0, sentReq := 0, sentRsp := 0, creditReq := 0, creditRsp := 0, down := false, standby := false, wakeAt := 0, lastUse := 0
    halted := false, init := .idle, initStart := 0, stalledSince := none }

/-- A lane whose receiver has been reset: its FIFOs and freed counts are gone; a lane declared failed stays so (R253, R461). -/
def LaneState.sinkReset (l : LaneState) : LaneState :=
  { l with freedReq := 0, freedRsp := 0, fifoReq := [], fifoRsp := [], resync := none, resyncTimes := [], errMs := 0, errBits := 0, errTen := 0 }

/-- A link flit on its way: the lane that carries it, and when it stands at the receiver, in 1/100 ns. -/
structure LinkWay where
  flit : LinkFlit
  lane : Nat
  at' : Nat
  deriving DecidableEq, Repr

/-- The link flits of one half of an ordered pair (R245): the last one sent, when it began, in 1/100 ns, and those not yet received. -/
structure LinkSide where
  sent : Option LinkFlit
  at' : Nat
  way : List LinkWay
  deriving DecidableEq, Repr

def LinkSide.none : LinkSide := { sent := Option.none, at' := 0, way := [] }

/-- The link flits of one quarter of a fibre pair (R291): the last one sent, and when. -/
structure ExtSide where
  sent : Option ExtLinkFlit
  at' : Nat
  deriving DecidableEq, Repr

def ExtSide.none : ExtSide := { sent := Option.none, at' := 0 }

/-- Plane states (R255). -/
inductive PlaneState where
  | active | closing | retired | locked | opening
  deriving DecidableEq, Repr

def PlaneState.code : PlaneState → Nat
  | .active => 0 | .closing => 1 | .retired => 2 | .locked => 3 | .opening => 4

/-- Bond group states (R332, R345). -/
structure BondGroup where
  failed : List Nat
  /-- Bonds whose symbols are erasures, at most two, with the time of the failure. -/
  marks : List (Nat × Nat)
  spares : Nat
  retired : Bool
  /-- Retirement is due at the next rotation boundary. -/
  retiring : Bool
  /-- The bits corrected in each of the last 16 lanes that crossed the group, newest first (R332). -/
  recent : List (List Nat)
  /-- Bonds that failed the bond test of stage S3. -/
  tested : List Nat
  deriving DecidableEq, Repr

def BondGroup.intact : BondGroup := { failed := [], marks := [], spares := 0, retired := false, retiring := false, recent := [], tested := [] }

/-- What a vault bank access does. -/
inductive VaultAct where
  | read (addr count : Nat)
  /-- A read of `count` bytes in the cached view, at a hashed offset, found in the way at a vault address (R327). -/
  | cached (off addr count : Nat)
  | write (addr : Nat) (bytes : List Byte)
  | atomic (addr : Nat)
  /-- The read that answers a fetch atomic performed in an inbound turn (R325). -/
  | answer (addr : Nat)
  /-- A unit of a fill of a line, written in an inbound turn (R325, R327). -/
  | fill (addr : Nat) (bytes : List Byte) (line : Nat)
  deriving DecidableEq, Repr

def VaultAct.addr : VaultAct → Nat
  | .read a _ => a
  | .cached _ a _ => a
  | .write a _ => a
  | .atomic a => a
  | .answer a => a
  | .fill a _ _ => a

/-- One unit of a request to the vault: for a core of the tower, or from the base. -/
structure VaultReq where
  txn : Nat
  /-- The position of its bytes in the request. -/
  pos : Nat
  act : VaultAct
  ready : Nat
  deriving DecidableEq, Repr

/-- A cache line being filled (R327). -/
structure Fill where
  line : Nat
  /-- The context whose numbering carries the GET. -/
  ctx : Nat
  /-- The GET, once it has been sent. -/
  flight : Option Flight
  /-- Reads that wait for the line: transaction, position, offset in the line, bytes. -/
  waiting : List (Nat × Nat × Nat × Nat)
  /-- A write or removal met the fill: its data is not installed (R328). -/
  dropped : Bool
  /-- Its data, once the GDATA has come. -/
  data : Option (List Byte)
  /-- The way it is being written into, and the units still to be written. -/
  install : Option (Nat × Nat)
  deriving DecidableEq, Repr

/-- A line held in the cache part: set x 16 + way (R327). -/
structure CacheWay where
  valid : Bool
  line : Nat
  filledAt : Nat
  deriving DecidableEq, Repr

/-- Lanes of a vault that a checkpoint still has to read: at most one for each bank. `done` are the banks that have been read, and `at'`
is where the bytes go in the slot being written (R330, R486). -/
structure Save where
  addr : Nat
  len : Nat
  at' : Nat
  done : Tab Bool
  deriving DecidableEq, Repr

/-- One vault die. -/
structure Vault where
  mem : Mem
  /-- Symbols that differ from the codeword: lane x 36 + symbol. -/
  err : Tab Byte
  dirty : Tab Bool
  /-- The vault cycle, + 1, in which each block of the direct part was last written (R330). -/
  wroteAt : Tab Nat
  /-- Own-vault requests by core, and requests from the base by class (0 inbound, 1 outbound, 2 background). -/
  coreReqs : Tab (List VaultReq)
  sideReqs : Tab (List VaultReq)
  /-- Writes of the dump engine, and reads of the checkpoint engine, that wait for background turns (R524). -/
  dumpQ : List (Nat × List Byte)
  saves : List Save
  /-- Units waiting for a down turn to each core (R324). -/
  down : Tab (List PortUnit)
  ways : Tab CacheWay
  fills : List Fill
  /-- Reads that missed with no fill entry free: line, transaction, position, offset in the line, bytes. -/
  fillWait : List (Nat × Nat × Nat × Nat × Nat)
  /-- The last vault cycle each bank served in each phase, + 1. -/
  coreDone : Tab Nat
  sideDone : Tab Nat
  bonds : Tab BondGroup
  /-- Recent uncorrectable crossings of a group: (group, vault cycle). -/
  crossings : List (Nat × Nat)
  /-- Corrections of the present second: (bank x 64 + symbol, lane) (R335). -/
  marksSeen : List (Nat × Nat)
  secondStart : Nat
  scrubLane : Nat
  /-- Corrected lanes whose write-back is due, and when the scrub last read a lane (R335). -/
  scrubFix : List Nat
  scrubAt : Nat
  /-- The present pass has reached its last lane (R523). -/
  passDone : Bool
  /-- Rainflow state: the running extreme and the open turning points of the bond layer, newest first, in 1/16 °C (R334). -/
  turning : List Int
  /-- Damage not yet written to THM_LEDGER, in 1/800 of its unit. -/
  damage : Nat
  deriving DecidableEq, Repr

def Vault.reset : Vault :=
  { mem := [], err := [], dirty := [], wroteAt := [], coreReqs := [], sideReqs := [], dumpQ := [], saves := [], down := [], ways := [], fills := [],
    fillWait := [], coreDone := [], sideDone := [], bonds := [], crossings := [], marksSeen := [], secondStart := 0, scrubLane := 0, scrubFix := [], scrubAt := 0,
    passDone := false, turning := [], damage := 0 }

end Sys2Proof.Machine
end

