-- ==== Sys2Proof/Machine/LightState.lean ====
section
/-!
DEFINITION. What the light of the module holds (08_light_and_fibres.md): bays, the spare matrix, rings, recalibration.
-/
namespace Sys2Proof.Machine
open Sys2Proof

/-- States of a bay (R272). -/
inductive BayState where
  | empty | dark | warming | ready | serving | failed | matching
  deriving DecidableEq, Repr

def BayState.code : BayState → Nat
  | .empty => 0 | .dark => 1 | .warming => 2 | .ready => 3 | .serving => 4 | .failed => 5 | .matching => 6

/-- One bay. -/
structure Bay where
  st : BayState
  latched : Bool
  /-- The bay its last MATCH followed, and the one a MATCH in progress follows. -/
  followed : Option Nat
  following : Option Nat
  /-- The cartridge has been inserted since its path was last lit (R274). -/
  fresh : Bool
  /-- It fed a path when its MATCH began. -/
  serves : Bool
  deriving DecidableEq, Repr

def Bay.none : Bay := { st := .empty, latched := false, followed := Option.none, following := Option.none, fresh := false, serves := false }

/-- Lock states of a ring, with the codes of R304. -/
inductive RingState where
  | off | acquiring | locked | wrongLine | lockLost
  deriving DecidableEq, Repr

def RingState.code : RingState → Nat
  | .off => 0 | .acquiring => 1 | .locked => 2 | .wrongLine => 3 | .lockLost => 4

/-- One ring: its lock state, its fine-lock offset in heater codes, and its heater slope in codes per 100 GHz (R276, R277, R280). Its
feed-forward code follows from its tuning table and the temperatures of the last evaluation. -/
structure Ring where
  st : RingState
  /-- Since when |detuning| has been at most 1 GHz. -/
  steady : Option Nat
  toneOk : Bool
  offset : Int
  /-- The park code it is set to after it entered WRONG LINE, until it re-acquires (R280). -/
  parked : Option Nat
  slope : Int
  /-- Detuning in 0.125 GHz steps. -/
  detune : Int
  deriving DecidableEq, Repr

def Ring.off : Ring := { st := .off, steady := none, toneOk := false, offset := 0, parked := none, slope := 0, detune := 0 }

/-- The temperatures that set the feed-forward codes, as the last Bimetal evaluation had them, in 1/16 °C: of the nodes, and of the reference
diodes where the model ran in its conservative mode (R276). -/
structure FeedTemps where
  conservative : Bool
  nodes : Tab Int
  diodes : Tab (Option Int)
  deriving DecidableEq, Repr

/-- The light of the module. -/
structure Light where
  bays : Tab Bay
  /-- The spare matrix is switching the path of a bay: to CB6, or back (R275). -/
  switching : Option (Nat × Bool)
  relocked : Bool
  /-- The bay whose path was switched last, until the next switch starts (R299). -/
  lastSwitched : Option Nat
  /-- Planes and fibre pairs whose rings are relocking after a switch (R280). -/
  acquiring : List Nat
  /-- When the path of each bay was last lit so that its commissioning values are due (R274). -/
  lit : Tab (Option Nat)
  /-- Commissioning power of a line, by (plane or pair) x 32 + line, in 0.1 dBm, and the lighting it belongs to. -/
  commission : Tab (Option (Int × Nat))
  /-- How far each line lies below its commissioning value, in 0.1 dB. -/
  below : Tab Nat
  /-- Rings, by lane x 2, + 1 for the transmit ring; a ring not listed is in the lock state its plane or fibre pair has in `common`. -/
  rings : Tab Ring
  common : Tab RingState
  /-- What the feed-forward codes follow; none until the tables are loaded at stage S2 (R276). -/
  feed : Option FeedTemps
  /-- Tuning tables: ring x 24 + point (R276). -/
  tuning : Tab Nat
  /-- The bay whose spare procedure runs, and the FADING bays in the order they became so (R287). -/
  proc : Option Nat
  /-- The step of R287 whose end the procedure waits for. -/
  procStep : Nat
  fading : List Nat
  /-- The plane or fibre pair being recalibrated, the next in rolling order, drift recalibrations scheduled, and when each was
  last recalibrated (R284). -/
  calBusy : Option Nat
  calNext : Nat
  drift : List Nat
  calLast : Tab Nat
  /-- How often a lane has reached the warning threshold (R283). -/
  warnings : Nat
  /-- A ring correction above 20 GHz was found (R285). -/
  ringFlag : Bool
  deriving DecidableEq, Repr

def Light.reset : Light :=
  { bays := [], switching := none, relocked := false, lastSwitched := none, acquiring := [], lit := [], commission := [], below := [],
    rings := [], common := [], feed := none, tuning := [], proc := none, procStep := 0, fading := [], calBusy := none, calNext := 0, drift := [], calLast := [], warnings := 0, ringFlag := false }

end Sys2Proof.Machine
end

