-- ==== Sys2Proof/Machine/PowerState.lean ====
section
/-!
DEFINITION. What the clocks, Constantan time, the power feeds and the Bimetal model hold (10_clocks_power_and_heat.md).
-/
namespace Sys2Proof.Machine
open Sys2Proof

/-- A change of ladder point announced and not yet made (R361). -/
structure PointChange where
  point : Nat
  epoch : Nat
  /-- The check at E − 2 µs has passed. -/
  checked : Bool
  /-- The feed ceiling and that of the conservative mode as they stood at A, and whether an evaluation has since found one lower. -/
  ceilings : List Nat
  fell : Bool
  deriving DecidableEq, Repr

/-- The clock ladder and its governor (R360, R361). -/
structure Ladder where
  point : Nat
  change : Option PointChange
  /-- E of the last completed change, and the point before it. -/
  lastEpoch : Nat
  before : Nat
  /-- VCORE set point commanded over AVSBus, in mV. -/
  setMv : Nat
  target : Nat
  limiter : Nat
  /-- The limit a throttle request set: its point, the last request, and when it last rose (R360). -/
  stretch : Option (Nat × Nat × Nat)
  /-- Since when every limit has allowed a higher point. -/
  upSince : Option Nat
  /-- Core current, core power and auxiliary power of the last evaluation. -/
  seen : Nat × Nat × Nat
  /-- The job's CLOCK_POINT while it is STARTING or RUNNING. -/
  jobPoint : Option Nat
  /-- Rows to which a stretch request arrives in the next core cycle, by tower, as a mask (R351). -/
  asked : Tab Nat
  /-- Stretched cycles of the present window, by tower x 16 + row (R352). -/
  stretched : Tab Nat
  /-- The skew trims of the crossings between regions, tower x 15 + lower row: set at stage S3 (R349). -/
  skews : List Int
  /-- When the wake of a row (17 x tower + row) or of a die (17 x tower + 16) began (R362). -/
  waking : Tab (Option Nat)
  deriving DecidableEq, Repr

def Ladder.reset : Ladder :=
  { point := 15, change := none, lastEpoch := 0, before := 15, setMv := 800, target := 15, limiter := 0, stretch := none, upSince := none, seen := (0, 0, 0)
    jobPoint := none, asked := [], stretched := [], skews := [], waking := [] }

/-- States of a VCORE feed (R386). -/
inductive FeedMode where
  | active | failed | trial | latched | off
  deriving DecidableEq, Repr

def FeedMode.code : FeedMode → Nat
  | .active => 0 | .failed => 1 | .trial => 2 | .latched => 3 | .off => 4

/-- One VCORE feed and its regulator (R365, R366, R425, R426, R530). -/
structure Feed where
  st : FeedMode
  mv : Nat
  amps : Nat
  /-- Since when its voltage, and its share, have been out of bounds. -/
  voltSince : Option Nat
  shareSince : Option Nat
  /-- Its regulator reports a fault; transactions in a row without an answer. -/
  fault : Bool
  silent : Nat
  /-- VCORE_EN fell at this time. -/
  offAt : Nat
  /-- VCORE_EN rose at a start and the feed is not yet ACTIVE (R436, R532). -/
  enabledAt : Option Nat
  /-- FAILED, with no fault reported and its input good, since. -/
  clearSince : Option Nat
  /-- TRIAL, within R365, since. -/
  trialSince : Option Nat
  /-- When it became ACTIVE from TRIAL. -/
  readmitted : Option Nat
  fails : Nat
  cause : Nat
  deriving DecidableEq, Repr

def Feed.off : Feed :=
  { st := .off, mv := 0, amps := 0, voltSince := none, shareSince := none, fault := false, silent := 0, offAt := 0,
    enabledAt := none, clearSince := none, trialSince := none, readmitted := none, fails := 0, cause := 0 }

/-- One VAUX feed (R367, R531). -/
structure Vaux where
  failed : Bool
  connected : Bool
  mv : Nat
  /-- When the input of a failed feed was last seen out of range. -/
  failedAt : Nat
  deriving DecidableEq, Repr

/-- Both at 12 V. -/
def Vaux.good : Vaux := { failed := false, connected := true, mv := 12000, failedAt := 0 }

/-- The Bimetal model, the diodes, throttle and shutdown (R370 to R376). Temperatures are in 1/16 °C. -/
structure Thermal where
  /-- Modelled temperatures by node. -/
  temps : Tab Int
  /-- Reference diodes by die x 4 + i; none before the first sample. -/
  diodes : Tab (Option Int)
  /-- Largest error of each die at the last comparison. -/
  errMax : Tab Nat
  /-- Moves of each die's conduction coefficient, by 2 % up and by 2 % down (R373). -/
  coefUp : Tab Nat
  coefDown : Tab Nat
  conservative : Bool
  /-- Since when the error of every die has stayed at or below 4 °C. -/
  smallSince : Option Nat
  fast : Bool
  steps : Nat
  rose : Option Nat
  changed : Option Nat
  shutdown : Bool
  /-- The last write of THM_CTRL.INLET. -/
  inletAt : Option Nat
  /-- The MRAM write windows of C0 and C1 (R377). -/
  window0 : Bool
  window1 : Bool
  deriving DecidableEq, Repr

/-- Right after a start: nothing evaluated yet. -/
def Thermal.reset : Thermal :=
  { temps := [], diodes := [], errMax := [], coefUp := [], coefDown := [], conservative := false, smallSince := none, fast := false,
    steps := 0, rose := none, changed := none, shutdown := false, inletAt := none, window0 := true, window1 := true }

/-- A node's modelled temperature; 20 °C before the first evaluation. -/
def Thermal.temp (t : Thermal) (node : Nat) : Int := t.temps.get 320 node

/-- The latest time flit received on a fibre pair (R356). -/
structure HeardTime where
  locked : Bool
  stratum : Nat
  /-- T_TX of the flit and the time of its arrival here. -/
  sent : Nat
  arrived : Nat
  deriving DecidableEq, Repr

/-- The module's part in its domain's time (R355 to R359). -/
structure TimeSync where
  heard : Tab (Option HeardTime)
  /-- Consecutive measurements within 4 ns, and whether a follower is locked. -/
  good : Nat
  locked : Bool
  lastMeasure : Option Nat
  source : Nat
  stratum : Nat
  theta : Int
  /-- Present rate correction in ppm, toward θ = 0. -/
  steer : Int
  /-- What the correction has gathered towards one advance of the count more or less, in millionths. -/
  slip : Int
  /-- Stage S2 has ended: a solitary or master module is locked. -/
  s2Done : Bool
  /-- Endpoints that receive λ24, by plane: plane x 24 + endpoint lost (R354). -/
  lost24 : Tab Bool
  /-- Since when an endpoint receives λ24 on no plane. -/
  blind : Tab (Option Nat)
  /-- The time flit each fibre pair sent last. -/
  sent : Tab (Option TimeFlit)
  /-- The lane that carried it, + 1. -/
  sentOn : Tab Nat
  /-- The flight delay of each plane to each endpoint, plane x 24 + endpoint, that corrects the copies of the count: measured at stage S2 (R354). -/
  delays : List Nat
  /-- A step of the count skips the dump boundary that follows (R513). -/
  skipDump : Bool
  deriving DecidableEq, Repr

def TimeSync.reset : TimeSync :=
  { heard := [], good := 0, locked := false, lastMeasure := none, source := 31, stratum := 15, theta := 0, steer := 0, slip := 0, s2Done := false,
    lost24 := [], blind := [], sent := [], sentOn := [], delays := [], skipDump := false }

/-- What an MRAM write writes: a register field, a ring's tuning table, the spares of a bond group, a die's coefficient, the saved
state record, Babbitt's record of its progress (R23, R276, R332, R373, R438, R523). -/
inductive MramItem where
  | field (off hi lo : Nat)
  | ring (key : Nat)
  /-- The commissioning value of a line (R274). -/
  | commission (key : Nat)
  | spares (tower group : Nat)
  | coefficient (die : Nat)
  | saved
  | progress
  deriving DecidableEq, Repr

/-- An MRAM write that waits for its chiplet's window, with what is still stored (R378). -/
structure MramEntry where
  item : MramItem
  stored : List Nat
  deriving DecidableEq, Repr

/-- Power, clocks and heat. -/
structure Power where
  ladder : Ladder
  feedA : Feed
  feedB : Feed
  vauxA : Vaux
  vauxB : Vaux
  thermal : Thermal
  time : TimeSync
  /-- Queued MRAM writes, oldest first. -/
  queue : List MramEntry
  /-- VAUX is good: Pewter runs. -/
  on : Bool
  /-- When REFCLK was lost; it has been present since VAUX good (R539, R540). -/
  refLost : Option Nat
  refSeen : Bool
  deriving DecidableEq, Repr

def Power.reset : Power :=
  { ladder := Ladder.reset, feedA := Feed.off, feedB := Feed.off, vauxA := Vaux.good, vauxB := Vaux.good, thermal := Thermal.reset,
    time := TimeSync.reset, queue := [], on := true, refLost := none, refSeen := true }

end Sys2Proof.Machine
end

