-- ==== Sys2Proof/Machine/ModuleState.lean ====
section
/-!
DEFINITION. What the job, the start, the ports, the pair, resets, dumps and Babbitt hold (06 and 11 to 14 of the spec).
-/
namespace Sys2Proof.Machine
open Sys2Proof

/-- An expert move decided and not yet run (R200, R201): placement entry, new WHERE, and when it was decided. -/
structure Move where
  entry : Nat
  place : Nat
  decided : Nat
  deriving DecidableEq, Repr

/-- The registers an enable latches (R206): package offset, length, and the expected digest. -/
structure JobLatch where
  addr : Nat
  len : Nat
  digest : List Word
  /-- When ENABLE was written, and whether a host CXL port wrote it (R222). -/
  at' : Nat
  host : Bool
  deriving DecidableEq, Repr

/-- The job (R206 to R226). -/
structure Job where
  latch : Option JobLatch
  /-- The enable buffer. -/
  buffer : List Byte
  /-- The package of the job loaded last. -/
  live : List Byte
  /-- Constantan time of the end of the check. -/
  checkedAt : Nat
  /-- The start time S while STARTING. -/
  start : Option Nat
  /-- WHERE and MOVES of the placement entries (R199). -/
  places : Tab Nat
  moved : Tab Nat
  moves : List Move
  /-- The last signed enable record with its signature, since the last module reset (R223, R450). -/
  record : Option (List Byte)
  deriving DecidableEq, Repr

def Job.none : Job :=
  { latch := Option.none, buffer := [], live := [], checkedAt := 0, start := Option.none, places := [], moved := [], moves := [],
    record := Option.none }

/-- A slot of the NOR flash: its state (R456) and its bytes (R439). -/
structure Bank where
  st : Nat
  image : List Byte
  /-- The image's signature verifies under the vendor firmware key (R441, R443). -/
  genuine : Bool
  deriving DecidableEq, Repr

def Bank.empty : Bank := { st := 0, image := [], genuine := false }

/-- An image that runs: its header and its number (R440). -/
structure Running where
  header : List Byte
  version : Nat
  svn : Nat
  deriving DecidableEq, Repr

/-- Steps of a live activation (R449, R455). -/
structure Activation where
  /-- 1 C1 restarting; 2 C1 primary, C0 restarting; 3 C0 taking the primary role back. -/
  state : Nat
  /-- The bank to return to. -/
  oldBank : Nat
  /-- When the restart of the present step began. -/
  since : Nat
  deriving DecidableEq, Repr

/-- The signature state of one identity key (R445, R446). -/
structure Ots where
  next : Nat
  /-- RESERVED_END as MRAM holds it. -/
  reserved : Nat
  generation : Nat
  /-- Step of a replacement of the key that is due or running. -/
  replacing : Bool
  /-- Successor records with their signatures, in order of GENERATION. -/
  successors : List (List Byte)
  deriving DecidableEq, Repr

def Ots.reset : Ots := { next := 0, reserved := 0, generation := 0, replacing := false, successors := [] }

/-- The saved state record (R438): the images it was made under, and the stepping. -/
structure Saved where
  good : Bool
  training : List Byte
  test : List Byte
  stepping : Nat
  /-- The flight delays of the planes, and the skew trims (R438). -/
  delays : List Nat
  skews : List Int
  deriving DecidableEq, Repr

/-- Firmware, identity and the start (R434 to R457). -/
structure Start where
  /-- Stage S0 has been completed. -/
  s0 : Bool
  /-- The last stage completed, as HW_SUMMARY.STAGE reads. -/
  stage : Nat
  /-- When the stage that runs began to be measured. -/
  since : Nat
  /-- A stage failed: the start has stopped. -/
  stopped : Bool
  /-- The stage that runs has met what R436 fails it for. -/
  short : Bool
  holding : Bool
  /-- The hold of this start has been ended. -/
  released : Bool
  memKept : Bool
  lastSaved : Bool
  fallbacks : Nat
  s2ms : Nat
  s3ms : Nat
  saved : Option Saved
  banks : Tab Bank
  /-- Images that run: 0 and 1 management of C0 and C1, 2 training, 3 test. -/
  running : Tab (Option Running)
  /-- The last start used the inactive bank, by kind. -/
  fallback : Tab Bool
  /-- Management processors of C0 and C1 run. -/
  up0 : Bool
  up1 : Bool
  /-- C1 holds the primary role, and since when the present holder has held it. -/
  primary1 : Bool
  primarySince : Nat
  act : Option Activation
  /-- The copy of the management image that C0 reads from the flash is damaged (R441, assumption 148). -/
  badCopy0 : Bool
  /-- The copy of the management image that C1 reads from the flash is damaged (R441, assumption 148). -/
  badCopy1 : Bool
  ots0 : Ots
  ots1 : Ots
  deriving DecidableEq, Repr

def Start.reset : Start :=
  { s0 := true, stage := 0, since := 0, stopped := false, short := false, holding := false, released := false, memKept := false, lastSaved := false,
    fallbacks := 0, s2ms := 0, s3ms := 0, saved := none, banks := [], running := [], fallback := [], up0 := true, up1 := true,
    primary1 := false, primarySince := 0, act := none, badCopy0 := false, badCopy1 := false, ots0 := Ots.reset, ots1 := Ots.reset }

/-- The CXL link of a host port (R396, R408). -/
structure Cxl where
  perst : Bool
  up : Bool
  width : Nat
  rate : Nat
  lopt : Bool
  deriving DecidableEq, Repr

def Cxl.down : Cxl := { perst := true, up := false, width := 0, rate := 0, lopt := false }

/-- What a CXL.mem request returned: its tag, its data, and the poison bit (R400, R401). -/
structure CxlAnswer where
  tag : Nat
  data : List Byte
  poison : Bool
  deriving DecidableEq, Repr

/-- The last entry of the host command ring: its index, STATUS and RESULT (R411, R412). -/
structure HcmdDone where
  index : Nat
  status : Nat
  result : List Byte
  deriving DecidableEq, Repr

/-- A response of the management port or of the UART (R422, R433). -/
structure Answer where
  seq : Nat
  status : Nat
  payload : List Byte
  deriving DecidableEq, Repr

/-- The I3C target (R421). -/
structure I3c where
  address : Option Nat
  /-- Target events (IBI) are enabled. -/
  events : Bool
  mwl : Nat
  mrl : Nat
  rstact : Nat
  /-- The data a CCC returned last. -/
  answer : List Byte
  /-- The last IBI sent: its data byte. -/
  ibi : Option Nat
  deriving DecidableEq, Repr

def I3c.reset : I3c := { address := none, events := true, mwl := 262, mrl := 262, rstact := 0, answer := [], ibi := none }

/-- A CXL.mem request that waits for an earlier one to its line (R400). -/
structure MemReq where
  port : Bool
  tag : Nat
  /-- The offset in the hashed region it reached as it arrived. -/
  off : Nat
  /-- The bytes of a write; none for a read. -/
  data : Option (List Byte)
  deriving DecidableEq, Repr

/-- The ports (R391 to R433). -/
structure Ports where
  cxlA : Cxl
  cxlB : Cxl
  /-- The latches of R19: register offset and half, by path, and by 8 + 2 x endpoint + host port for those of the endpoint blocks (R163). -/
  latches : Tab (Option (Nat × Lane))
  /-- What the last read of each path returned. -/
  answers : Tab (Option Word)
  /-- The last CXL.mem answer of each host port, and the last DOE response. -/
  mem : Tab (Option CxlAnswer)
  /-- Failures logged in the CXL RAS capability of each host port (R401). -/
  ras : Tab Nat
  waiting : List MemReq
  doe : Tab (List Byte)
  /-- VALUE_LO of the host doorbells (R409). -/
  lows : Tab Lane
  hcmd : Option HcmdDone
  /-- MSI-X tables by port x 8 + word, pending bits and messages sent by port x 4 + vector (R405, R406). -/
  msix : Tab Word
  msixPending : Tab Bool
  msixSent : Tab Nat
  elvef : Option Answer
  uart : Option Answer
  i3c : I3c
  /-- JTAG: the selected instruction, 0 BYPASS, 1 IDCODE, 2 SAMPLE/PRELOAD, 3 EXTEST, 4 CLAMP, 5 HIGHZ, 6 private; dies whose
  clocks a scan has stopped. -/
  jtag : Nat
  /-- The IDCODE register, while IDCODE is the selected instruction. -/
  jtagOut : Option Nat
  scanned : Tab Bool
  /-- The health window's words (R413, R414), and its snapshot count. -/
  window : Tab Word
  snap : Nat
  deriving DecidableEq, Repr

def Ports.reset : Ports :=
  { cxlA := Cxl.down, cxlB := Cxl.down, latches := [], answers := [], mem := [], ras := [], waiting := [], doe := [], lows := [], hcmd := none, msix := [],
    msixPending := [], msixSent := [], elvef := none, uart := none, i3c := I3c.reset, jtag := 1, jtagOut := none, scanned := [], window := [], snap := 0 }

/-- What the pair holds beside its registers (R480 to R484). -/
structure Pair where
  /-- 0 unpaired, 1 active, 2 standby. -/
  role : Nat
  /-- The last accepted message and when it came; none since the link came up. -/
  heard : Option PartnerMsg
  heardAt : Nat
  up : Bool
  /-- The TERM recorded for the partner as active. -/
  activeTerm : Option Nat
  /-- A RELEASE has been accepted. -/
  released : Bool
  /-- The message sent last. -/
  sent : Option PartnerMsg
  /-- TAKEOVER is sent in place of heartbeats until this time. -/
  takeoverUntil : Nat
  /-- The standby has been healthy beside an active partner since (R484). -/
  healthySince : Option Nat
  /-- A release has been asked for at the next checkpoint (R480); the checkpoint that runs releases; the first RELEASE went out at,
  and how many are still to be sent. -/
  releaseAsked : Bool
  releasing : Bool
  releasedAt : Option Nat
  releaseLeft : Nat
  deriving DecidableEq, Repr

def Pair.reset : Pair :=
  { role := 0, heard := none, heardAt := 0, up := false, activeTerm := none, released := false, sent := none, takeoverUntil := 0,
    healthySince := none, releaseAsked := false, releasing := false, releasedAt := none, releaseLeft := 0 }

/-- A reset that runs or waits for its dump (R461, R466, R469). -/
structure ResetRun where
  domain : Nat
  unit : Nat
  code : Nat
  /-- When it was asked for, and when it started; none while its dump runs. -/
  asked : Nat
  started : Option Nat
  escalated : Bool
  deriving DecidableEq, Repr

/-- The dump areas' positions: next code entry and next sample set by tower, and of the overflow ring (R470, R471). -/
structure Dumps where
  code : Tab Nat
  set : Tab Nat
  overflow : Nat
  deriving DecidableEq, Repr

/-- A solo replay (R472). -/
structure Replay where
  core : Nat
  thread : Nat
  started : Nat
  limit : Nat
  deriving DecidableEq, Repr

/-- A captured `tmma` (R478): its context, its word, the four registers and ROUND. -/
structure Capture where
  ctx : Nat
  word : Word
  xa : Word
  xb : Word
  xm : Word
  xs : Word
  round : Nat
  tile : Nat
  deriving DecidableEq, Repr

/-- A witness sample: its number, the core sampled, the witness context, and the doorbell's time (R477 to R479). -/
structure Sample where
  j : Nat
  core : Nat
  witness : Nat
  /-- The operation captured; none while the core is armed. -/
  cap : Option Capture
  /-- Its run is over and its tile waits to be copied. -/
  ran : Bool
  sentAt : Option Nat
  deriving DecidableEq, Repr

/-- The witness engine (R477). -/
structure Witness where
  lastStep : Nat
  sample : Option Sample
  /-- The witness-mismatch flag of partner messages. -/
  mismatch : Bool
  deriving DecidableEq, Repr

/-- The checkpoint engine (R485 to R488). -/
structure Ckpt where
  /-- When CKPT_DUE last rose. -/
  dueAt : Nat
  /-- The checkpoint or restore that runs: its number, and when it began. -/
  running : Option (Nat × Nat)
  restoring : Bool
  /-- The slot that holds CKPT_DONE: 0 A, 1 B. -/
  slot : Nat
  /-- Checkpoints completed since the enable. -/
  count : Nat
  /-- Tags read as set, tower x 32,768 + block, at this checkpoint or kept from a failed one, and at the last completed one. -/
  tags : Tab Bool
  lastTags : Tab Bool
  lastMs : Nat
  /-- A read of the checkpoint that runs has met what it could not read. -/
  bad : Bool
  /-- What the module has written to slots A and B of pool memory. -/
  slotA : Mem
  slotB : Mem
  deriving DecidableEq, Repr

/-- A snapshot of the counters, with what a record's header takes beside them (R513, R515). -/
structure Snapshot where
  time : Nat
  /-- The counter registers, by MRS offset. -/
  words : Tab Word
  groups : Nat
  tag : Nat
  point : Nat
  /-- Boundaries skipped, and endpoints reset, since the snapshot before it. -/
  missed : Nat
  resets : Nat
  deriving DecidableEq, Repr

/-- The counter dump engine (R513 to R517). -/
structure DumpEngine where
  /-- The record being gathered or written: its first and its last snapshot. -/
  shadow : Option (Snapshot × Snapshot)
  previous : Option Snapshot
  /-- Records written since EN. -/
  seq : Nat
  /-- Boundaries skipped, and endpoints reset (a mask), since the previous snapshot. -/
  missed : Nat
  resets : Nat
  /-- The boundary served last. -/
  boundary : Nat
  /-- A write of the record that is being written has failed. -/
  bad : Bool
  /-- The record's header, by its offset in the hashed region, until its blocks are written (R517). -/
  header : Option (Nat × List Byte)
  deriving DecidableEq, Repr

/-- Babbitt's records (R523 to R526). -/
structure Babbitt where
  /-- Recorded positions: lines by channel, lanes by 288 + tower, and the recalibration order at 296. -/
  recorded : Tab Nat
  /-- MRAM write counts: of each 4 KiB block since its last move, and of each physical block in total; and the map from blocks to physical
  blocks (as physical XOR block). The key of a block is 2 x its number + its chiplet. -/
  recent : Tab Nat
  total : Tab Nat
  map : Tab Nat
  deriving DecidableEq, Repr

/-- The rest of the module. -/
structure Module where
  job : Job
  start : Start
  ports : Ports
  pair : Pair
  resets : List ResetRun
  /-- When the rows were reset of late, by 16 x tower + row (R467). -/
  rowTimes : Tab (List Nat)
  /-- When the reset of an endpoint for want of λ24 completed (R468). -/
  blind : Tab (Option Nat)
  dumps : Dumps
  replay : Option Replay
  witness : Witness
  ckpt : Ckpt
  engine : DumpEngine
  babbitt : Babbitt
  deriving DecidableEq, Repr

def Module.reset : Module :=
  { job := Job.none, start := Start.reset, ports := Ports.reset, pair := Pair.reset, resets := [], rowTimes := [], blind := [],
    dumps := { code := [], set := [], overflow := 0 }, replay := none,
    witness := { lastStep := 0, sample := none, mismatch := false },
    ckpt := { dueAt := 0, running := none, restoring := false, slot := 0, count := 0, tags := [], lastTags := [], lastMs := 0, bad := false, slotA := [], slotB := [] },
    engine := { shadow := none, previous := none, seq := 0, missed := 0, resets := 0, boundary := 0, bad := false, header := none },
    babbitt := { recorded := [], recent := [], total := [], map := [] } }

end Sys2Proof.Machine
end

