-- ==== Sys2Proof/Machine/RegMap.lean ====
section
/-!
DEFINITION. The register map of the module register space: every register's place, fields, access codes, Reset column
and writers (R17 to R23, R394, R405, and the register tables of each chapter).
-/
namespace Sys2Proof.Machine

/-- The registers of the module register space. -/
inductive Reg where
  /-- HW_ACCESS (R420). -/
  | hwAccess
  /-- MOD_ID (R407). -/
  | modId
  /-- MOD_LINK (R408). -/
  | modLink
  /-- MOD_SERVICE (R432). -/
  | modService
  /-- MOD_PARTNER (R430). -/
  | modPartner
  /-- MOD_START (R437). -/
  | modStart
  /-- MOD_RESET (R491). -/
  | modReset
  /-- MOD_HANG (R492). -/
  | modHang
  /-- MOD_REPLAY (R493). -/
  | modReplay
  /-- MOD_PAIR (R494). -/
  | modPair
  /-- MOD_PAIR_STATUS (R495). -/
  | modPairStatus
  /-- MOD_CKPT_BASE (R496). -/
  | modCkptBase
  /-- MOD_CKPT_CTRL (R496). -/
  | modCkptCtrl
  /-- MOD_CKPT_STATUS (R497). -/
  | modCkptStatus
  /-- MOD_WITNESS (R498). -/
  | modWitness
  /-- MOD_BG_CTRL (R527). -/
  | modBgCtrl
  /-- MOD_BG_STATUS (R527). -/
  | modBgStatus
  /-- MOD_PLATFORM (R540). -/
  | modPlatform
  /-- TIME_REMOTE_TO (R187). -/
  | timeRemoteTo
  /-- TIME_NOW (R380). -/
  | timeNow
  /-- TIME_CTRL (R381). -/
  | timeCtrl
  /-- TIME_STATUS (R382). -/
  | timeStatus
  /-- TIME_SET (R381). -/
  | timeSet
  /-- JOB_CTRL (R230). -/
  | jobCtrl
  /-- JOB_STATUS (R231). -/
  | jobStatus
  /-- JOB_PKG_ADDR (R232). -/
  | jobPkgAddr
  /-- JOB_PKG_LEN (R232). -/
  | jobPkgLen
  /-- JOB_DETAIL (R234). -/
  | jobDetail
  /-- JOB_START (R235). -/
  | jobStart
  /-- JOB_EXPERT_CMD (R236). -/
  | jobExpertCmd
  /-- JOB_TAG (R235). -/
  | jobTag
  /-- JOB_DIGEST (R233). -/
  | jobDigest
  /-- MOD_HCMD_BASE (R411). -/
  | modHcmdBase
  /-- MOD_HCMD_CTRL (R411). -/
  | modHcmdCtrl
  /-- MOD_HCMD_TAIL (R411). -/
  | modHcmdTail
  /-- MOD_HCMD_HEAD (R411). -/
  | modHcmdHead
  /-- MOD_HDB_TGT (R409). -/
  | modHdbTgt
  /-- MOD_HDB_RING (R409). -/
  | modHdbRing
  /-- MOD_ROUTE (R165). -/
  | modRoute
  /-- PBL_CTRL (R263). -/
  | pblCtrl
  /-- PBL_SET (R264). -/
  | pblSet
  /-- PBL_EPOCH_TIME (R265). -/
  | pblEpochTime
  /-- PBL_EPOCH_CMD (R265). -/
  | pblEpochCmd
  /-- PBL_EPOCH_STATUS (R266). -/
  | pblEpochStatus
  /-- PBL_PLANE (R267). -/
  | pblPlane
  /-- PBL_PAIR (R268). -/
  | pblPair
  /-- OPT_CB (R297). -/
  | optCb
  /-- OPT_CB_CMD (R298). -/
  | optCbCmd
  /-- OPT_SPARE (R299). -/
  | optSpare
  /-- OPT_CAL (R300). -/
  | optCal
  /-- OPT_FEPOCH_TIME (R301). -/
  | optFepochTime
  /-- OPT_FEPOCH_CMD (R301). -/
  | optFepochCmd
  /-- OPT_FEPOCH_STATUS (R302). -/
  | optFepochStatus
  /-- OPT_LANE_SEL (R303). -/
  | optLaneSel
  /-- OPT_LANE_STAT (R304). -/
  | optLaneStat
  /-- OPT_FIBRE (R305). -/
  | optFibre
  /-- CLK_POINT (R383). -/
  | clkPoint
  /-- CLK_EPOCH (R383). -/
  | clkEpoch
  /-- FEED_CTRL (R385). -/
  | feedCtrl
  /-- FEED_LIMIT (R385). -/
  | feedLimit
  /-- FEED_VCORE (R386). -/
  | feedVcore
  /-- FEED_VAUX (R387). -/
  | feedVaux
  /-- THM_CTRL (R388). -/
  | thmCtrl
  /-- THM_STATUS (R389). -/
  | thmStatus
  /-- THM_DIE (R390). -/
  | thmDie
  /-- SEC_CTRL (R454). -/
  | secCtrl
  /-- SEC_STATUS (R455). -/
  | secStatus
  /-- SEC_IMAGE (R456). -/
  | secImage
  /-- SEC_OTS (R457). -/
  | secOts
  /-- DMP_CTRL (R519). -/
  | dmpCtrl
  /-- DMP_RING_BASE (R520). -/
  | dmpRingBase
  /-- DMP_RING_SLOTS (R520). -/
  | dmpRingSlots
  /-- DMP_HEAD (R520). -/
  | dmpHead
  /-- DMP_TAIL (R520). -/
  | dmpTail
  /-- DMP_STATUS (R521). -/
  | dmpStatus
  /-- VLT_CTRL (R341). -/
  | vltCtrl
  /-- VLT_STATUS (R342). -/
  | vltStatus
  /-- VLT_ERASE (R343). -/
  | vltErase
  /-- VLT_ECC (R344). -/
  | vltEcc
  /-- VLT_BOND_SEL (R345). -/
  | vltBondSel
  /-- VLT_BOND_STAT (R345). -/
  | vltBondStat
  /-- VLT_PWR_BOND (R346). -/
  | vltPwrBond
  /-- THM_LEDGER (R346). -/
  | thmLedger
  /-- CLK_TOWER_CTRL (R384). -/
  | clkTowerCtrl
  /-- CLK_TOWER_STATUS (R384). -/
  | clkTowerStatus
  /-- CORE_ID (R71). -/
  | coreId
  /-- CORE_CTRL (R72). -/
  | coreCtrl
  /-- CORE_STATUS (R73). -/
  | coreStatus
  /-- CORE_UNIT_MAP (R74). -/
  | coreUnitMap
  /-- CORE_FAULT (R75). -/
  | coreFault
  /-- CORE_FAULT_ADDR (R76). -/
  | coreFaultAddr
  /-- CORE_SPAD_ECC (R77). -/
  | coreSpadEcc
  /-- CORE_SPAD_ERASE (R78). -/
  | coreSpadErase
  /-- CORE_THREAD (R79). -/
  | coreThread
  /-- PMC_SEL (R500). -/
  | pmcSel
  /-- PMC_CNT (R501). -/
  | pmcCnt
  /-- MEM_PORT_STATUS (R337). -/
  | memPortStatus
  /-- MEM_CH (R338). -/
  | memCh
  /-- MEM_SLOT (R339). -/
  | memSlot
  /-- PMC_CH (R510). -/
  | pmcCh
  /-- PMC_EP_BYTES (R506). -/
  | pmcEpBytes
  /-- PMC_EP_QUEUE (R508). -/
  | pmcEpQueue
  /-- PMC_EP_STALL (R506). -/
  | pmcEpStall
  /-- PMC_EP_EVENT (R506). -/
  | pmcEpEvent
  /-- PMC_FIBRE (R506). -/
  | pmcFibre
  /-- PMC_EP_EGRESS (R506). -/
  | pmcEpEgress
  /-- PMC_EP_INGRESS (R506). -/
  | pmcEpIngress
  deriving DecidableEq, Repr

/-- The access codes of R20. -/
inductive Access where
  | ro | rw | w1c | w1s | rc | wo
  deriving DecidableEq, Repr

/-- One field of a register. -/
structure Field where
  hi : Nat
  lo : Nat
  acc : Access
  /-- The Reset column where it gives a value; 0 for "live" and "kept" (R23). -/
  reset : Nat
  /-- Backed by MRAM (R23). -/
  kept : Bool
  deriving DecidableEq, Repr

/-- Where a register lies: its first offset, and the strides and counts of its copies; and who may write it: host ports,
the management port, the management processors (R394). -/
structure Place where
  base : Nat
  dims : List (Nat × Nat)
  host : Bool
  mgmt : Bool
  proc : Bool
  deriving DecidableEq, Repr

def Reg.place : Reg → Place
  | .hwAccess => ⟨0x1000, [], false, false, false⟩
  | .modId => ⟨0x10000, [], false, true, true⟩
  | .modLink => ⟨0x10008, [], false, false, false⟩
  | .modService => ⟨0x10010, [], false, true, true⟩
  | .modPartner => ⟨0x10018, [], false, true, true⟩
  | .modStart => ⟨0x10040, [], false, true, true⟩
  | .modReset => ⟨0x10048, [], false, true, true⟩
  | .modHang => ⟨0x10050, [], false, true, true⟩
  | .modReplay => ⟨0x10058, [], true, false, true⟩
  | .modPair => ⟨0x10060, [], false, true, true⟩
  | .modPairStatus => ⟨0x10068, [], false, true, true⟩
  | .modCkptBase => ⟨0x10070, [], true, false, true⟩
  | .modCkptCtrl => ⟨0x10078, [], true, false, true⟩
  | .modCkptStatus => ⟨0x10080, [], true, false, true⟩
  | .modWitness => ⟨0x10088, [], false, true, true⟩
  | .modBgCtrl => ⟨0x10090, [], false, true, true⟩
  | .modBgStatus => ⟨0x10098, [], false, true, true⟩
  | .modPlatform => ⟨0x100a0, [], false, true, true⟩
  | .timeRemoteTo => ⟨0x10400, [], true, false, true⟩
  | .timeNow => ⟨0x10408, [], false, true, true⟩
  | .timeCtrl => ⟨0x10410, [], false, true, true⟩
  | .timeStatus => ⟨0x10418, [], false, true, true⟩
  | .timeSet => ⟨0x10420, [], false, true, true⟩
  | .jobCtrl => ⟨0x10800, [], true, false, false⟩
  | .jobStatus => ⟨0x10808, [], true, false, false⟩
  | .jobPkgAddr => ⟨0x10810, [], true, false, false⟩
  | .jobPkgLen => ⟨0x10818, [], true, false, false⟩
  | .jobDetail => ⟨0x10820, [], true, false, false⟩
  | .jobStart => ⟨0x10828, [], true, false, false⟩
  | .jobExpertCmd => ⟨0x10830, [], true, false, false⟩
  | .jobTag => ⟨0x10838, [], true, false, false⟩
  | .jobDigest => ⟨0x10840, [(0x8, 4)], true, false, false⟩
  | .modHcmdBase => ⟨0x11000, [], true, false, true⟩
  | .modHcmdCtrl => ⟨0x11008, [], true, false, true⟩
  | .modHcmdTail => ⟨0x11010, [], true, false, true⟩
  | .modHcmdHead => ⟨0x11018, [], true, false, true⟩
  | .modHdbTgt => ⟨0x11100, [(0x10, 64)], true, false, true⟩
  | .modHdbRing => ⟨0x11108, [(0x10, 64)], true, false, true⟩
  | .modRoute => ⟨0x12000, [(0x8, 1024)], true, false, true⟩
  | .pblCtrl => ⟨0x14000, [], false, true, true⟩
  | .pblSet => ⟨0x14008, [], false, true, true⟩
  | .pblEpochTime => ⟨0x14010, [], false, true, true⟩
  | .pblEpochCmd => ⟨0x14018, [], false, true, true⟩
  | .pblEpochStatus => ⟨0x14020, [], false, true, true⟩
  | .pblPlane => ⟨0x14100, [(0x8, 16)], false, true, true⟩
  | .pblPair => ⟨0x15000, [(0x8, 576)], false, true, true⟩
  | .optCb => ⟨0x17000, [(0x8, 7)], false, true, true⟩
  | .optCbCmd => ⟨0x17040, [], false, true, true⟩
  | .optSpare => ⟨0x17048, [], false, true, true⟩
  | .optCal => ⟨0x17050, [], false, true, true⟩
  | .optFepochTime => ⟨0x17058, [], false, true, true⟩
  | .optFepochCmd => ⟨0x17060, [], false, true, true⟩
  | .optFepochStatus => ⟨0x17068, [], false, true, true⟩
  | .optLaneSel => ⟨0x17070, [], false, true, true⟩
  | .optLaneStat => ⟨0x17078, [], false, true, true⟩
  | .optFibre => ⟨0x17100, [(0x8, 24)], false, true, true⟩
  | .clkPoint => ⟨0x18000, [], false, true, true⟩
  | .clkEpoch => ⟨0x18008, [], false, true, true⟩
  | .feedCtrl => ⟨0x19000, [], false, true, true⟩
  | .feedLimit => ⟨0x19008, [], false, true, true⟩
  | .feedVcore => ⟨0x19010, [(0x8, 2)], false, true, true⟩
  | .feedVaux => ⟨0x19020, [], false, true, true⟩
  | .thmCtrl => ⟨0x1a000, [], false, true, true⟩
  | .thmStatus => ⟨0x1a008, [], false, true, true⟩
  | .thmDie => ⟨0x1a100, [(0x8, 8)], false, true, true⟩
  | .secCtrl => ⟨0x1b000, [], true, true, true⟩
  | .secStatus => ⟨0x1b008, [], false, false, true⟩
  | .secImage => ⟨0x1b010, [(0x8, 3)], false, false, true⟩
  | .secOts => ⟨0x1b030, [(0x8, 2)], false, false, true⟩
  | .dmpCtrl => ⟨0x1c000, [], true, false, true⟩
  | .dmpRingBase => ⟨0x1c008, [], true, false, true⟩
  | .dmpRingSlots => ⟨0x1c010, [], true, false, true⟩
  | .dmpHead => ⟨0x1c018, [], true, false, true⟩
  | .dmpTail => ⟨0x1c020, [], true, false, true⟩
  | .dmpStatus => ⟨0x1c028, [], true, false, true⟩
  | .vltCtrl => ⟨0x100000, [(0x20000, 8)], true, true, true⟩
  | .vltStatus => ⟨0x100008, [(0x20000, 8)], false, true, true⟩
  | .vltErase => ⟨0x100010, [(0x20000, 8)], false, true, true⟩
  | .vltEcc => ⟨0x100018, [(0x20000, 8)], false, true, true⟩
  | .vltBondSel => ⟨0x100020, [(0x20000, 8)], false, true, true⟩
  | .vltBondStat => ⟨0x100028, [(0x20000, 8)], false, true, true⟩
  | .vltPwrBond => ⟨0x100030, [(0x20000, 8)], false, true, true⟩
  | .thmLedger => ⟨0x100100, [(0x20000, 8)], false, true, true⟩
  | .clkTowerCtrl => ⟨0x100200, [(0x20000, 8)], true, true, true⟩
  | .clkTowerStatus => ⟨0x100208, [(0x20000, 8)], false, true, true⟩
  | .coreId => ⟨0x110000, [(0x20000, 8), (0x100, 256)], true, false, true⟩
  | .coreCtrl => ⟨0x110008, [(0x20000, 8), (0x100, 256)], true, false, true⟩
  | .coreStatus => ⟨0x110010, [(0x20000, 8), (0x100, 256)], true, false, true⟩
  | .coreUnitMap => ⟨0x110018, [(0x20000, 8), (0x100, 256)], true, false, true⟩
  | .coreFault => ⟨0x110020, [(0x20000, 8), (0x100, 256)], true, false, true⟩
  | .coreFaultAddr => ⟨0x110028, [(0x20000, 8), (0x100, 256)], true, false, true⟩
  | .coreSpadEcc => ⟨0x110030, [(0x20000, 8), (0x100, 256)], true, false, true⟩
  | .coreSpadErase => ⟨0x110038, [(0x20000, 8), (0x100, 256)], true, false, true⟩
  | .coreThread => ⟨0x110040, [(0x20000, 8), (0x100, 256), (0x8, 8)], true, false, true⟩
  | .pmcSel => ⟨0x110080, [(0x20000, 8), (0x100, 256), (0x10, 8)], true, false, true⟩
  | .pmcCnt => ⟨0x110088, [(0x20000, 8), (0x100, 256), (0x10, 8)], true, false, true⟩
  | .memPortStatus => ⟨0x200000, [(0x20000, 8)], false, true, true⟩
  | .memCh => ⟨0x200100, [(0x20000, 8), (0x8, 36)], false, true, true⟩
  | .memSlot => ⟨0x201000, [(0x20000, 8), (0x8, 288)], false, true, true⟩
  | .pmcCh => ⟨0x208000, [(0x20000, 8), (0x8, 288)], true, false, true⟩
  | .pmcEpBytes => ⟨0x104000, [(0x20000, 24), (0x8, 384)], true, false, true⟩
  | .pmcEpQueue => ⟨0x104c00, [(0x20000, 24), (0x8, 24)], true, false, true⟩
  | .pmcEpStall => ⟨0x104d00, [(0x20000, 24), (0x8, 24)], true, false, true⟩
  | .pmcEpEvent => ⟨0x104e00, [(0x20000, 24), (0x8, 8)], true, false, true⟩
  | .pmcFibre => ⟨0x304f00, [(0x20000, 6), (0x8, 8)], true, false, true⟩
  | .pmcEpEgress => ⟨0x104f80, [(0x20000, 24)], true, false, true⟩
  | .pmcEpIngress => ⟨0x104f88, [(0x20000, 24)], true, false, true⟩

/-- The fields of a register, but for reserved ones. -/
def Reg.fields : Reg → List Field
  | .hwAccess => [⟨63, 48, .rc, 0x0, false⟩,
      ⟨47, 32, .rc, 0x0, false⟩,
      ⟨31, 16, .rc, 0x0, false⟩,
      ⟨15, 0, .rc, 0x0, false⟩]
  | .modId => [⟨63, 54, .rw, 0x0, true⟩, ⟨47, 32, .ro, 0x0, false⟩, ⟨31, 24, .ro, 0x0, false⟩]
  | .modLink => [⟨63, 56, .rc, 0x0, false⟩,
      ⟨55, 52, .ro, 0x0, false⟩,
      ⟨51, 50, .ro, 0x0, false⟩,
      ⟨49, 49, .ro, 0x0, false⟩,
      ⟨48, 48, .ro, 0x0, false⟩,
      ⟨31, 24, .rc, 0x0, false⟩,
      ⟨23, 20, .ro, 0x0, false⟩,
      ⟨19, 18, .ro, 0x0, false⟩,
      ⟨17, 17, .ro, 0x0, false⟩,
      ⟨16, 16, .ro, 0x0, false⟩]
  | .modService => [⟨63, 63, .ro, 0x0, false⟩, ⟨62, 62, .ro, 0x0, false⟩]
  | .modPartner => [⟨63, 54, .rw, 0x0, true⟩,
      ⟨49, 48, .rw, 0x0, true⟩,
      ⟨47, 47, .ro, 0x0, false⟩,
      ⟨39, 32, .rc, 0x0, false⟩,
      ⟨31, 16, .ro, 0x0, false⟩,
      ⟨15, 0, .ro, 0x0, false⟩]
  | .modStart => [⟨63, 63, .w1s, 0x0, false⟩,
      ⟨62, 62, .ro, 0x0, false⟩,
      ⟨59, 59, .ro, 0x0, false⟩,
      ⟨58, 58, .ro, 0x0, false⟩,
      ⟨55, 48, .ro, 0x0, false⟩,
      ⟨47, 32, .ro, 0x0, false⟩,
      ⟨31, 16, .ro, 0x0, false⟩,
      ⟨1, 1, .rw, 0x0, true⟩,
      ⟨0, 0, .rw, 0x0, true⟩]
  | .modReset => [⟨63, 63, .ro, 0x0, false⟩,
      ⟨62, 62, .w1c, 0x0, false⟩,
      ⟨55, 48, .ro, 0x0, false⟩,
      ⟨47, 40, .rc, 0x0, false⟩,
      ⟨18, 16, .wo, 0x0, false⟩,
      ⟨15, 0, .wo, 0x0, false⟩]
  | .modHang => [⟨63, 48, .rw, 0x0, true⟩,
      ⟨47, 32, .rw, 0x0, true⟩,
      ⟨31, 16, .rw, 0x0, true⟩,
      ⟨15, 0, .rw, 0x0, true⟩]
  | .modReplay => [⟨63, 63, .ro, 0x0, false⟩,
      ⟨62, 62, .w1c, 0x0, false⟩,
      ⟨61, 59, .ro, 0x0, false⟩,
      ⟨58, 51, .ro, 0x0, false⟩,
      ⟨50, 35, .wo, 0x0, false⟩,
      ⟨34, 34, .wo, 0x0, false⟩,
      ⟨33, 31, .wo, 0x0, false⟩,
      ⟨30, 23, .wo, 0x0, false⟩,
      ⟨22, 20, .wo, 0x0, false⟩,
      ⟨12, 0, .wo, 0x0, false⟩]
  | .modPair => [⟨63, 63, .rw, 0x0, true⟩,
      ⟨62, 62, .rw, 0x0, true⟩,
      ⟨47, 32, .rw, 0x0, true⟩,
      ⟨31, 16, .rw, 0x0, true⟩]
  | .modPairStatus => [⟨63, 62, .ro, 0x0, false⟩,
      ⟨61, 61, .ro, 0x0, false⟩,
      ⟨60, 60, .ro, 0x0, false⟩,
      ⟨59, 58, .ro, 0x0, false⟩,
      ⟨55, 48, .ro, 0x0, true⟩,
      ⟨39, 32, .ro, 0x0, true⟩,
      ⟨31, 0, .ro, 0x0, true⟩]
  | .modCkptBase => [⟨63, 12, .rw, 0x0, true⟩]
  | .modCkptCtrl => [⟨63, 32, .rw, 0x0, true⟩, ⟨2, 1, .wo, 0x0, false⟩, ⟨0, 0, .rw, 0x0, true⟩]
  | .modCkptStatus => [⟨63, 63, .ro, 0x0, false⟩,
      ⟨62, 62, .w1c, 0x0, false⟩,
      ⟨61, 61, .w1c, 0x0, false⟩,
      ⟨60, 60, .w1c, 0x0, false⟩,
      ⟨55, 48, .ro, 0x0, false⟩,
      ⟨31, 0, .ro, 0x0, false⟩]
  | .modWitness => [⟨63, 56, .rw, 0x0, true⟩,
      ⟨55, 48, .rc, 0x0, false⟩,
      ⟨47, 40, .rc, 0x0, false⟩,
      ⟨31, 0, .ro, 0x0, false⟩]
  | .modBgCtrl => [⟨3, 3, .rw, 0x0, true⟩, ⟨2, 2, .rw, 0x0, true⟩, ⟨1, 1, .rw, 0x0, true⟩, ⟨0, 0, .rw, 0x0, true⟩]
  | .modBgStatus => [⟨63, 48, .ro, 0x0, true⟩,
      ⟨47, 32, .ro, 0x0, true⟩,
      ⟨31, 16, .rc, 0x0, false⟩,
      ⟨15, 8, .ro, 0x0, true⟩]
  | .modPlatform => [⟨63, 62, .ro, 0x0, false⟩,
      ⟨47, 32, .ro, 0x0, false⟩,
      ⟨23, 16, .rc, 0x0, false⟩,
      ⟨1, 1, .ro, 0x0, false⟩]
  | .timeRemoteTo => [⟨31, 0, .rw, 0x4e20, false⟩]
  | .timeNow => [⟨63, 0, .ro, 0x0, false⟩]
  | .timeCtrl => [⟨1, 0, .rw, 0x0, true⟩]
  | .timeStatus => [⟨63, 63, .ro, 0x0, false⟩,
      ⟨62, 62, .w1c, 0x0, false⟩,
      ⟨59, 56, .ro, 0x0, false⟩,
      ⟨52, 48, .ro, 0x0, false⟩,
      ⟨47, 32, .ro, 0x0, false⟩,
      ⟨31, 0, .ro, 0x0, false⟩]
  | .timeSet => [⟨63, 0, .wo, 0x0, false⟩]
  | .jobCtrl => [⟨1, 1, .w1s, 0x0, false⟩, ⟨0, 0, .w1s, 0x0, false⟩]
  | .jobStatus => [⟨40, 40, .w1c, 0x0, false⟩,
      ⟨39, 32, .ro, 0x0, false⟩,
      ⟨31, 16, .ro, 0x0, false⟩,
      ⟨2, 0, .ro, 0x0, false⟩]
  | .jobPkgAddr => [⟨40, 8, .rw, 0x0, false⟩]
  | .jobPkgLen => [⟨23, 0, .rw, 0x0, false⟩]
  | .jobDetail => [⟨47, 40, .ro, 0x0, false⟩, ⟨31, 0, .ro, 0x0, false⟩]
  | .jobStart => [⟨63, 0, .ro, 0x0, false⟩]
  | .jobExpertCmd => [⟨63, 63, .ro, 0x0, false⟩, ⟨57, 56, .wo, 0x0, false⟩, ⟨31, 0, .wo, 0x0, false⟩]
  | .jobTag => [⟨63, 0, .ro, 0x0, false⟩]
  | .jobDigest => [⟨63, 0, .rw, 0x0, false⟩]
  | .modHcmdBase => [⟨63, 12, .rw, 0x0, false⟩]
  | .modHcmdCtrl => [⟨4, 4, .rw, 0x0, false⟩, ⟨3, 0, .rw, 0x4, false⟩]
  | .modHcmdTail => [⟨11, 0, .rw, 0x0, false⟩]
  | .modHcmdHead => [⟨11, 0, .ro, 0x0, false⟩]
  | .modHdbTgt => [⟨63, 0, .rw, 0x0, false⟩]
  | .modHdbRing => [⟨63, 32, .wo, 0x0, false⟩, ⟨31, 0, .wo, 0x0, false⟩]
  | .modRoute => [⟨63, 63, .rw, 0x0, false⟩, ⟨62, 62, .rw, 0x0, false⟩, ⟨23, 0, .rw, 0x0, false⟩]
  | .pblCtrl => [⟨25, 16, .rw, 0x2, false⟩, ⟨0, 0, .rw, 0x1, false⟩]
  | .pblSet => [⟨47, 32, .ro, 0x0, false⟩, ⟨31, 16, .ro, 0x0, false⟩, ⟨15, 0, .ro, 0x0, false⟩]
  | .pblEpochTime => [⟨63, 0, .rw, 0x0, false⟩]
  | .pblEpochCmd => [⟨17, 16, .wo, 0x0, false⟩, ⟨15, 0, .wo, 0x0, false⟩]
  | .pblEpochStatus => [⟨63, 63, .ro, 0x0, false⟩,
      ⟨62, 62, .w1c, 0x0, false⟩,
      ⟨61, 61, .w1c, 0x0, false⟩,
      ⟨60, 60, .w1c, 0x0, false⟩,
      ⟨59, 59, .w1c, 0x0, false⟩,
      ⟨55, 48, .ro, 0x0, false⟩,
      ⟨47, 32, .ro, 0x0, false⟩]
  | .pblPlane => [⟨55, 48, .ro, 0x0, false⟩, ⟨41, 32, .ro, 0x0, false⟩, ⟨2, 0, .ro, 0x0, false⟩]
  | .pblPair => [⟨47, 32, .ro, 0x0, false⟩, ⟨31, 16, .ro, 0x0, false⟩, ⟨15, 0, .ro, 0x0, false⟩]
  | .optCb => [⟨55, 48, .ro, 0x0, false⟩,
      ⟨44, 40, .ro, 0x0, false⟩,
      ⟨31, 16, .rw, 0x0, false⟩,
      ⟨11, 8, .ro, 0xf, false⟩,
      ⟨6, 6, .ro, 0x0, false⟩,
      ⟨5, 5, .w1c, 0x0, false⟩,
      ⟨4, 4, .ro, 0x0, false⟩,
      ⟨2, 0, .ro, 0x0, false⟩]
  | .optCbCmd => [⟨11, 8, .wo, 0x0, false⟩, ⟨5, 3, .wo, 0x0, false⟩, ⟨2, 0, .wo, 0x0, false⟩]
  | .optSpare => [⟨63, 63, .ro, 0x0, false⟩,
      ⟨62, 62, .ro, 0x0, false⟩,
      ⟨61, 61, .w1c, 0x0, false⟩,
      ⟨4, 4, .rw, 0x1, false⟩,
      ⟨3, 0, .rw, 0xf, false⟩]
  | .optCal => [⟨63, 63, .ro, 0x0, false⟩,
      ⟨55, 48, .ro, 0x0, false⟩,
      ⟨39, 32, .rc, 0x0, false⟩,
      ⟨31, 24, .rw, 0x18, false⟩,
      ⟨15, 8, .rw, 0x30, false⟩,
      ⟨0, 0, .rw, 0x1, false⟩]
  | .optFepochTime => [⟨63, 0, .rw, 0x0, false⟩]
  | .optFepochCmd => [⟨25, 24, .wo, 0x0, false⟩, ⟨23, 0, .wo, 0x0, false⟩]
  | .optFepochStatus => [⟨63, 63, .ro, 0x0, false⟩,
      ⟨62, 62, .w1c, 0x0, false⟩,
      ⟨61, 61, .w1c, 0x0, false⟩,
      ⟨60, 60, .w1c, 0x0, false⟩,
      ⟨59, 59, .w1c, 0x0, false⟩,
      ⟨31, 24, .ro, 0x0, false⟩,
      ⟨23, 0, .ro, 0x0, false⟩]
  | .optLaneSel => [⟨16, 16, .rw, 0x0, false⟩,
      ⟨14, 10, .rw, 0x0, false⟩,
      ⟨9, 5, .rw, 0x0, false⟩,
      ⟨4, 0, .rw, 0x0, false⟩]
  | .optLaneStat => [⟨63, 61, .ro, 0x0, false⟩,
      ⟨60, 58, .ro, 0x0, false⟩,
      ⟨57, 55, .ro, 0x0, false⟩,
      ⟨54, 45, .ro, 0x0, false⟩,
      ⟨44, 37, .ro, 0x0, false⟩,
      ⟨31, 0, .ro, 0x0, false⟩]
  | .optFibre => [⟨63, 56, .ro, 0x0, false⟩,
      ⟨55, 46, .ro, 0x0, false⟩,
      ⟨45, 45, .ro, 0x0, false⟩,
      ⟨44, 32, .ro, 0x0, false⟩,
      ⟨29, 24, .ro, 0x0, false⟩,
      ⟨2, 0, .ro, 0x0, false⟩]
  | .clkPoint => [⟨63, 63, .ro, 0x0, false⟩,
      ⟨60, 56, .ro, 0x0, false⟩,
      ⟨50, 48, .ro, 0x0, false⟩,
      ⟨44, 40, .ro, 0x0, false⟩,
      ⟨36, 32, .ro, 0xf, false⟩,
      ⟨12, 8, .ro, 0x0, false⟩,
      ⟨4, 0, .ro, 0x0, false⟩]
  | .clkEpoch => [⟨63, 0, .ro, 0x0, false⟩]
  | .feedCtrl => [⟨47, 32, .rw, 0x0, true⟩, ⟨1, 1, .w1s, 0x0, false⟩, ⟨0, 0, .w1s, 0x0, false⟩]
  | .feedLimit => [⟨63, 48, .ro, 0x0, false⟩,
      ⟨47, 32, .ro, 0x0, false⟩,
      ⟨31, 16, .ro, 0x0, false⟩,
      ⟨5, 0, .ro, 0x0, false⟩]
  | .feedVcore => [⟨63, 61, .ro, 0x0, false⟩,
      ⟨55, 48, .ro, 0x0, false⟩,
      ⟨47, 32, .ro, 0x0, false⟩,
      ⟨31, 16, .ro, 0x0, false⟩,
      ⟨15, 8, .ro, 0x0, false⟩,
      ⟨2, 0, .ro, 0x0, false⟩]
  | .feedVaux => [⟨63, 61, .ro, 0x0, false⟩,
      ⟨60, 58, .ro, 0x0, false⟩,
      ⟨31, 16, .ro, 0x0, false⟩,
      ⟨15, 0, .ro, 0x0, false⟩]
  | .thmCtrl => [⟨47, 47, .rw, 0x0, false⟩, ⟨39, 32, .rw, 0x32, false⟩, ⟨0, 0, .rw, 0x0, false⟩]
  | .thmStatus => [⟨63, 63, .ro, 0x0, false⟩,
      ⟨62, 61, .ro, 0x0, true⟩,
      ⟨60, 60, .ro, 0x0, false⟩,
      ⟨59, 59, .ro, 0x0, false⟩,
      ⟨58, 58, .ro, 0x0, false⟩,
      ⟨57, 57, .ro, 0x0, false⟩,
      ⟨56, 56, .ro, 0x0, false⟩,
      ⟨47, 39, .ro, 0x0, false⟩,
      ⟨31, 16, .ro, 0x0, false⟩,
      ⟨15, 8, .ro, 0x0, false⟩,
      ⟨7, 0, .ro, 0x0, false⟩]
  | .thmDie => [⟨63, 48, .ro, 0x0, false⟩,
      ⟨47, 32, .ro, 0x0, false⟩,
      ⟨15, 8, .ro, 0x0, false⟩,
      ⟨3, 0, .ro, 0x0, false⟩]
  | .secCtrl => [⟨8, 8, .rw, 0x0, true⟩, ⟨0, 0, .rw, 0x0, true⟩]
  | .secStatus => [⟨63, 56, .ro, 0x0, false⟩,
      ⟨41, 40, .ro, 0x0, false⟩,
      ⟨23, 16, .rc, 0x0, false⟩,
      ⟨2, 0, .ro, 0x0, false⟩]
  | .secImage => [⟨63, 32, .ro, 0x0, false⟩,
      ⟨31, 16, .ro, 0x0, true⟩,
      ⟨11, 10, .ro, 0x0, false⟩,
      ⟨9, 8, .ro, 0x0, false⟩,
      ⟨5, 5, .ro, 0x0, true⟩,
      ⟨1, 1, .ro, 0x0, false⟩,
      ⟨0, 0, .ro, 0x0, true⟩]
  | .secOts => [⟨63, 56, .ro, 0x0, true⟩, ⟨44, 34, .ro, 0x0, false⟩, ⟨29, 0, .ro, 0x0, false⟩]
  | .dmpCtrl => [⟨63, 32, .rw, 0x3e8, false⟩,
      ⟨6, 4, .rw, 0x0, false⟩,
      ⟨1, 1, .rw, 0x0, false⟩,
      ⟨0, 0, .rw, 0x0, false⟩]
  | .dmpRingBase => [⟨63, 0, .rw, 0x0, false⟩]
  | .dmpRingSlots => [⟨31, 0, .rw, 0x0, false⟩]
  | .dmpHead => [⟨63, 32, .ro, 0x0, false⟩, ⟨31, 0, .ro, 0x0, false⟩]
  | .dmpTail => [⟨31, 0, .rw, 0x0, false⟩]
  | .dmpStatus => [⟨63, 63, .ro, 0x0, false⟩,
      ⟨62, 62, .w1c, 0x0, false⟩,
      ⟨47, 32, .rc, 0x0, false⟩,
      ⟨31, 16, .rc, 0x0, false⟩,
      ⟨15, 0, .rc, 0x0, false⟩]
  | .vltCtrl => [⟨0, 0, .w1s, 0x0, false⟩]
  | .vltStatus => [⟨63, 54, .ro, 0x0, false⟩,
      ⟨47, 28, .ro, 0x0, false⟩,
      ⟨16, 8, .ro, 0x0, false⟩,
      ⟨5, 0, .ro, 0x0, false⟩]
  | .vltErase => [⟨31, 31, .rw, 0x0, true⟩,
      ⟨30, 22, .rw, 0x0, true⟩,
      ⟨21, 16, .rw, 0x0, true⟩,
      ⟨15, 15, .rw, 0x0, true⟩,
      ⟨14, 6, .rw, 0x0, true⟩,
      ⟨5, 0, .rw, 0x0, true⟩]
  | .vltEcc => [⟨63, 32, .rc, 0x0, false⟩, ⟨31, 16, .rc, 0x0, false⟩, ⟨8, 0, .ro, 0x0, false⟩]
  | .vltBondSel => [⟨8, 0, .rw, 0x0, false⟩]
  | .vltBondStat => [⟨63, 62, .ro, 0x0, true⟩,
      ⟨51, 48, .ro, 0x0, true⟩,
      ⟨41, 41, .ro, 0x0, false⟩,
      ⟨40, 32, .ro, 0x0, false⟩,
      ⟨9, 9, .ro, 0x0, false⟩,
      ⟨8, 0, .ro, 0x0, false⟩]
  | .vltPwrBond => [⟨15, 0, .ro, 0x0, true⟩]
  | .thmLedger => [⟨63, 63, .ro, 0x0, true⟩, ⟨39, 0, .ro, 0x0, true⟩]
  | .clkTowerCtrl => [⟨16, 16, .rw, 0x0, false⟩, ⟨15, 0, .rw, 0x0, false⟩]
  | .clkTowerStatus => [⟨63, 48, .rc, 0x0, false⟩,
      ⟨32, 32, .ro, 0x0, false⟩,
      ⟨31, 16, .rc, 0x0, false⟩,
      ⟨15, 0, .ro, 0x0, false⟩]
  | .coreId => [⟨31, 31, .ro, 0x0, false⟩, ⟨23, 16, .ro, 0x0, false⟩, ⟨12, 8, .ro, 0x0, false⟩]
  | .coreCtrl => [⟨25, 16, .rw, 0xa, false⟩, ⟨8, 8, .rw, 0x1, false⟩, ⟨7, 0, .w1s, 0x0, false⟩]
  | .coreStatus => [⟨25, 24, .ro, 0x0, false⟩, ⟨23, 0, .ro, 0x0, false⟩]
  | .coreUnitMap => [⟨19, 16, .ro, 0x0, false⟩,
      ⟨15, 12, .ro, 0x0, false⟩,
      ⟨11, 8, .ro, 0x0, false⟩,
      ⟨7, 4, .ro, 0x0, false⟩,
      ⟨3, 0, .ro, 0x0, false⟩]
  | .coreFault => [⟨63, 63, .w1c, 0x0, false⟩,
      ⟨62, 62, .w1c, 0x0, false⟩,
      ⟨34, 32, .ro, 0x0, false⟩,
      ⟨31, 24, .ro, 0x0, false⟩,
      ⟨23, 16, .ro, 0x0, false⟩,
      ⟨12, 0, .ro, 0x0, false⟩]
  | .coreFaultAddr => [⟨63, 0, .ro, 0x0, false⟩]
  | .coreSpadEcc => [⟨63, 32, .rc, 0x0, false⟩,
      ⟨31, 16, .rc, 0x0, false⟩,
      ⟨15, 15, .ro, 0x0, false⟩,
      ⟨14, 0, .ro, 0x0, false⟩]
  | .coreSpadErase => [⟨21, 21, .rw, 0x0, false⟩,
      ⟨20, 17, .rw, 0x0, false⟩,
      ⟨16, 11, .rw, 0x0, false⟩,
      ⟨10, 10, .rw, 0x0, false⟩,
      ⟨9, 6, .rw, 0x0, false⟩,
      ⟨5, 0, .rw, 0x0, false⟩]
  | .coreThread => [⟨34, 32, .ro, 0x0, false⟩, ⟨28, 24, .ro, 0x0, false⟩, ⟨12, 0, .ro, 0x0, false⟩]
  | .pmcSel => [⟨63, 63, .w1c, 0x0, false⟩,
      ⟨62, 62, .w1c, 0x0, false⟩,
      ⟨35, 35, .rw, 0x0, false⟩,
      ⟨34, 32, .rw, 0x0, false⟩,
      ⟨23, 16, .rw, 0x0, false⟩,
      ⟨11, 11, .rw, 0x0, false⟩,
      ⟨10, 10, .rw, 0x0, false⟩,
      ⟨9, 0, .rw, 0x0, false⟩]
  | .pmcCnt => [⟨63, 61, .ro, 0x0, false⟩, ⟨60, 48, .ro, 0x0, false⟩, ⟨47, 0, .rw, 0x0, false⟩]
  | .memPortStatus => [⟨63, 63, .ro, 0x0, false⟩,
      ⟨55, 48, .ro, 0x0, false⟩,
      ⟨47, 40, .ro, 0x0, false⟩,
      ⟨15, 8, .rc, 0x0, false⟩,
      ⟨7, 0, .ro, 0x0, false⟩]
  | .memCh => [⟨63, 61, .ro, 0x0, false⟩,
      ⟨52, 52, .rw, 0x0, true⟩,
      ⟨51, 48, .rw, 0x0, true⟩,
      ⟨44, 44, .ro, 0x0, false⟩,
      ⟨43, 40, .ro, 0x0, false⟩,
      ⟨31, 16, .rc, 0x0, false⟩]
  | .memSlot => [⟨63, 0, .ro, 0x0, false⟩]
  | .pmcCh => [⟨63, 0, .ro, 0x0, false⟩]
  | .pmcEpBytes => [⟨63, 0, .ro, 0x0, false⟩]
  | .pmcEpQueue => [⟨31, 16, .ro, 0x0, false⟩, ⟨15, 0, .ro, 0x0, false⟩]
  | .pmcEpStall => [⟨63, 0, .ro, 0x0, false⟩]
  | .pmcEpEvent => [⟨63, 0, .ro, 0x0, false⟩]
  | .pmcFibre => [⟨63, 0, .ro, 0x0, false⟩]
  | .pmcEpEgress => [⟨63, 0, .ro, 0x0, false⟩]
  | .pmcEpIngress => [⟨63, 0, .ro, 0x0, false⟩]

/-- Every register, in the order of the table. -/
def Reg.all : List Reg :=
  [.hwAccess, .modId, .modLink, .modService, .modPartner, .modStart, .modReset, .modHang, .modReplay, .modPair, .modPairStatus, .modCkptBase, .modCkptCtrl, .modCkptStatus, .modWitness, .modBgCtrl] ++
  [.modBgStatus, .modPlatform, .timeRemoteTo, .timeNow, .timeCtrl, .timeStatus, .timeSet, .jobCtrl, .jobStatus, .jobPkgAddr, .jobPkgLen, .jobDetail, .jobStart, .jobExpertCmd, .jobTag, .jobDigest] ++
  [.modHcmdBase, .modHcmdCtrl, .modHcmdTail, .modHcmdHead, .modHdbTgt, .modHdbRing, .modRoute, .pblCtrl, .pblSet, .pblEpochTime, .pblEpochCmd, .pblEpochStatus, .pblPlane, .pblPair, .optCb, .optCbCmd] ++
  [.optSpare, .optCal, .optFepochTime, .optFepochCmd, .optFepochStatus, .optLaneSel, .optLaneStat, .optFibre, .clkPoint, .clkEpoch, .feedCtrl, .feedLimit, .feedVcore, .feedVaux, .thmCtrl, .thmStatus] ++
  [.thmDie, .secCtrl, .secStatus, .secImage, .secOts, .dmpCtrl, .dmpRingBase, .dmpRingSlots, .dmpHead, .dmpTail, .dmpStatus, .vltCtrl, .vltStatus, .vltErase, .vltEcc, .vltBondSel] ++
  [.vltBondStat, .vltPwrBond, .thmLedger, .clkTowerCtrl, .clkTowerStatus, .coreId, .coreCtrl, .coreStatus, .coreUnitMap, .coreFault, .coreFaultAddr, .coreSpadEcc, .coreSpadErase, .coreThread, .pmcSel, .pmcCnt] ++
  [.memPortStatus, .memCh, .memSlot, .pmcCh, .pmcEpBytes, .pmcEpQueue, .pmcEpStall, .pmcEpEvent, .pmcFibre, .pmcEpEgress, .pmcEpIngress]

/-- Is `off` one of the copies that start at `base` with these strides? -/
def inDims (off : Nat) : List (Nat × Nat) → Bool
  | [] => off == 0
  | (s, n) :: rest => decide (off / s < n) && inDims (off % s) rest

/-- The register at an MRS offset (8-byte aligned). -/
def Reg.at? (off : Nat) : Option Reg :=
  Reg.all.find? fun r => decide (r.place.base ≤ off) && inDims (off - r.place.base) r.place.dims

/-- The mask of the bits `hi` to `lo`. -/
def bitsMask (hi lo : Nat) : Word := BitVec.ofNat 64 ((2 ^ (hi + 1 - lo) - 1) * 2 ^ lo)

def Reg.mask (r : Reg) (p : Field → Bool) : Word :=
  (r.fields.filter p).foldl (fun m f => m ||| bitsMask f.hi f.lo) 0

/-- The register's value after a reset, its live and kept fields 0 (R23). -/
def Reg.resetValue (r : Reg) : Word :=
  r.fields.foldl (fun m f => m ||| BitVec.ofNat 64 (f.reset * 2 ^ f.lo)) 0

/-- The offset of copy `is` of a register. -/
def Reg.addr (r : Reg) (is : List Nat) : Nat :=
  (r.place.dims.zip is).foldl (fun a p => a + p.1.1 * p.2) r.place.base

end Sys2Proof.Machine
end

