-- ==== Sys2Proof/Machine/State.lean ====
section
/-!
DEFINITION. The machine's state: plain data, everything the spec gives the block, and the queue of waiting commands.
-/
namespace Sys2Proof.Machine
open Sys2Proof

/-- Why the block stops. -/
inductive Fault where
  /-- Raised by a command that reports a condition outside the absolute maxima of R529, for which "no module behaviour
  is defined". Safe: the machine stops where the hardware may do anything. -/
  | outsideAbsoluteMaximum
  deriving DecidableEq, Repr

/-- Why a command has no meaning. -/
inductive Refusal where
  /-- Raised by an arm of `exec` whose command has no meaning yet. Safe: the machine stops. -/
  | notModelled (mnemonic : String)
  deriving DecidableEq, Repr

/-- An accepted epoch command (R256, R293). -/
structure EpochCmd where
  time : Nat
  /-- 1 retire, 2 readmit. -/
  action : Nat
  names : Nat
  /-- The epoch has come. -/
  begun : Bool
  deriving DecidableEq, Repr

/-- A reset asked for and not yet started: its domain, its unit and its error code (R459, R461, R462). -/
structure ResetReq where
  domain : Nat
  unit : Nat
  code : Nat
  asked : Nat
  deriving DecidableEq, Repr

/-- The state of the module. -/
structure State where
  /-- Commands waiting, first in, first out. -/
  pending : List Instr
  /-- Constantan time, in ns. -/
  now : Nat
  /-- The model's own counter of free values drawn. -/
  freeNo : Nat
  /-- The part is an OL7-1920-L (R1, R4). -/
  part1920 : Bool
  /-- MRS registers: by offset, the stored bits XOR the Reset column. -/
  regs : Tab Word
  cores : Tab Core
  /-- Completion counters, by context id x 64 + k (R177). -/
  counters : Tab Lane
  requesters : Tab Requester
  ends : Tab EndState
  /-- Lanes: base ones by (s x 24 + d) x 16 + p, outgoing external ones by 16,384 + pair x 32 + j, incoming ones by 17,152 + pair x 32 + j. -/
  lanes : Tab LaneState
  planes : Tab PlaneState
  /-- LPDDR5X contents, by offset in the hashed region (R315). -/
  lpddr : Mem
  /-- Symbols of LPDDR5X units that differ from the codeword: unit x 36 + symbol. -/
  lpddrErr : Tab Byte
  channels : Tab Channel
  vaults : Tab Vault
  /-- The control chiplets' SRAM, by chiplet x 2^23 + offset (R160). -/
  csram : Mem
  /-- The link flits of each pair for each half, by (src x 24 + dst) x 2 + half (R245), and of each fibre pair for each quarter, by pair x 4 +
  quarter (R291). -/
  sentLinks : Tab LinkSide
  extLinks : Tab ExtSide
  /-- Pairs s x 24 + d whose source treats every lane as unusable (R253). -/
  unreach : Tab Bool
  /-- Landing tables in force, 3,072 bytes per endpoint; none: the idle tables (R212, R228). -/
  landing : Option Mem
  /-- Channel slot tables in force, 64 bytes per channel; none: the idle tables (R215, R228). -/
  chanTable : Option Mem
  epoch : Option EpochCmd
  fepoch : Option EpochCmd
  /-- Of each external fibre pair: the state its far end reports, the far module, when a link flit last came, and the
  measured path in metres (R291 to R294, R305). -/
  farState : Tab Nat
  farModule : Tab (Option Nat)
  lastLink : Tab Nat
  pathM : Tab Nat
  /-- Self-test on λ0 by endpoint x 16 + plane: passed since the plane was last RETIRED, and errors counted (R261). -/
  selfOk : Tab Bool
  selfErr : Tab Nat
  light : Light
  /-- HW_FAULT: cause and time of the fault decision that stands (R416). -/
  hwFault : Option (Nat × Nat)
  /-- The event log: entries by index, and how many were ever written (R418). -/
  log : Tab Word
  logTotal : Nat
  /-- Entries of a fault decision that the next snapshot writes behind its warnings (R418). -/
  logHeld : List Word
  resetReqs : List ResetReq
  power : Power
  mod : Module
  /-- When each periodic event last happened, by its number (the model's own bookkeeping). -/
  marks : Tab Nat
  /-- The serial number and the stepping: device constants that nothing writes (R407, R423). -/
  serial : Nat
  stepping : Nat
  deriving DecidableEq, Repr

/-- Kept registers as shipped (R385, R492, R494, R498, R527). -/
def shippedRegs : Tab Word :=
  [(0x10050, 0x000A03E80064000A), (0x10060, 0x0000003C03E80000), (0x10088, 0x0A00000000000000), (0x10090, 0xF),
   (0x19000, 0x0000177000000000)]

/-- The module right after a module reset: stage S0 is up, S1 runs; kept fields hold what they hold as shipped. -/
def State.reset : State :=
  { pending := [], now := 0, freeNo := 0, part1920 := false, regs := shippedRegs, cores := [], counters := [], requesters := [],
    ends := [], lanes := [], planes := [], lpddr := [], lpddrErr := [], channels := [], vaults := [], csram := [], sentLinks := [], extLinks := [],
    unreach := [], landing := none, chanTable := none, epoch := none, fepoch := none, farState := [], farModule := [], lastLink := [],
    pathM := [], selfOk := [], selfErr := [], light := Light.reset, hwFault := none, log := [], logTotal := 0, logHeld := [], resetReqs := [],
    power := Power.reset, mod := Module.reset, marks := [], serial := 0, stepping := 0 }

end Sys2Proof.Machine
end

