-- ==== Sys2Proof/Machine/Ops.lean ====
section
/-!
DEFINITION. The named operations over registers, cores, threads and the scratchpad that the meanings share.
-/
namespace Sys2Proof.Machine
open Sys2Proof

/-! Bit fields. -/

/-- `w` with the bits `hi` to `lo` replaced by the low bits of `v`. -/
def putField (w : Word) (hi lo v : Nat) : Word :=
  (w &&& ~~~bitsMask hi lo) ||| (BitVec.ofNat 64 (v % 2 ^ (hi + 1 - lo)) <<< lo)

/-- One bit of a word. -/
def bitOf (w : Word) (i : Nat) : Bool := w.getLsbD i

def boolBit (b : Bool) : Nat := if b then 1 else 0

/-! Registers (R17 to R23). -/

/-- The Reset column at an offset; 0 where nothing is assigned (R405). -/
def resetAt (off : Nat) : Word :=
  match Reg.at? off with
  | some r => r.resetValue
  | none => 0

/-- The stored bits of a register. -/
def State.reg (s : State) (off : Nat) : Word := s.regs.get 0 off ^^^ resetAt off

def State.setReg (s : State) (off : Nat) (v : Word) : State := { s with regs := s.regs.set 0 off (v ^^^ resetAt off) }

def State.field (s : State) (off hi lo : Nat) : Nat := (s.reg off).field hi lo

def State.setField (s : State) (off hi lo v : Nat) : State := s.setReg off (putField (s.reg off) hi lo v)

/-- Add to a counting field that stops at its maximum. -/
def State.count (s : State) (off hi lo n : Nat) : State :=
  s.setField off hi lo (min (s.field off hi lo + n) (2 ^ (hi + 1 - lo) - 1))

/-- Add to a counting field that wraps. -/
def State.countWrap (s : State) (off hi lo n : Nat) : State := s.setField off hi lo (s.field off hi lo + n)

/-- A field returned to its Reset column. -/
def State.resetReg (s : State) (off : Nat) : State := s.setReg off (resetAt off)

/-! Places of registers. -/

/-- The register block of a core (R70). -/
def coreBlock (k : CoreId) : Nat := 0x100000 + k.tower.val * 0x20000 + 0x10000 + k.core.val * 0x100

/-- The block of an endpoint (R18). -/
def endBlock (e : Nat) : Nat := 0x100000 + e * 0x20000

/-! Cores and threads. -/

def State.coreAt (s : State) (i : Nat) : Core := s.cores.get Core.reset i
def State.core (s : State) (k : CoreId) : Core := s.coreAt k.index
def State.modCore (s : State) (k : CoreId) (f : Core → Core) : State :=
  { s with cores := s.cores.modify Core.reset k.index f }

def Core.th (c : Core) (t : Fin 8) : Thread := c.threads.get Thread.reset t.val
def Core.modTh (c : Core) (t : Fin 8) (f : Thread → Thread) : Core :=
  { c with threads := c.threads.modify Thread.reset t.val f }

def State.th (s : State) (c : Ctx) : Thread := (s.core c.coreId).th c.thread
def State.modTh (s : State) (c : Ctx) (f : Thread → Thread) : State := s.modCore c.coreId fun k => k.modTh c.thread f

/-- The eight thread numbers. -/
def threadNos : List (Fin 8) := [0, 1, 2, 3, 4, 5, 6, 7]

/-- x0 reads as 0 (R33). -/
def Thread.xr (t : Thread) (r : XReg) : Word := if r = 0 then 0 else t.x.get 0 r.val
/-- Writes to x0 are ignored (R33). -/
def Thread.setX (t : Thread) (r : XReg) (w : Word) : Thread := if r = 0 then t else { t with x := t.x.set 0 r.val w }

/-- p0 reads as all ones (R33). -/
def Thread.pr (t : Thread) (r : PReg) : Word := if r = 0 then BitVec.allOnes 64 else t.p.get 0 r.val
/-- Writes to p0 are ignored (R33). -/
def Thread.setP (t : Thread) (r : PReg) (w : Word) : Thread := if r = 0 then t else { t with p := t.p.set 0 r.val w }

def Thread.lane (t : Thread) (r : VReg) (i : Nat) : Lane := t.v.get 0 (r.val * 64 + i)
def Thread.vreg (t : Thread) (r : VReg) : List Lane := (List.range 64).map (t.lane r)
def Thread.setLane (t : Thread) (r : VReg) (i : Nat) (v : Lane) : Thread := { t with v := t.v.set 0 (r.val * 64 + i) v }
/-- Write some lanes of a vector register; the others keep their values (R61). -/
def Thread.setLanes (t : Thread) (r : VReg) (ls : List (Nat × Lane)) : Thread :=
  ls.foldl (fun t p => t.setLane r p.1 p.2) t

/-- The 256-byte image of a vector register (R124). -/
def Thread.image (t : Thread) (r : VReg) : List Byte := (t.vreg r).flatMap fun w => bytesOf 4 w.toNat

/-- Advance the program counter modulo 8,192 (R114). -/
def Thread.step (t : Thread) : Thread := { t with pc := t.pc + 1 }

/-- The tile entry at a row and column. -/
def Core.tileAt (c : Core) (t r col : Nat) : Lane := c.tiles.get 0 (t * 4096 + r * 64 + col)

/-- Is the slot absent from the part (R4)? -/
def State.absent (s : State) (k : CoreId) : Bool := s.part1920 && decide (k.core.val % 16 = 15)

/-- Row sleep or tower deep: CLK_TOWER_STATUS shows it (R67, R362). -/
def State.coreAsleep (s : State) (k : CoreId) : Bool :=
  let st := s.reg (endBlock k.tower.val + 0x208)
  bitOf st (k.core.val / 16) || bitOf st 32

/-! Completion counters (R177). -/

def State.counter (s : State) (ctx k : Nat) : Lane := s.counters.get 0 (ctx * 64 + k)
def State.setCounter (s : State) (ctx k : Nat) (v : Lane) : State :=
  { s with counters := s.counters.set 0 (ctx * 64 + k) v }

/-! Requesters. -/

def State.req (s : State) (ctx : Nat) : Requester := s.requesters.get Requester.empty ctx
def State.modReq (s : State) (ctx : Nat) (f : Requester → Requester) : State :=
  { s with requesters := s.requesters.modify Requester.empty ctx f }

/-- Tracking entries a context holds (R37, R79). -/
def State.tracking (s : State) (ctx : Nat) : Nat := (s.req ctx).ops.length

/-- Queue entries the core holds: operations with a packet not yet sent once (R37). -/
def State.queued (s : State) (k : CoreId) : Nat :=
  (threadNos.map fun t =>
    ((s.req (k.tower.val * 2048 + k.core.val * 8 + t.val)).ops.filter fun o =>
      !o.unsent.isEmpty || o.flights.any fun f => decide (f.tries = 0) && decide (0 < f.reading)).length).sum

/-! Endpoints, lanes, vaults. -/

def State.endp (s : State) (e : Nat) : EndState := s.ends.get EndState.reset e
def State.modEnd (s : State) (e : Nat) (f : EndState → EndState) : State :=
  { s with ends := s.ends.modify EndState.reset e f }
def State.vault (s : State) (t : Nat) : Vault := s.vaults.get Vault.reset t
def State.modVault (s : State) (t : Nat) (f : Vault → Vault) : State :=
  { s with vaults := s.vaults.modify Vault.reset t f }
def State.chan (s : State) (c : Nat) : Channel := s.channels.get Channel.reset c
def State.modChan (s : State) (c : Nat) (f : Channel → Channel) : State :=
  { s with channels := s.channels.modify Channel.reset c f }

/-- The 64-bit count of Constantan time (R14): the low 64 bits of the nanoseconds the model counts. -/
def State.time (s : State) : Nat := s.now % 2 ^ 64

/-- A signed value in the bits of a field. -/
def signedBits (v : Int) (bits : Nat) : Nat := (v % (2 ^ bits : Nat)).toNat

/-- The moment, of the present span of the 64-bit count, at which the count reads `v` (R14). -/
def State.moment (s : State) (v : Nat) : Nat := s.now - s.now % 2 ^ 64 + v

/-- From VAUX good to stage S1 the count is the provisional one of the Pewter clock (R348). -/
def State.provisional (s : State) : Bool := s.power.on && decide (s.mod.start.stage = 0)

/-- By how much the count advances at once: 20 ns per Pewter cycle while it is provisional, else 1 ns (R348, R353). -/
def State.tickNs (s : State) : Nat := if s.provisional then 20 else 1

/-- What the count reads: 64 bits (R14). -/
def State.clock (s : State) : Nat := s.now % 2 ^ 64

/-- Nothing is asked of the module: its count makes its next advance. A rate correction, in parts per million, takes or gives one more advance for
each million of them (R358, assumption 3). -/
def State.idle (s : State) : State :=
  let t := s.power.time
  let slip := t.slip + t.steer
  let turns := if 1000000 ≤ slip then 2 else if slip ≤ -1000000 then 0 else 1
  let slip := if 1000000 ≤ slip then slip - 1000000 else if slip ≤ -1000000 then slip + 1000000 else slip
  { s with now := s.now + turns * s.tickNs, power := { s.power with time := { t with slip := slip } } }

/-- Carry the machine to a moment, never back: the count takes the first value of its own that is not before it. -/
def State.reach (s : State) (t : Nat) : State := { s with now := if s.provisional then s.now + (t - s.now + 19) / 20 * 20 else max s.now t }

/-- Endpoint event counter `i` (R509). -/
def State.endEvent (s : State) (e i n : Nat) : State :=
  let off := endBlock e + 0x4E00 + 8 * (i / 2)
  if i % 2 = 0 then s.countWrap off 31 0 n else s.countWrap off 63 32 n

/-! Core counters (R499 to R505). -/

def pmcSel (k : CoreId) (n : Nat) : Nat := coreBlock k + 0x80 + 16 * n
def pmcCnt (k : CoreId) (n : Nat) : Nat := coreBlock k + 0x88 + 16 * n

/-- Counters count in none of nap, row sleep and tower deep (R502). -/
def State.pmcLive (s : State) (k : CoreId) : Bool :=
  decide ((s.core k).sleep = .awake) && !s.coreAsleep k

/-- Is thread `t` named by TMASK (0 acts as 0xFF)? -/
def tmaskHas (sel : Word) (t : Nat) : Bool := decide (sel.field 23 16 = 0) || bitOf sel (16 + t)

/-- Add to counter `n`; a wrap sets OVF and arms a sample (R504). -/
def State.pmcAdd (s : State) (k : CoreId) (n amount : Nat) : State :=
  let c := s.field (pmcCnt k n) 47 0 + amount
  let s := s.setField (pmcCnt k n) 47 0 c
  if c < 2 ^ 48 then s
  else
    let s := s.setField (pmcSel k n) 63 63 1
    let sel := s.reg (pmcSel k n)
    if bitOf sel 35 && !bitOf sel 62 then
      s.modCore k fun c => { c with pmcArmed := c.pmcArmed.set false n true, pmcWindow := c.pmcWindow.set [] n [] }
    else s

/-- The counters of the core. -/
def counterNos : List Nat := [0, 1, 2, 3, 4, 5, 6, 7]

/-- A pulse event, `amount` times, of a thread or of the core as a whole (R502, R503). -/
def State.pulse (s : State) (k : CoreId) (event : Nat) (thread : Option Nat) (amount : Nat) : State :=
  if s.pmcLive k then
    counterNos.foldl (fun s n =>
      let sel := s.reg (pmcSel k n)
      let named := match thread with
        | none => true
        | some t => tmaskHas sel t
      if bitOf sel 11 && decide (sel.field 9 0 = event) && named then s.pmcAdd k n amount else s) s
  else s

/-- No thread RUNNING or READY (R67). -/
def Core.idle (c : Core) : Bool :=
  threadNos.all fun t => decide ((c.th t).st ≠ .running) && decide ((c.th t).st ≠ .ready)

/-- The RUNNING thread, if any. -/
def Core.running? (c : Core) : Option (Fin 8) := threadNos.find? fun t => decide ((c.th t).st = .running)

/-- Threads for which `p` holds, as a mask. -/
def threadMask (p : Fin 8 → Bool) : Nat := (threadNos.map fun t => if p t then 2 ^ t.val else 0).sum

/-- The instances of a state event that hold, as a mask (R503); `stalled` is the thread that stalls in place. -/
def State.conditions (s : State) (k : CoreId) (event : Nat) (stalled : Option Nat) (stretched : Bool) : Nat :=
  let c := s.core k
  if event = 0x000 then 1
  else if event = 0x001 then boolBit stretched
  else if event = 0x003 then boolBit c.idle
  else if event = 0x005 then (match stalled with
    | none => 0
    | some t => 2 ^ t)
  else if 0x008 ≤ event ∧ event ≤ 0x00F then threadMask fun t => decide ((c.th t).st.code = event - 8)
  else if event = 0x041 then boolBit (decide (c.cycle < c.tensorFree))
  else if event = 0x082 then boolBit (decide (c.inbound.length = 64))
  else if event = 0x0C4 then threadMask fun t => match (c.th t).wait with
    | .held _ _ => true
    | _ => false
  else 0

/-- Is a state event counted per thread? -/
def perThreadEvent (event : Nat) : Bool :=
  decide (event = 0x005) || (decide (0x008 ≤ event) && decide (event ≤ 0x00F)) || decide (event = 0x0C4)

def popCount (n : Nat) : Nat := ((List.range 64).filter fun i => n / 2 ^ i % 2 = 1).length

/-- State events counted for `d` cycles in which the same conditions hold (R502). -/
def State.countCycles (s : State) (k : CoreId) (d : Nat) (stalled : Option Nat) (stretched : Bool) : State :=
  if s.pmcLive k then
    counterNos.foldl (fun s n =>
      let sel := s.reg (pmcSel k n)
      let ev := sel.field 9 0
      let all := s.conditions k ev stalled stretched
      let cond := if perThreadEvent ev then
          all &&& (if sel.field 23 16 = 0 then 255 else sel.field 23 16)
        else all
      let prev := (s.core k).pmcPrev.get 0 n
      let s := s.modCore k fun c => { c with pmcPrev := c.pmcPrev.set 0 n cond }
      if bitOf sel 11 then
        let amount := if bitOf sel 10 then popCount (cond - (cond &&& prev)) else popCount cond * d
        if amount = 0 then s else s.pmcAdd k n amount
      else s) s
  else s

/-- The core's free-running count moves on to `cyc`: the present cycle counts with its stall and its stretch, the cycles it passes
over with neither (R48, R502). -/
def State.passCycles (s : State) (k : CoreId) (cyc : Nat) : State :=
  let c := s.core k
  if cyc ≤ c.cycle then s
  else
    let s := s.countCycles k 1 c.stalled c.stretched
    let s := if cyc = c.cycle + 1 then s else s.countCycles k (cyc - c.cycle - 1) none false
    s.modCore k fun c => { c with cycle := cyc, stalled := none, stretched := false }

/-! The rotation of threads (R36 to R39). -/

/-- The first thread after `t`, in the order of the rotation, for which `p` holds. -/
def nextAfter (t : Fin 8) (p : Fin 8 → Bool) : Option (Fin 8) :=
  ([1, 2, 3, 4, 5, 6, 7, 8] : List (Fin 9)).findSome? fun i =>
    let u : Fin 8 := ⟨(t.val + i.val) % 8, Nat.mod_lt _ (by decide)⟩
    if p u then some u else none

/-- Make thread `u` RUNNING, its first issue in cycle `first`. -/
def Core.start (c : Core) (u : Fin 8) (first now : Nat) : Core :=
  { c.modTh u (fun t => { t with st := .running }) with
    ranLast := u, nextIssue := max c.nextIssue first, heldSince := now, lastIssue := now }

/-- A thread that an idle core took in this very cycle stands back: several threads that become READY in one cycle are chosen
among together (R39). -/
def Core.standBack (c : Core) : Core :=
  match c.took, c.running? with
  | some (t, n), some u =>
    if n = c.cycle then { c.modTh u (fun th => { th with st := .ready }) with ranLast := t, took := none } else c
  | _, _ => c

/-- An awake core with no RUNNING thread takes the first READY thread in the rotation after the one that ran last, to
issue in the next cycle (R39); a napping core starts its wake (R68). -/
def State.choose (s : State) (k : CoreId) : State :=
  let s := s.modCore k Core.standBack
  let c := s.core k
  if c.running?.isSome then s
  else match nextAfter c.ranLast (fun t => decide ((c.th t).st = .ready)) with
    | none => s
    | some u =>
      match c.sleep with
      | .awake => s.modCore k fun c => { c.start u (c.cycle + 1) s.now with took := some (c.ranLast, c.cycle) }
      | .nap => s.modCore k fun c => { c with sleep := .waking (s.now + 2000) }
      | .waking _ => s

/-- A thread becomes READY in the present cycle. -/
def Core.ready (c : Core) (t : Fin 8) : Core := c.modTh t fun th => { th with st := .ready, wait := .none, readyAt := c.cycle }

/-- A waiting thread becomes READY (R37); an idle core then takes it (R39). -/
def State.wake (s : State) (c : Ctx) : State := (s.modCore c.coreId fun k => k.ready c.thread).choose c.coreId

/-- Is a thread a candidate when thread `t` gives up the core: READY since an earlier cycle, or `t` itself (R38)? -/
def Core.candidate (c : Core) (t u : Fin 8) : Bool :=
  decide ((c.th u).st = .ready) && (decide (u = t) || decide ((c.th u).readyAt < c.cycle))

/-- The RUNNING thread gives up the core in the present cycle, left in state `st`; the next candidate of the rotation issues first
two cycles later (R38). With none the core is idle, and a thread that became READY in this cycle starts it in the next (R39). -/
def State.giveUp (s : State) (c : Ctx) (st : TState) : State :=
  let s := s.modCore c.coreId fun k => k.modTh c.thread fun t => { t with st := st, since := s.now, readyAt := k.cycle }
  let s := s.pulse c.coreId 0x004 (some c.thread.val) 1
  let k := s.core c.coreId
  match nextAfter c.thread (k.candidate c.thread) with
  | some u => s.modCore c.coreId fun k => k.start u (k.cycle + 2) s.now
  | none => (s.modCore c.coreId fun k => { k with idleSince := s.now }).choose c.coreId

/-! Faults (R64 to R66, R75, R158). -/

/-- CORE_FAULT and CORE_FAULT_ADDR take a fault (R75). -/
def State.writeFault (s : State) (k : CoreId) (thread cause orig : Nat) (pc : BitVec 13) (addr : Word) : State :=
  let off := coreBlock k + 0x20
  let w := putField (putField (putField (putField (putField (s.reg off) 63 63 1) 34 32 thread) 31 24 orig) 23 16 cause) 12 0 pc.toNat
  (s.setReg off w).setReg (coreBlock k + 0x28) addr

/-- Record a thread's fault in CORE_FAULT and CORE_FAULT_ADDR, or set OVERRUN (R75). -/
def State.recordFault (s : State) (k : CoreId) (thread cause orig : Nat) (pc : BitVec 13) (addr : Word) : State :=
  let off := coreBlock k + 0x20
  if bitOf (s.reg off) 63 then s.setField off 62 62 1
  else (s.writeFault k thread cause orig pc addr).modCore k fun c => { c with faultAt := some c.cycle }

/-- Record a core-fatal fault: it takes the place of a thread's fault of the same cycle, which then shows as OVERRUN (R66, R75). -/
def State.recordFatal (s : State) (k : CoreId) (pc : BitVec 13) (addr : Nat) : State :=
  let off := coreBlock k + 0x20
  let late := decide ((s.core k).faultAt = some (s.core k).cycle)
  if bitOf (s.reg off) 63 && !late then s.setField off 62 62 1
  else
    let s := if bitOf (s.reg off) 63 then s.setField off 62 62 1 else s
    (s.writeFault k 0 0x20 0x20 pc (BitVec.ofNat 64 addr)).modCore k fun c => { c with faultAt := none }

/-- The thread takes a fault in its handler: EINFO and EADDR written, EN cleared, on at ENTRY (R158). -/
def Thread.toHandler (t : Thread) (cause : Nat) (addr : Word) (pc : BitVec 13) (deferred : Bool) : Thread :=
  { t with
    einfo := BitVec.ofNat 64 (2 ^ 63 + boolBit deferred * 2 ^ 62 + cause % 256 * 2 ^ 16 + pc.toNat)
    eaddr := addr
    stopReq := false
    hctl := putField t.hctl 63 63 0
    pc := BitVec.ofNat 13 (t.hctl.field 12 0) }

/-- A solo replay of a thread of the core ends with a RESULT (R473); `thread`: of that thread only. -/
def State.endReplay (s : State) (k : CoreId) (thread : Option Nat) (result cause : Nat) : State :=
  match s.mod.replay with
  | none => s
  | some r =>
    if r.core = k.index && (match thread with
        | none => true
        | some t => decide (t = r.thread)) then
      { (s.setField (0x10058) 61 59 result).setField 0x10058 58 51 cause with mod := { s.mod with replay := none } }
    else s

/-- A precise or deferred fault of the RUNNING thread (R65): into its handler with no switch, or FAULTED with cause 0x30. A stop
that waits for the thread falls in the same cycle and gives way to the fault (R66). -/
def State.raise (s : State) (c : Ctx) (cause : Nat) (addr : Word) (pc : BitVec 13) (deferred : Bool) : State :=
  if bitOf (s.th c).hctl 63 then
    (s.modTh c fun t => t.toHandler cause addr pc deferred).pulse c.coreId 0x100 (some c.thread.val) 1
  else
    (((s.recordFault c.coreId c.thread.val 0x30 cause pc addr).modTh c fun t => { t with pc := pc, stopReq := false }).giveUp c .faulted).endReplay
      c.coreId (some c.thread.val) 2 cause

/-- The same for a thread that waits: its handler makes it READY, and with no handler it is FAULTED where it stands. -/
def State.raiseWaiting (s : State) (c : Ctx) (cause : Nat) (addr : Word) (pc : BitVec 13) : State :=
  if bitOf (s.th c).hctl 63 then
    ((s.modTh c fun t => t.toHandler cause addr pc false).pulse c.coreId 0x100 (some c.thread.val) 1).wake c
  else
    ((s.recordFault c.coreId c.thread.val 0x30 cause pc addr).modTh c fun t => { t with pc := pc, st := .faulted, wait := .none }).endReplay
      c.coreId (some c.thread.val) 2 cause

/-- A failure that waits for the thread's next `fence`: only the first is kept (R66). -/
def State.defer (s : State) (c : Ctx) (cause : Nat) (addr : Word) : State :=
  match (s.th c).deferred with
  | none => s.modTh c fun t => { t with deferred := some (cause, addr) }
  | some _ => s.pulse c.coreId 0x101 (some c.thread.val) 1

end Sys2Proof.Machine
end

