-- ==== Sys2Proof/Machine/Health.lean ====
section
/-!
DEFINITION. Reporting: the event log and the fault decision (R416, R418, R458 to R460), requests for a reset (R462), and writes of
kept fields (R23, R378).
-/
namespace Sys2Proof.Machine
open Sys2Proof

/-- An entry of the event log, stamped now (R418). -/
def State.logEntry (s : State) (kind code unit : Nat) : Word :=
  BitVec.ofNat 64 (kind * 2 ^ 60 + code % 256 * 2 ^ 52 + unit % 4096 * 2 ^ 40 + s.now / 1000 % 2 ^ 40)

/-- The log takes an entry. -/
def State.logWord (s : State) (w : Word) : State :=
  { s with log := s.log.set 0 (s.logTotal % 256) w, logTotal := (s.logTotal + 1) % 2 ^ 32 }

/-- Write an entry of the event log (R418). -/
def State.logEvent (s : State) (kind code unit : Nat) : State := s.logWord (s.logEntry kind code unit)

/-- Take the fault decision: HW_FAULT keeps the first (R416). Its entry is written at the snapshot, behind the warnings of that snapshot
(R418). -/
def State.decideFault (s : State) (cause : Nat) : State :=
  match s.hwFault with
  | some _ => s
  | none => { s with hwFault := some (cause, s.now % 2 ^ 48), logHeld := s.logHeld ++ [s.logEntry 3 cause 0xFFF] }

/-- A listed event; one marked "Yes" in R460 also takes the fault decision, and stands in the log just before the decision's entry. -/
def State.event (s : State) (code unit : Nat) (fault : Bool) : State :=
  if fault && s.hwFault.isNone then { s with logHeld := s.logHeld ++ [s.logEntry 4 code unit] }.decideFault 0x10
  else s.logEvent 4 code unit

/-- The entries of a fault decision are written (R418). -/
def State.flushLog (s : State) : State := s.logHeld.foldl State.logWord { s with logHeld := [] }

/-- Ask for a reset of a unit, with the error code it will leave (R459, R462). -/
def State.requestReset (s : State) (domain unit code : Nat) : State :=
  if s.resetReqs.any fun r => decide (r.domain = domain) && decide (r.unit = unit) then s
  else { s with resetReqs := s.resetReqs ++ [⟨domain, unit, code, s.now⟩] }

def State.modPower (s : State) (f : Power → Power) : State := { s with power := f s.power }

/-- Carry the machine to the next multiple of `period` at which a periodic event falls, and note that it has happened. -/
def State.periodic (s : State) (key period : Nat) : State :=
  let due := (s.marks.get 0 key / period + 1) * period
  let s := s.reach due
  { s with marks := s.marks.set 0 key s.now }

/-! Kept fields (R23, R378). -/

/-- An index of an item, for the chiplet that holds it. -/
def MramItem.index : MramItem → Nat
  | .field off hi lo => 4096 * off + 64 * hi + lo
  | .ring key => 2 ^ 40 + key
  | .commission key => 2 ^ 39 + key
  | .spares t g => 2 ^ 41 + 512 * t + g
  | .coefficient d => 2 ^ 42 + d
  | .saved => 2 ^ 43
  | .progress => 2 ^ 44

/-- Is the write window of the chiplet that holds an item open (R377)? -/
def State.windowOpen (s : State) (i : MramItem) : Bool :=
  let t := s.power.thermal
  if t.window0 = t.window1 then t.window0 else if Config.mramOnC1 i.index then t.window1 else t.window0

/-- The block an item lies in has been written once more (R526). -/
def State.noteMram (s : State) (i : MramItem) : State :=
  let b := s.mod.babbitt
  let c := boolBit (Config.mramOnC1 i.index)
  let k := 2 * Config.mramBlock i.index + c
  let phys := 2 * (Config.mramBlock i.index ^^^ b.map.get 0 k) + c
  { s with mod := { s.mod with babbitt := { b with
    recent := b.recent.modify 0 k (· + 1)
    total := b.total.modify 0 phys (· + 1) } } }

/-- Note that an item is about to be written: while the window is closed the write is queued, with at most one entry per item, and
the entry keeps what is stored (R378). -/
def State.mramWrite (s : State) (i : MramItem) (stored : List Nat) : State :=
  if s.windowOpen i then s.noteMram i
  else if s.power.queue.any fun e => decide (e.item = i) then s
  else s.modPower fun p => { p with queue := p.queue ++ [⟨i, stored⟩] }

/-- Write a kept register field (R23). Reads return the newest value. -/
def State.setKept (s : State) (off hi lo v : Nat) : State :=
  (s.mramWrite (.field off hi lo) [s.field off hi lo]).setField off hi lo v

/-- The write window of a chiplet opens: its queued entries are applied in order (R378). -/
def State.openWindow (s : State) (c1 : Bool) : State :=
  let due := s.power.queue.filter fun e => Config.mramOnC1 e.item.index = c1
  let s := due.foldl (fun (s : State) e => s.noteMram e.item) s
  s.modPower fun p => { p with queue := p.queue.filter fun e => Config.mramOnC1 e.item.index != c1 }

/-! Paths and their latches (R19). -/

/-- The place of a path among latches and answers (R19). -/
def Port.path : Port → Nat
  | .hostA => 0
  | .hostB => 1
  | .management => 2
  | .window0 => 3
  | .window1 => 4

/-- Which latch serves a register for a path: the path's own, but for a host port that of the register's endpoint block (R19, R163). -/
def Port.latchKey (p : Port) (off : Nat) : Nat :=
  if Port.path p < 2 ∧ 0x100000 ≤ off then 8 + 2 * ((off - 0x100000) / 0x20000) + Port.path p else Port.path p

def State.latchOf (s : State) (p : Port) (off : Nat) : Option (Nat × Lane) := s.mod.ports.latches.get none (Port.latchKey p off)
def State.setLatch (s : State) (p : Port) (off : Nat) (v : Option (Nat × Lane)) : State :=
  { s with mod := { s.mod with ports := { s.mod.ports with latches := s.mod.ports.latches.set none (Port.latchKey p off) v } } }

/-- The path's latch of one register ends. -/
def State.endLatch (s : State) (p : Port) (off : Nat) : State :=
  match s.latchOf p off with
  | some (o, _) => if o = off then s.setLatch p off none else s
  | none => s

/-! MSI-X (R406). -/

/-- An event on its own vector of both ports: sent, or pending while the vector is masked (R405, R406). -/
def State.msi (s : State) (v : Nat) : State :=
  let send := fun (p : Ports) (port : Nat) =>
    if bitOf (p.msix.get 0 (8 * port + 2 * v + 1)) 32 then { p with msixPending := p.msixPending.set false (4 * port + v) true }
    else { p with msixSent := p.msixSent.modify 0 (4 * port + v) (· + 1) }
  { s with mod := { s.mod with ports := send (send s.mod.ports 0) 1 } }

end Sys2Proof.Machine
end

