-- ==== Sys2Proof/Machine/JobData.lean ====
section
/-!
DEFINITION. The job package as data (R206 to R219): its header, its sections, and the placement of experts (R198 to R202).
-/
namespace Sys2Proof.Machine
open Sys2Proof

/-- `n` little-endian bytes at an offset of a package. -/
def pkgNat (p : List Byte) (off n : Nat) : Nat := ofBytes ((p.drop off).take n)

/-! Header fields (R207). -/

def pkgFlags (p : List Byte) : Nat := pkgNat p 0x006 2
def pkgSign (p : List Byte) : Bool := decide (pkgFlags p % 2 = 1)
def pkgDomain (p : List Byte) : Bool := decide (pkgFlags p / 2 % 2 = 1)
def pkgTag (p : List Byte) : Nat := pkgNat p 0x010 8
def pkgSeed (p : List Byte) : Nat := pkgNat p 0x018 8
def pkgVaultDirect (p : List Byte) : Nat := pkgNat p 0x020 4
def pkgPstat (p : List Byte) : Nat := pkgNat p 0x024 4
def pkgTimeBound (p : List Byte) : Nat := pkgNat p 0x028 4
def pkgClockPoint (p : List Byte) : Nat := pkgNat p 0x02C 1
def pkgPowerCap (p : List Byte) : Nat := pkgNat p 0x02E 2
def pkgDump (p : List Byte) : Nat := pkgNat p 0x030 4
def pkgHdm (p : List Byte) : Nat := pkgNat p 0x034 4
def pkgSections (p : List Byte) : Nat := pkgNat p 0x00C 4

/-- A section table entry (R208). -/
structure Section where
  type : Nat
  count : Nat
  offset : Nat
  length : Nat
  deriving DecidableEq, Repr

def pkgEntry (p : List Byte) (i : Nat) : Section :=
  let b := 0x40 + 16 * i
  { type := pkgNat p b 4, count := pkgNat p (b + 4) 4, offset := pkgNat p (b + 8) 4, length := pkgNat p (b + 12) 4 }

/-- The sections in use. -/
def pkgTable (p : List Byte) : List Section := (List.range (min 16 (pkgSections p))).map (pkgEntry p)

/-- The section of a type; a missing optional section counts as empty (R208). -/
def pkgSection (p : List Byte) (type : Nat) : Option Section := (pkgTable p).find? fun x => decide (x.type = type)

/-- A number in a section. -/
def secNat (p : List Byte) (type off n : Nat) : Nat :=
  match pkgSection p type with
  | some x => pkgNat p (x.offset + off) n
  | none => 0

def secCount (p : List Byte) (type : Nat) : Nat :=
  match pkgSection p type with
  | some x => x.count
  | none => 0

/-! Programs and cores (R209, R210). -/

/-- The package offsets of the images, in order; an image starts on the next 8-byte boundary. -/
def imageOffsets (p : List Byte) : Nat → Nat → List Nat
  | 0, _ => []
  | n + 1, off => off :: imageOffsets p n ((off + 8 + 8 * pkgNat p off 4 + 7) / 8 * 8)

def pkgImages (p : List Byte) : List Nat :=
  match pkgSection p 0x01 with
  | some x => imageOffsets p x.count x.offset
  | none => []

/-- The image number of a core; none for 0xFFFF. -/
def coreImage (p : List Byte) (core : Nat) : Option Nat :=
  let i := secNat p 0x02 (32 * core + 8) 2
  if i = 0xFFFF then none else some i

def coreOwn (p : List Byte) (core thread : Nat) : Nat := secNat p 0x02 (32 * core + thread) 1
def coreStart (p : List Byte) (core thread : Nat) : Bool := decide (secNat p 0x02 (32 * core + 10) 1 / 2 ^ thread % 2 = 1)
def corePc (p : List Byte) (core thread : Nat) : Nat := secNat p 0x02 (32 * core + 16 + 2 * thread) 2

/-- N of a core's image; 0 without one. -/
def coreLength (p : List Byte) (core : Nat) : Nat :=
  match coreImage p core with
  | some i => (match (pkgImages p)[i]? with
    | some off => pkgNat p off 4
    | none => 0)
  | none => 0

/-- The thread that owns unit bit `b` (bits 0 to 3 the tiles, 4 the tensor unit), as an owner field (R74). -/
def ownerField (p : List Byte) (core b : Nat) : Nat :=
  match (List.range 8).find? fun t => decide (coreOwn p core t / 2 ^ b % 2 = 1) with
  | some t => 8 + t
  | none => 0

/-- CORE_UNIT_MAP as loading forms it (R210). -/
def coreUnitMap (p : List Byte) (core : Nat) : Nat :=
  ownerField p core 4 + 2 ^ 4 * ownerField p core 0 + 2 ^ 8 * ownerField p core 1 + 2 ^ 12 * ownerField p core 2 + 2 ^ 16 * ownerField p core 3

/-! Placement (R198, R211). -/

/-- One placement entry. -/
structure Place' where
  layer : Nat
  homeModule : Nat
  homeTower : Nat
  homeCore : Nat
  altModule : Nat
  altTower : Nat
  altCore : Nat
  base : Nat
  half : Nat
  altBase : Nat
  rowUnits : Nat
  caps : List Nat
  deriving DecidableEq, Repr

def placeAt (p : List Byte) (i : Nat) : Place' :=
  let g := fun off n => secNat p 0x03 (64 * i + off) n
  { layer := g 0 2, homeModule := g 4 2 % 1024, homeTower := g 6 1, homeCore := g 7 1, altModule := g 8 2 % 1024, altTower := g 10 1,
    altCore := g 11 1, base := g 12 4, half := g 16 4, altBase := g 20 4, rowUnits := g 24 2,
    caps := (List.range 8).map fun s => g (28 + 2 * s) 2 }

/-- Is an alternate named? -/
def Place'.hasAlt (e : Place') : Bool := decide (e.altTower ≠ 0xFF)

/-- Is a core slot of this module enabled: present, and neither it nor its tower disabled (R4, R467)? -/
def State.coreEnabled (s : State) (tower core : Nat) : Bool :=
  decide (tower < 8) && decide (core < 256) && !(s.part1920 && decide (core % 16 = 15)) && !(s.coreAt (tower * 256 + core)).disabled &&
  !(s.endp tower).disabled

/-- The core of this module that a place of an entry names: 0 its home, 1 its alternate. -/
def State.placeCore (s : State) (i place : Nat) : Option Nat :=
  let e := placeAt s.mod.job.live i
  match place with
  | 0 => if e.homeModule = s.field 0x10000 63 54 then some (e.homeTower * 256 + e.homeCore) else none
  | 1 => if e.hasAlt && decide (e.altModule = s.field 0x10000 63 54) then some (e.altTower * 256 + e.altCore) else none
  | _ => none

/-- The core of this module on which an entry lives now. -/
def State.placeNow (s : State) (i : Nat) : Option Nat := s.placeCore i (s.mod.job.places.get 0 i)

/-- The place of an entry once every decided move has run (assumption 129). -/
def State.placeDecided (s : State) (i : Nat) : Nat :=
  match (s.mod.job.moves.filter fun m => decide (m.entry = i)).getLast? with
  | some m => m.place
  | none => s.mod.job.places.get 0 i

/-- Where an expert goes when its present core is lost: an entry at its home to an alternate that is enabled or lies on another module,
every other one nowhere (R200). -/
def State.fallbackPlace (s : State) (i : Nat) : Nat :=
  let e := placeAt s.mod.job.live i
  if s.placeDecided i = 0 && e.hasAlt && (decide (e.altModule ≠ s.field 0x10000 63 54) || s.coreEnabled e.altTower e.altCore) then 1 else 2

/-- Moves of the experts that live on the lost cores, all of which are disabled by now, in the order of their entries (R200). -/
def State.decideMoves (s : State) (lost : Nat → Bool) : State :=
  if s.field 0x10808 2 0 = 4 then
    let here := fun (i : Nat) => match s.placeCore i (s.placeDecided i) with
      | some c => lost c
      | none => false
    let ms := ((List.range (secCount s.mod.job.live 0x03)).filter here).map fun i =>
      { entry := i, place := s.fallbackPlace i, decided := s.now : Move }
    { s with mod := { s.mod with job := { s.mod.job with moves := s.mod.job.moves ++ ms } } }
  else s

/-- Cores leave service together, and their experts with them (R200, R467). -/
def State.disableCores (s : State) (ks : List CoreId) : State :=
  let ks := ks.filter fun k => !(s.core k).disabled
  (ks.foldl (fun s k => s.modCore k fun c => { c with disabled := true }) s).decideMoves fun i => ks.any fun k => decide (k.index = i)

/-- A tower leaves service, and the experts of its cores with it (R200, R332, R460, R467). -/
def State.disableTower (s : State) (t : Nat) : State :=
  if (s.endp t).disabled then s
  else
    let s := s.modEnd t fun d => { d with disabled := true }
    let s := s.event 0x1A t ((List.range 8).all fun u => (s.endp u).disabled)
    s.decideMoves fun i => decide (i / 256 = t)

end Sys2Proof.Machine
end

