-- ==== Sys2Proof/Machine/Crypto.lean ====
section
/-!
DEFINITION. SHA-256 (R206, R440), the CRC-32 of R428, the CRC-16 of R422, and signatures, whose bits the spec leaves to HSS keys it
does not give (R443, R444).
-/
namespace Sys2Proof.Machine
open Sys2Proof

/-! SHA-256's constants, from the roots of the first 64 primes. -/

/-- The first 64 primes. -/
def firstPrimes : List Nat :=
  [2, 3, 5, 7, 11, 13, 17, 19, 23, 29, 31, 37, 41, 43, 47, 53] ++
  [59, 61, 67, 71, 73, 79, 83, 89, 97, 101, 103, 107, 109, 113, 127, 131] ++
  [137, 139, 149, 151, 157, 163, 167, 173, 179, 181, 191, 193, 197, 199, 211, 223] ++
  [227, 229, 233, 239, 241, 251, 257, 263, 269, 271, 277, 281, 283, 293, 307, 311]

/-- The largest number, of at most `n` bits above `r`, whose `k`-th power is at most `v`. -/
def rootBits (k v : Nat) : Nat → Nat → Nat
  | 0, r => r
  | n + 1, r => rootBits k v n (if (r + 2 ^ n) ^ k ≤ v then r + 2 ^ n else r)

/-- The first 32 bits of the fraction of the `k`-th root of a number below 2^10. -/
def rootFraction (k p : Nat) : Lane := BitVec.ofNat 32 (rootBits k (p * 2 ^ (32 * k)) 37 0)

/-- The word of four bytes, most significant first. -/
def bigWord (bs : List Byte) : Lane := BitVec.ofNat 32 (bs.foldl (fun n b => 256 * n + b.toNat) 0)

/-- Cut a list into blocks of `n`, at most `fuel` of them. -/
def chunks {β : Type} (n : Nat) : Nat → List β → List (List β)
  | 0, _ => []
  | fuel + 1, xs => if xs.isEmpty then [] else xs.take n :: chunks n fuel (xs.drop n)

/-- Three rotations of a word, or two and a shift, added bit by bit. -/
def shaRotate (x : Lane) (i j k : Nat) : Lane := x.rotateRight i ^^^ (x.rotateRight j ^^^ x.rotateRight k)
def shaShift (x : Lane) (i j k : Nat) : Lane := x.rotateRight i ^^^ (x.rotateRight j ^^^ (x >>> k))

/-- The word that enters a window of 16 message words behind its newest. -/
def shaNext (win : List Lane) : Lane :=
  win.getD 0 0 + shaShift (win.getD 1 0) 7 18 3 + win.getD 9 0 + shaShift (win.getD 14 0) 17 19 10

/-- One round on the eight words of the hash: the words move on, and the first and the fifth take in the message. -/
def shaMix (v : List Lane) (input : Lane) : List Lane :=
  let x := fun (i : Nat) => v.getD i 0
  let chosen := x 6 ^^^ (x 4 &&& (x 5 ^^^ x 6))
  let most := (x 0 &&& x 1) ||| (x 2 &&& (x 0 ||| x 1))
  let t := x 7 + shaRotate (x 4) 6 11 25 + chosen + input
  (t + shaRotate (x 0) 2 13 22 + most) :: (v.take 3 ++ (x 3 + t) :: (v.drop 4).take 3)

/-- The rounds of a block, one for each prime: its constant and the oldest word of the window enter. -/
def shaRounds (v win : List Lane) : List Nat → List Lane
  | [] => v
  | p :: ps => shaRounds (shaMix v (rootFraction 3 p + win.headD 0)) (win.drop 1 ++ [shaNext win]) ps

/-- A block of 64 bytes is added to the hash. -/
def shaBlock (v : List Lane) (block : List Byte) : List Lane :=
  List.zipWith (· + ·) v (shaRounds v ((chunks 4 16 block).map bigWord) firstPrimes)

/-- The bytes of a number, most significant first. -/
def bigBytes (n v : Nat) : List Byte := (bytesOf n v).reverse

/-- A message with its end mark, the zeros that fill its last block, and its length in bits. -/
def shaPadded (m : List Byte) : List Byte := m ++ 0x80 :: (List.replicate ((119 - m.length % 64) % 64) 0 ++ bigBytes 8 (8 * m.length))

/-- SHA-256: 32 bytes. The hash starts from the square roots of the first eight primes. -/
def sha256 (m : List Byte) : List Byte :=
  let p := shaPadded m
  let v := (chunks 64 (p.length / 64) p).foldl shaBlock ((firstPrimes.take 8).map (rootFraction 2))
  (List.range 8).flatMap fun i => bigBytes 4 (v.getD i 0).toNat

/-- One bit of a reflected CRC-32. -/
def crc32Bit (c : Nat) : Nat := if c % 2 = 1 then (c / 2) ^^^ 0xEDB88320 else c / 2

/-- The IEEE 802.3 CRC-32 (R428). -/
def crc32 (bs : List Byte) : Nat :=
  (bs.foldl (fun c b => (List.range 8).foldl (fun c _ => crc32Bit c) (c ^^^ b.toNat)) 0xFFFFFFFF) ^^^ 0xFFFFFFFF

/-- The CRC-16 of an Elvef frame (R422): polynomial 0x1021, initial value 0xFFFF, no reflection. -/
def crc16 (bs : List Byte) : Nat :=
  bs.foldl (fun c b => (List.range 8).foldl (fun c _ =>
    if 0x8000 ≤ c then ((c * 2) ^^^ 0x11021) % 65536 else c * 2 % 65536) (c ^^^ (b.toNat * 256))) 0xFFFF

/-- The signature of an identity key: by chiplet, generation and index, over a message (R443, R444). -/
def identitySignature (c1 : Bool) (generation index : Nat) (message : List Byte) : List Byte :=
  (List.range 4472).map (Config.signatureByte c1 generation index message)

/-- The public key of an identity key generation: 60 bytes (R443). -/
def identityKey (c1 : Bool) (generation : Nat) : List Byte := (List.range 60).map (Config.identityKeyByte c1 generation)

end Sys2Proof.Machine
end

