-- ==== Sys2Proof/Machine/Codec.lean ====
section
/-!
DEFINITION. The W288 code (R306, R307) and every read and write of a scratchpad or instruction-memory lane (R47 to R55).
-/
namespace Sys2Proof.Machine
open Sys2Proof

/-! The code itself. -/

/-- Multiplication by x in GF(2^8), modulo x^8 + x^4 + x^3 + x^2 + 1 (R306). -/
def gfX (a : Nat) : Nat := if a < 128 then 2 * a else (2 * a) ^^^ 0x11D

/-- Multiplication in GF(2^8), by the bits of `b` from the top. -/
def gfMul (a b : Nat) : Nat :=
  [7, 6, 5, 4, 3, 2, 1, 0].foldl (fun r i => (gfX r) ^^^ (if b / 2 ^ i % 2 = 1 then a else 0)) 0

/-- The generator g(x) = (x - 1)(x - a)(x - a^2)(x - a^3), its coefficients from x^3 down to x^0 (R306). -/
def w288Gen : List Nat :=
  let times := fun (p : List Nat) (r : Nat) =>
    ((p ++ [0]).zip (0 :: p)).map fun (hi, lo) => hi ^^^ gfMul lo r
  ((([1].foldl (fun p _ => p) [1] |> (times · 1)) |> (times · 2)) |> (times · 4) |> (times · 8)).drop 1

/-- The four check symbols of 32 data bytes: the remainder of the division by g (R306). -/
def w288Check (data : List Byte) : List Nat :=
  (data.map (·.toNat)).foldl (fun (r : List Nat) s =>
    let f := (r.headD 0) ^^^ s
    ((r.drop 1 ++ [0]).zip w288Gen).map fun (a, g) => a ^^^ gfMul f g) [0, 0, 0, 0]

/-- What a decode of one codeword does (R307). -/
inductive Decoded where
  | clean
  | corrected
  | detected
  | undefined
  deriving DecidableEq, Repr

/-- R307: `bad` are the symbols in error, `marks` the marked positions. -/
def w288Decode (bad : List Nat) (marks : List Nat) : Decoded :=
  let ms := (marks.filter (· ≤ 35)).eraseDups
  let e := ms.length
  let t := (bad.filter fun b => !ms.contains b).length
  if bad = [] then .clean
  else match e, t with
    | 0, 1 => .corrected
    | 0, 2 => .detected
    | 0, 3 => .detected
    | 1, 0 => .corrected
    | 1, 1 => .corrected
    | 1, 2 => .detected
    | 2, 0 => .corrected
    | 2, 1 => .corrected
    | 3, 0 => .corrected
    | 3, 1 => .detected
    | 4, 0 => .corrected
    | _, _ => .undefined

/-- The symbols in error of codeword `w` of a medium whose errors are listed by w x 36 + symbol. -/
def errorsOf (err : Tab Byte) (w : Nat) : List (Nat × Byte) :=
  (err.filter fun p => decide (p.1 / 36 = w)).map fun p => (p.1 % 36, p.2)

/-- What a read of one codeword delivers: its status and its bytes (none where it is uncorrectable). -/
def readWord (data : List Byte) (bad : List (Nat × Byte)) (marks : List Nat) : Decoded × Option (List Byte) :=
  match w288Decode (bad.map (·.1)) marks with
  | .clean => (.clean, some data)
  | .corrected => (.corrected, some data)
  | .detected => (.detected, none)
  | .undefined => (match Config.undefinedDecode data bad marks with
    | none => (.detected, none)
    | some bs => (.undefined, some bs))

/-! Scratchpad lanes. -/

/-- Bank of a scratchpad lane (R47). -/
def spadBank (lane : Nat) : Nat := lane % 16

/-- Marked symbols of a bank: CORE_SPAD_ERASE (R53, R78). -/
def State.spadMarks (s : State) (k : CoreId) (bank : Nat) : List Nat :=
  let w := s.reg (coreBlock k + 0x38)
  (if bitOf w 21 && decide (w.field 20 17 = bank) then [w.field 16 11] else []) ++
  (if bitOf w 10 && decide (w.field 9 6 = bank) then [w.field 5 0] else [])

/-- A correction: counted, LAST_LANE and IMEM updated (R52, R77), the core event pulsed. -/
def State.noteCorrection (s : State) (k : CoreId) (lane : Nat) (imem : Bool) : State :=
  let off := coreBlock k + 0x30
  (((s.count off 63 32 1).setField off 15 15 (boolBit imem)).setField off 14 0 lane).pulse k 0x080 none 1

/-- One lane as a read through any port finds it; a correction makes a write-back due (R52). -/
def State.readLane (s : State) (k : CoreId) (lane : Nat) : State × Option (List Byte) :=
  let c := s.core k
  match errorsOf c.spadErr lane with
  | [] => (s, some (c.spad.read (32 * lane) 32))
  | bad =>
    let (st, out) := readWord (c.spad.read (32 * lane) 32) bad (s.spadMarks k (spadBank lane))
    match st, out with
    | .corrected, _ =>
      let s := s.noteCorrection k lane false
      (s.modCore k fun c =>
        if c.writebacks.get 0 (spadBank lane) = 0 then { c with writebacks := c.writebacks.set 0 (spadBank lane) (lane + 1) } else c,
       out)
    | .detected, _ => (s.count (coreBlock k + 0x30) 31 16 1, none)
    | _, _ => (s, out)

/-- A core-fatal fault stops the eight threads and asks for a reset of the core (R64, R459, R462). The spec names no state for the
stopped threads and is silent on what the core had issued and not yet performed: the model makes all eight FAULTED, a STOPPED one
too, and drops those operations (assumption 113). -/
def State.stopCore (s : State) (k : CoreId) : State :=
  ((s.requestReset 1 k.index 0x0120).endReplay k none 2 0x20).modCore k fun c => { c with
    threads := threadNos.foldl (fun ts t => ts.modify Thread.reset t.val fun th => { th with st := .faulted, wait := .none }) c.threads
    longOps := [], stores := [], tensor := [] }

/-- The instruction index CORE_FAULT shows for an access that no instruction of the core made, such as an inbound write or a scrub
read: that of the RUNNING thread, and 0 with none. The spec is silent (assumption 114). -/
def Core.presentPc (c : Core) : BitVec 13 :=
  match c.running? with
  | some t => (c.th t).pc
  | none => 0

/-- A core-fatal fault, cause 0x20: all eight threads stop, and CORE_FAULT records it, with the instruction whose access met the lane,
ahead of a thread's fault of the same cycle (R64, R66, R75). -/
def State.fatalAt (s : State) (k : CoreId) (pc : BitVec 13) (addr : Nat) : State := (s.recordFatal k pc addr).stopCore k

/-- The same for an access that no instruction of the core made. -/
def State.fatal (s : State) (k : CoreId) (addr : Nat) : State := s.fatalAt k (s.core k).presentPc addr

/-- Lanes that hold the bytes `off` to `off + n - 1`. -/
def lanesOf (off n : Nat) : List Nat := (List.range ((off + n + 31) / 32 - off / 32)).map (· + off / 32)

/-- The lower of two uncorrectable lanes. -/
def lowerBad (a : Option Nat) (l : Nat) : Option Nat :=
  match a with
  | none => some l
  | some b => some (min b l)

/-- The lanes of one access as read so far, and the lowest of them that is uncorrectable (R76). -/
structure Reading where
  got : List (Nat × List Byte)
  bad : Option Nat
  deriving DecidableEq, Repr

/-- One more lane of an access is read. -/
def State.readInto (s : State) (k : CoreId) (r : Reading) (l : Nat) : State × Reading :=
  match s.readLane k l with
  | (s, some bs) => (s, { r with got := r.got ++ [(l, bs)] })
  | (s, none) => (s, { r with bad := lowerBad r.bad l })

/-- Every lane of a list is read, an uncorrectable one among them: each correction and each uncorrectable lane counts (R52, R77). -/
def State.readLanes (s : State) (k : CoreId) : List Nat → Reading → State × Reading
  | [], r => (s, r)
  | l :: ls, r =>
    let p := s.readInto k r l
    p.1.readLanes k ls p.2

/-- Byte `a` of the lanes read. -/
def gotByte (got : List (Nat × List Byte)) (a : Nat) : Byte :=
  match got.find? fun p => decide (p.1 = a / 32) with
  | some p => p.2.getD (a % 32) 0
  | none => 0

/-- The bytes `off` to `off + n - 1` of the lanes read. -/
def gotBytes (got : List (Nat × List Byte)) (off n : Nat) : List Byte := (List.range n).map fun i => gotByte got (off + i)

/-- `n` bytes of the scratchpad from `off`, read at once. An uncorrectable lane delivers nothing, and the lowest is named. -/
def State.spadTry (s : State) (k : CoreId) (off n : Nat) : State × Except Nat (List Byte) :=
  let p := s.readLanes k (lanesOf off n) { got := [], bad := none }
  match p.2.bad with
  | none => (p.1, .ok (gotBytes p.2.got off n))
  | some l => (p.1, .error l)

/-- Bytes of one lane written, at offsets of the scratchpad; the lane's check symbols are made anew, its errors vanish,
and a pending write-back of the lane is dropped (R50, R52). -/
def State.putLane (s : State) (k : CoreId) (lane : Nat) (bytes : List (Nat × Byte)) : State :=
  let dropped := decide ((s.core k).writebacks.get 0 (spadBank lane) = lane + 1)
  let s := s.modCore k fun c => { c with
    spad := bytes.foldl (fun m p => m.setByte p.1 p.2) c.spad
    spadErr := c.spadErr.drop fun key => decide (key / 36 = lane)
    writebacks := if dropped then c.writebacks.set 0 (spadBank lane) 0 else c.writebacks }
  if dropped then s.pulse k 0x081 none 1 else s

/-- Bytes merged into a lane as it has been read, `bs` (R50). -/
def State.patchLane (s : State) (k : CoreId) (lane : Nat) (bs : List Byte) (bytes : List (Nat × Byte)) : State :=
  s.putLane k lane (((List.range bs.length).zip bs |>.map fun p => (32 * lane + p.1, p.2)) ++ bytes)

/-- One turn that writes part or all of a lane: a part is merged into the corrected lane. `false` where the lane is
uncorrectable and nothing is written (R50, R52). -/
def State.mergeLane (s : State) (k : CoreId) (lane : Nat) (bytes : List (Nat × Byte)) : State × Bool :=
  if bytes.length = 32 then (s.putLane k lane bytes, true)
  else match s.readLane k lane with
    | (s, some bs) => (s.patchLane k lane bs bytes, true)
    | (s, none) => (s, false)

/-- The same for an access that no instruction of the core made: an uncorrectable lane stops the core (R52). -/
def State.writeLane (s : State) (k : CoreId) (lane : Nat) (bytes : List (Nat × Byte)) : State × Bool :=
  match s.mergeLane k lane bytes with
  | (s, true) => (s, true)
  | (s, false) => (s.fatal k (32 * lane), false)

/-- Bytes and the offsets they go to. -/
def placed (off : Nat) (bs : List Byte) : List (Nat × Byte) := (List.range bs.length).zip bs |>.map fun p => (off + p.1, p.2)

/-- Bytes written from an offset on, lane by lane; `false` where some lane was uncorrectable. -/
def State.spadWrite (s : State) (k : CoreId) (off : Nat) (bs : List Byte) : State × Bool :=
  (lanesOf off bs.length).foldl (fun (s, ok) l =>
    let (s, o) := s.writeLane k l ((placed off bs).filter fun p => decide (p.1 / 32 = l))
    (s, ok && o)) (s, true)

/-- The scratchpad after bytes are written, whether or not every lane could be corrected. -/
def State.spadPut (s : State) (k : CoreId) (off : Nat) (bs : List Byte) : State := (s.spadWrite k off bs).1

/-! The instruction memory: lanes decoded with no marks (R53, R55). -/

/-- The instruction word at an index; `none` where its lane is uncorrectable (R114, R52). The spec gives the instruction memory no
bank and no local turn for the write-back of a corrected lane: the model writes it back at the fetch (assumption 115). -/
def State.fetch (s : State) (k : CoreId) (pc : BitVec 13) : State × Option Word :=
  let c := s.core k
  let lane := pc.toNat / 4
  let word := fun (bs : List Byte) => BitVec.ofNat 64 (ofBytes ((bs.drop (8 * (pc.toNat % 4))).take 8))
  match errorsOf c.imemErr lane with
  | [] => (s, some (BitVec.ofNat 64 (c.imem.readNat (8 * pc.toNat) 8)))
  | bad =>
    match readWord (c.imem.read (32 * lane) 32) bad [] with
    | (.corrected, some bs) =>
      ((s.noteCorrection k lane true).modCore k fun c => { c with imemErr := c.imemErr.drop fun key => decide (key / 36 = lane) },
       some (word bs))
    | (_, some bs) => (s, some (word bs))
    | (_, none) =>
      ((s.count (coreBlock k + 0x30) 31 16 1).fatalAt k pc lane, none)

end Sys2Proof.Machine
end

