-- ==== Sys2Proof/Machine/Local.lean ====
section
/-!
DEFINITION. Local long operations and local stores (R43 to R46, R52, R63, R124, R125): the turns they book, what they do in those turns,
and the waits that end with them.
-/
namespace Sys2Proof.Machine
open Sys2Proof

/-- A register a scoreboard guards (R43). -/
inductive Dep where
  | x (r : XReg)
  | v (r : VReg)
  | p (r : PReg)
  deriving DecidableEq, Repr

/-- Does a long operation write the register? x0 and p0 take no write, so they are never pending. -/
def LongDest.writes (o : LongDest) (d : Dep) : Bool :=
  match d, o with
  | .x r, .x q _ => decide (r.val = q) && decide (r ≠ 0)
  | .x r, .vx _ _ q _ => decide (r.val = q) && decide (r ≠ 0)
  | .x r, .load (.scalar _ _) q _ _ => decide (r.val = q) && decide (r ≠ 0)
  | .v r, .v q _ => decide (r.val = q)
  | .v r, .vx q _ _ _ => decide (r.val = q)
  | .v r, .load .vec32 q _ _ => decide (r.val = q)
  | .v r, .load .vecBf q _ _ => decide (r.val = q)
  | .v r, .load .vecHalf q _ _ => decide (r.val = q)
  | .v r, .topk q _ _ => decide (r.val = q)
  | .p r, .p q _ => decide (r.val = q) && decide (r ≠ 0)
  | _, _ => false

/-- The pending bit of a register of a thread (R43). -/
def Core.isPending (c : Core) (t : Fin 8) (d : Dep) : Bool :=
  c.longOps.any fun o => decide (o.thread = t.val) && o.dest.writes d

/-- A context from a core and a thread number. -/
def ctxOf (k : CoreId) (t : Nat) : Ctx := ⟨k.tower, k.core, ⟨t % 8, Nat.mod_lt _ (by decide)⟩⟩

/-! Starting (R43, R45). -/

/-- The first local turn of a bank at or after a cycle: (bank + c) mod 8 is 4 or 5 (R48). -/
def localTurn (bank cyc : Nat) : Nat :=
  let r := (bank + cyc) % 8
  if r = 4 ∨ r = 5 then cyc else if r < 4 then cyc + (4 - r) else cyc + (12 - r)

/-- The turns in which lanes are served, each the first local turn of its bank after cycle `c` that no earlier local
access holds (R45); with the banks' new bookings. -/
def bookTurns (free : Tab Nat) (cyc : Nat) : List Nat → Tab Nat × List (Nat × Nat)
  | [] => (free, [])
  | l :: ls =>
    let b := spadBank l
    let t := localTurn b (max (cyc + 1) (free.get 0 b))
    let (free, rest) := bookTurns (free.set 0 b (t + 1)) cyc ls
    (free, (l, t) :: rest)

/-- Book the turns of a local access that touches `lanes`, each with its turn. -/
def State.book (s : State) (k : CoreId) (lanes : List Nat) : State × List (Nat × Nat) :=
  let c := s.core k
  let (free, turns) := bookTurns c.bankFree c.cycle lanes
  (s.modCore k fun c => { c with bankFree := free }, turns)

def lastTurn (turns : List (Nat × Nat)) : Nat := turns.foldl (fun m p => max m p.2) 0

/-- A local long operation of the RUNNING thread, not yet in flight. -/
def State.longOp (s : State) (c : Ctx) (due : Nat) (d : LongDest) (reads : List (Nat × Nat)) : LongOp :=
  { thread := c.thread.val, pc := (s.th c).pc, due := due, order := (s.core c.coreId).accessNo, dest := d, reads := reads, got := [], bad := none }

/-- Put a local long operation in flight. -/
def State.addLong (s : State) (k : CoreId) (o : LongOp) : State :=
  s.modCore k fun c => { c with longOps := c.longOps ++ [o], accessNo := c.accessNo + 1 }

/-- Start a local long operation of latency `lat` in the present cycle (R43, R45). -/
def State.startLong (s : State) (c : Ctx) (lat : Nat) (d : LongDest) : State :=
  s.addLong c.coreId (s.longOp c ((s.core c.coreId).cycle + lat - 1) d [])

/-- A local load: each of its lanes is read in its own turn, and its result is written one cycle (scalar) or two cycles (vector) after
the last (R45). -/
def State.startLoad (s : State) (c : Ctx) (kind : LoadKind) (r off n : Nat) (mask : Word) : State :=
  let p := s.book c.coreId (lanesOf off n)
  let due := lastTurn p.2 + match kind with
    | .scalar _ _ => 1
    | _ => 2
  p.1.addLong c.coreId (s.longOp c due (.load kind r off mask) p.2)

/-- The cycles for which a top-k holds the local port (R45). -/
def topkPort : Nat := 32

/-- A top-k: its lanes take their turns as a load's do, and it holds every local turn of its first 32 cycles (R45, R63). -/
def State.startTopk (s : State) (c : Ctx) (r off n : Nat) : State :=
  let p := s.book c.coreId (lanesOf off (4 * n))
  let held := fun (k : Core) => { k with
    bankFree := (List.range 16).foldl (fun f b => f.set 0 b (max (f.get 0 b) (k.cycle + topkPort + 1))) k.bankFree }
  (p.1.modCore c.coreId held).addLong c.coreId (s.longOp c ((s.core c.coreId).cycle + 39) (.topk r off n) p.2)

/-- A local store: one part for each lane it touches, each performed in its own turn (R124, R125). -/
def State.startStore (s : State) (c : Ctx) (bytes : List (Nat × Byte)) : State :=
  let lanes := (bytes.map fun p => p.1 / 32).eraseDups
  let p := s.book c.coreId lanes
  p.1.modCore c.coreId fun k => { k with
    stores := k.stores ++ p.2.map fun q =>
      { thread := c.thread.val, pc := (s.th c).pc, turn := q.2, order := k.accessNo, bad := none
        bytes := bytes.filter fun b => decide (b.1 / 32 = q.1) }
    accessNo := k.accessNo + 1 }

/-! Local waits (R44). -/

/-- Is a tile busy: some queued or started operation writes or reads it (R43)? -/
def Core.tileBusy (c : Core) (t : Nat) : Bool := decide (c.heldTile = some t) || c.tensor.any fun o => decide (o.tile = t)

/-- Operations that wait in the tensor queue, not started. -/
def Core.tensorQueued (c : Core) : Nat := (c.tensor.filter fun o => o.times.isNone).length

/-- Room in the tensor queue: one entry while the unit is occupied, one more while it is free (R60). -/
def Core.tensorRoom (c : Core) : Bool :=
  if c.cycle < c.tensorFree then decide (c.tensorQueued < 1) else decide (c.tensorQueued < 2)

/-- Does every condition a `ywait` mask names hold (R44, R146)? -/
def Core.ywaitHolds (c : Core) (t : Fin 8) (mask : BitVec 8) : Bool :=
  (!mask.getLsbD 0 || (!(c.longOps.any fun o => decide (o.thread = t.val)) && !(c.tensor.any fun o => decide (o.thread = t.val)))) &&
  (!mask.getLsbD 1 || !c.tileBusy 0) && (!mask.getLsbD 2 || !c.tileBusy 1) &&
  (!mask.getLsbD 3 || !c.tileBusy 2) && (!mask.getLsbD 4 || !c.tileBusy 3) &&
  (!mask.getLsbD 5 || c.tensorRoom) &&
  (!mask.getLsbD 6 || decide (c.sfuFree ≤ c.cycle)) &&
  (!mask.getLsbD 7 || decide (c.topkFree ≤ c.cycle))

/-- Threads whose `ywait` has come to hold become READY (R44). -/
def State.wakeLocal (s : State) (k : CoreId) : State :=
  (threadNos.foldl (fun s t =>
    let th := (s.core k).th t
    match th.st, th.wait with
    | .waitLocal, .ylocal m => if (s.core k).ywaitHolds t m then s.modCore k fun c => c.ready t else s
    | _, _ => s) s).choose k

/-! What operations read and write. -/

/-- Bytes read, with the parts of earlier stores of the core laid over them (R45, R124). -/
def overlay (stores : List LaneStore) (order off : Nat) (bs : List Byte) : List Byte :=
  (List.range bs.length).map fun i =>
    (stores.filter fun st => decide (st.order < order)).foldl (fun b st =>
      match st.bytes.find? fun p => decide (p.1 = off + i) with
      | some p => p.2
      | none => b) (bs.getD i 0)

/-- Bytes `n` of a scalar load as its register receives them (R124, R139). -/
def extend (size : Nat) (signed : Bool) (v : Nat) : Word :=
  if signed then BitVec.ofInt 64 ((BitVec.ofNat (8 * size) v).toInt) else BitVec.ofNat 64 (v % 2 ^ (8 * size))

/-- The governed lanes of a vector load (R125). -/
def loadLanes (kind : LoadKind) (mask : Word) (bs : List Byte) : List (Nat × Lane) :=
  ((List.range 64).filter fun i => mask.getLsbD i).map fun i =>
    (i, match kind with
      | .vecBf => widenBf (ofBytes ((bs.drop (2 * i)).take 2))
      | .vecHalf => widenF16 (ofBytes ((bs.drop (2 * i)).take 2))
      | _ => BitVec.ofNat 32 (ofBytes ((bs.drop (4 * i)).take 4)))

/-- Does score `i` of a top-k rank above score `j`: greater, or equal with a lower index; a NaN below every number (R63). -/
def topkBefore (sc : List Lane) (i j : Nat) : Bool :=
  let a := f32 (sc.getD i 0)
  let b := f32 (sc.getD j 0)
  match a, b with
  | .nan, .nan => decide (i < j)
  | .nan, _ => false
  | _, .nan => true
  | _, _ => (match a.cmp b with
    | some r => decide (0 < r) || (decide (r = 0) && decide (i < j))
    | none => false)

/-- The best index among some, by R63. -/
def topkBest (sc : List Lane) : List Nat → Option Nat
  | [] => none
  | i :: is => match topkBest sc is with
    | none => some i
    | some j => some (if topkBefore sc i j then i else j)

/-- The `n` highest entries in order. -/
def topkPick (sc : List Lane) : Nat → List Nat → List Nat
  | 0, _ => []
  | n + 1, is => match topkBest sc is with
    | none => []
    | some i => i :: topkPick sc n (is.filter (· ≠ i))

/-- The vector register a top-k writes (R63). -/
def topkLanes (sc : List Lane) : List (Nat × Lane) :=
  let best := topkPick sc 8 (List.range sc.length)
  (List.range 64).map fun l =>
    (l, if l < 8 then (match best[l]? with
          | some i => (match f32 (sc.getD i 0) with
            | .nan => nan32
            | _ => sc.getD i 0)
          | none => 0xFF800000)
        else if l < 16 then (match best[l - 8]? with
          | some i => BitVec.ofNat 32 i
          | none => 0xFFFF)
        else 0)

/-- The bytes a load or top-k reads. -/
def LongDest.extent : LongDest → Option (Nat × Nat)
  | .load (.scalar n _) _ off _ => some (off, n)
  | .load .vec32 _ off _ => some (off, 256)
  | .load _ _ off _ => some (off, 128)
  | .topk _ off n => some (off, 4 * n)
  | _ => none

/-- Write a long operation's result to its thread; `bs` are the bytes it read. -/
def LongDest.apply (d : LongDest) (bs : List Byte) (t : Thread) : Thread :=
  let reg := fun (n : Nat) => (⟨n % 32, Nat.mod_lt _ (by decide)⟩ : Fin 32)
  match d with
  | .x r w => t.setX (reg r) w
  | .v r ls => t.setLanes (reg r) ls
  | .p r w => t.setP ⟨r % 8, Nat.mod_lt _ (by decide)⟩ w
  | .vx r ls xr w => (t.setLanes (reg r) ls).setX (reg xr) w
  | .load (.scalar n sg) r _ _ => t.setX (reg r) (extend n sg (ofBytes bs))
  | .load k r _ m => t.setLanes (reg r) (loadLanes k m bs)
  | .topk r _ n => t.setLanes (reg r) (topkLanes ((List.range n).map fun i => BitVec.ofNat 32 (ofBytes ((bs.drop (4 * i)).take 4))))

/-! What falls in one core cycle: the booked turns of reads and stores, pending write-backs, and results. -/

/-- Change one operation in flight, named by its place in the order of local accesses. -/
def Core.modLong (c : Core) (order : Nat) (f : LongOp → LongOp) : Core :=
  { c with longOps := c.longOps.map fun o => if o.order = order then f o else o }

/-- An operation reads the lanes whose turns have come by cycle `n` (R45). -/
def State.longReads (s : State) (k : CoreId) (n : Nat) (o : LongOp) : State :=
  let due := (o.reads.filter fun p => decide (p.2 ≤ n)).map Prod.fst
  if due = [] ∨ !(s.core k).longOps.contains o then s
  else
    let p := s.readLanes k due { got := o.got, bad := o.bad }
    p.1.modCore k fun c => c.modLong o.order fun o => { o with
      reads := o.reads.filter fun q => decide (n < q.2), got := p.2.got, bad := p.2.bad }

/-- A store part is performed; one whose lane is uncorrectable is not, and the core stops once every part of the store has had its
turn, with the lowest such lane (R50, R52, R76). -/
def State.storePart (s : State) (k : CoreId) (st : LaneStore) : State :=
  let waits := (s.core k).stores.contains st
  let s := s.modCore k fun c => { c with stores := c.stores.erase st }
  match st.bytes, waits with
  | (a, _) :: _, true =>
    let p := s.mergeLane k (a / 32) st.bytes
    let bad := if p.2 then st.bad else lowerBad st.bad (a / 32)
    match bad with
    | none => p.1
    | some l =>
      if (p.1.core k).stores.any fun x => decide (x.order = st.order) then
        p.1.modCore k fun c => { c with stores := c.stores.map fun x => if x.order = st.order then { x with bad := bad } else x }
      else p.1.fatalAt k st.pc (32 * l)
  | _, _ => s

/-- The first local turn of a bank that the local port leaves unused, from cycle `n` on (R52). -/
def Core.unusedTurn (c : Core) (bank n : Nat) : Nat := localTurn bank (max n (c.bankFree.get 0 bank))

/-- The pending write-back of a bank is performed when cycle `n` is an unused local turn of the bank. The turn reads the lane: one that
has become uncorrectable stops the core (R52). -/
def State.writeback (k : CoreId) (n : Nat) (s : State) (bank : Nat) : State :=
  let c := s.core k
  match c.writebacks.get 0 bank with
  | 0 => s
  | l + 1 =>
    if c.unusedTurn bank n = n then
      let s := s.modCore k fun c => { c with bankFree := c.bankFree.set 0 bank (n + 1), writebacks := c.writebacks.set 0 bank 0 }
      match readWord (c.spad.read (32 * l) 32) (errorsOf c.spadErr l) (s.spadMarks k bank) with
      | (.undefined, some bs) => s.modCore k fun c => { c with
          spad := c.spad.write (32 * l) bs, spadErr := c.spadErr.drop fun key => decide (key / 36 = l) }
      | (_, some _) => s.modCore k fun c => { c with spadErr := c.spadErr.drop fun key => decide (key / 36 = l) }
      | (_, none) => (s.count (coreBlock k + 0x30) 31 16 1).fatal k (32 * l)
    else s

/-- The sixteen banks. -/
def banks : List Nat := List.range 16

/-- What the local port does in cycle `n`: write-backs in turns left unused, then the reads and the store parts booked for it. A turn
is booked for one access only, so their order within the cycle decides nothing. -/
def State.localTurns (s : State) (k : CoreId) (n : Nat) : State :=
  let s := banks.foldl (State.writeback k n) s
  let s := (s.core k).longOps.foldl (fun s o => s.longReads k n o) s
  ((s.core k).stores.filter fun st => decide (st.turn ≤ n)).foldl (fun s st => s.storePart k st) s

/-- The earliest of some long operations: by due cycle, then by order of issue. -/
def earliest : List LongOp → Option LongOp
  | [] => none
  | o :: os => match earliest os with
    | none => some o
    | some q => some (if q.due < o.due ∨ (q.due = o.due ∧ q.order < o.order) then q else o)

/-- The operation writes its result to its thread and clears its pending bit; one that met an uncorrectable lane delivers nothing,
and the core stops (R43, R52). -/
def State.finishLong (s : State) (k : CoreId) (o : LongOp) : State :=
  let late := o.reads.map Prod.fst
  let p := s.readLanes k late { got := o.got, bad := o.bad }
  let s := p.1.modCore k fun c => { c with longOps := c.longOps.filter fun x => decide (x.order ≠ o.order) }
  match p.2.bad with
  | some l => s.fatalAt k o.pc (32 * l)
  | none =>
    let bs := match o.dest.extent with
      | none => []
      | some (off, n) => gotBytes p.2.got off n
    s.modTh (ctxOf k o.thread) (o.dest.apply bs)

/-- Results due by cycle `n` are written, the earliest first; `fuel` bounds how many there are. -/
def State.longResults (k : CoreId) (n : Nat) : Nat → State → State
  | 0, s => s
  | fuel + 1, s =>
    match earliest (s.core k).longOps with
    | none => s
    | some o => if o.due ≤ n then State.longResults k n fuel (s.finishLong k o) else s

end Sys2Proof.Machine
end

