-- ==== Sys2Proof/Machine/Operands.lean ====
section
/-!
DEFINITION. Operand forms: local offsets and their checks, and global addresses with the endpoint maps (R124, R138, R159 to
R163, R315).
-/
namespace Sys2Proof.Machine
open Sys2Proof

/-- xs + IMM32, exactly: a sum outside the scratchpad, negative ones among them, is out of range (R124). -/
def localOffset (x : Word) (imm : BitVec 32) : Int := x.toInt + imm.toInt

/-- The content CORE_FAULT_ADDR gives for causes 0x02 and 0x03: the local offset (R76). -/
def offsetWord (off : Int) : Word := BitVec.ofInt 64 off

/-- The checks of a local access: alignment (0x02), then range (0x03), in the order of R119. -/
def localFault (off : Int) (align size : Nat) : Option (Nat × Word) :=
  if off % (align : Int) ≠ 0 then some (2, offsetWord off)
  else if off < 0 ∨ (2 ^ 20 : Int) < off + size then some (3, offsetWord off)
  else none

/-- The low 20 bits that tensor and tile operands take (R134, R137). -/
def low20 (x : Word) : Nat := x.field 19 0

/-! Global addresses (R159 to R163). -/

def gaModule (a : Word) : Nat := a.field 63 54
def gaEndpoint (a : Word) : Nat := a.field 53 49
def gaOffset (a : Word) : Nat := a.field 48 0

/-- The module's own id: MOD_ID.MODULE (R407). -/
def State.moduleId (s : State) : Nat := s.field 0x10000 63 54

/-- D, the direct part of a tower's vault in bytes: VLT_STATUS.DIRECT (R322, R342). -/
def State.vaultDirect (s : State) (t : Nat) : Nat := s.field (endBlock t + 8) 5 0 * 2 ^ 26

/-- What an access asks of an address. -/
inductive Use where
  | load | store | atomic | bulk
  deriving DecidableEq, Repr

/-- A range of an endpoint's map (R160). -/
inductive Target where
  /-- The direct part of tower `t`'s vault. -/
  | vault (t a : Nat)
  /-- The scratchpad of core `k` of tower `t`. -/
  | spad (t k a : Nat)
  /-- The register window of an endpoint. -/
  | window (e a : Nat)
  /-- The control SRAM of chiplet 22 or 23. -/
  | csram (e a : Nat)
  /-- A host physical address through a control chiplet's port. -/
  | host (e h : Nat)
  /-- The hashed region: view bit and offset. -/
  | hashed (uncached : Bool) (a : Nat)
  deriving DecidableEq, Repr

/-- The first byte of the hashed region that is not backed (R316). -/
def hashedLimit : Nat := 8589934368 * 256

/-- The range that holds offset `off` of an endpoint, with the range's end (R160). -/
def State.rangeOf (s : State) (e off : Nat) : Option (Target × Nat) :=
  if e = 31 then
    let a := off % 2 ^ 48
    if a < hashedLimit then some (.hashed (decide (2 ^ 48 ≤ off)) a, hashedLimit - a) else none
  else if 24 ≤ e then none
  else if 0x1F0000000 ≤ off ∧ off < 0x1F0020000 then some (.window e (off - 0x1F0000000), 0x1F0020000 - off)
  else if e < 8 then
    if off < s.vaultDirect e then some (.vault e off, s.vaultDirect e - off)
    else if 2 ^ 32 ≤ off ∧ off < 2 ^ 32 + 2 ^ 28 then
      let k := (off - 2 ^ 32) / 2 ^ 20
      if s.part1920 && decide (k % 16 = 15) then none
      else some (.spad e k (off % 2 ^ 20), 2 ^ 20 - off % 2 ^ 20)
    else none
  else if 22 ≤ e then
    if off < 2 ^ 23 then some (.csram e off, 2 ^ 23 - off)
    else if 2 ^ 48 ≤ off then some (.host e (off - 2 ^ 48), 2 ^ 49 - off)
    else none
  else none

/-- Does the range accept an access of `size` bytes by a context on endpoint `from` (R160, R163)? `stream` is a host access
stream, which also makes 4-byte accesses to the window. -/
def Target.accepts (t : Target) (u : Use) (size from' : Nat) (stream : Bool) : Bool :=
  match t, u with
  | .window _ _, .load => decide (size = 8) || (stream && decide (size = 4))
  | .window _ _, .store => decide (22 ≤ from') && (decide (size = 8) || (stream && decide (size = 4)))
  | .window _ _, _ => false
  | .host _ _, .atomic => false
  | _, _ => true

/-- Is the far module reachable: the own one, or one with a valid route (R161, R164)? -/
def State.routed (s : State) (m : Nat) : Bool := decide (m = s.moduleId) || bitOf (s.reg (0x12000 + 8 * m)) 63

/-- The address checks of R138 and R161 for `size` bytes, aligned to `align`. -/
def State.addressOk (s : State) (a : Word) (u : Use) (size align from' : Nat) (stream : Bool) : Bool :=
  decide (gaOffset a % align = 0) && s.routed (gaModule a) &&
  (match s.rangeOf (gaEndpoint a) (gaOffset a) with
   | none => false
   | some (t, room) => decide (size ≤ room) && t.accepts u size from' stream)

/-- Does a 16-bit id name a context (R194)? -/
def State.isContext (s : State) (id : Nat) : Bool :=
  let e := id / 2048
  let core := id / 8 % 256
  let th := id % 8
  if e < 8 then !(s.part1920 && decide (core % 16 = 15))
  else if e = 22 ∨ e = 23 then
    (decide (th = 0) && (decide (core ≤ 3) || decide (core = 0x10) || decide (core = 0x11))) ||
    (decide (0x40 ≤ core) && decide (core ≤ 0x7F))
  else false

/-- May data at this address carry counter target `kctx` (R160, R161): a context of the same endpoint, on a range that
permits one? -/
def State.counterOk (s : State) (a : Word) (kctx : Nat) : Bool :=
  decide (kctx / 2048 = gaEndpoint a) && s.isContext kctx &&
  (match s.rangeOf (gaEndpoint a) (gaOffset a) with
   | some (.vault _ _, _) => true
   | some (.spad _ _ _, _) => true
   | some (.csram _ _, _) => true
   | _ => false)

/-! Cutting transfers into packets (R170). -/

/-- The lengths of the pieces of `len` bytes from offset `off`: pieces of 1,024 bytes, or pieces that end at every 256-byte
boundary in the hashed region. `n` bounds the number of pieces. -/
def cutLengths (hashed : Bool) : Nat → Nat → Nat → List Nat
  | 0, _, _ => []
  | n + 1, off, len =>
    if len = 0 then []
    else
      let p := min len (if hashed then 256 - off % 256 else 1024)
      p :: cutLengths hashed n (off + p) (len - p)

/-- Offsets and lengths of the pieces, from 0. -/
def cutPieces (hashed : Bool) (off len : Nat) : List (Nat × Nat) :=
  let ls := cutLengths hashed (len / 32 + 2) off len
  (ls.foldl (fun (acc : List (Nat × Nat) × Nat) l => (acc.1 ++ [(acc.2, l)], acc.2 + l)) ([], 0)).1

/-! The hash of the hashed region (R315). -/

/-- Line index, channel and line slot of an offset in the hashed region. -/
def hashLine (off : Nat) : Nat × Nat × Nat :=
  let L := off / 256 % 2 ^ 33
  let r := ((List.range 6).map fun d => L / 2 ^ (6 * d) % 64).sum % 9
  let Q := (L - r) / 9
  let slot := Q / 32
  let fold := (List.range 5).foldl (fun f g => f ^^^ (slot / 2 ^ (5 * g) % 32)) 0
  (L, 32 * r + ((Q % 32) ^^^ fold), slot)

/-- The channel, 0 to 287, of an offset in the hashed region. -/
def hashChannel (off : Nat) : Nat := (hashLine off).2.1

/-- The memory port's endpoint, 8 to 15, of an offset in the hashed region. -/
def hashPort (off : Nat) : Nat := 8 + hashChannel off / 36

end Sys2Proof.Machine
end

