-- ==== Sys2Proof/Machine/Flags.lean ====
section
/-!
DEFINITION. Condition codes, predicates and report bits: everything an instruction computes as a flag (R42, R127, R133,
R178).
-/
namespace Sys2Proof
open Machine

/-- Does a `vcmp` condition hold of two lanes? NaN makes eq, lt, le, gt and ge false and ne true; +0 equals -0 (R127). -/
def Cond.holds (cc : Cond) (a b : Lane) : Bool :=
  match cc, (f32 a).cmp (f32 b) with
  | .eq, some r => decide (r = 0)
  | .ne, some r => decide (r ≠ 0)
  | .lt, some r => decide (r < 0)
  | .le, some r => decide (r ≤ 0)
  | .gt, some r => decide (0 < r)
  | .ge, some r => decide (0 ≤ r)
  | .un, some _ => false
  | .ord, some _ => true
  | .ne, none => true
  | .un, none => true
  | _, none => false

end Sys2Proof

namespace Sys2Proof.Machine
open Sys2Proof

/-- A 64-bit mask from its bits. -/
def maskOf (p : Nat → Bool) : Word := BitVec.ofNat 64 (((List.range 64).map fun i => if p i then 2 ^ i else 0).sum)

/-- The counter condition of `kwait`: the counter has reached xv or passed it within half its range (R178). -/
def counterReached (k xv : Lane) : Bool := decide ((k - xv).toNat < 2 ^ 31)

/-- p7 of a wait that ended: all ones where its condition held, zeros where its deadline passed (R42). -/
def waitFlag (held : Bool) : Word := if held then BitVec.allOnes 64 else 0

/-- The zero report of a pack: bit b is set where every element of block b is zero and its scale is not 0xFF (R133). -/
def zeroReport (t : Elem) (blocks : List (Nat × List Nat)) : Word :=
  BitVec.ofNat 64 (((List.range blocks.length).map fun b =>
    let (sc, es) := blocks.getD b (255, [])
    if sc ≠ 255 ∧ es.all t.isZero then 2 ^ b else 0).sum)

end Sys2Proof.Machine
end

