-- ==== Sys2Proof/Machine/Packet.lean ====
section
/-!
DEFINITION. Packets (R166 to R169, R243): their kinds, sizes and fields, and the arithmetic of remote atomics (R104, R140).
-/
namespace Sys2Proof.Machine
open Sys2Proof

/-! The arithmetic of remote atomics (R104, R140). -/

/-- Bytes an atomic acts on. -/
def atomicSize (func : Nat) : Nat :=
  if func = 0x00 ∨ func = 0x02 ∨ func = 0x04 ∨ func = 0x05 ∨ func = 0x06 ∨ func = 0x08 ∨ func = 0x0A ∨ func = 0x0C then 4
  else if func = 0x03 then 2 else 8

/-- Is the atomic combined at a memory port (R140)? -/
def combinable (func : Nat) : Bool := decide (func ≤ 0x0D)

/-- Does it pass a gateway (R140)? -/
def passesGateway (func : Nat) : Bool := decide (func ≤ 0x03)

/-- The value an atomic leaves, from the old value, the operand and the comparand, as numbers of its size (R104, R140). -/
def atomicResult (func old opd cmp : Nat) : Nat :=
  let n := 8 * atomicSize func
  let a := BitVec.ofNat n old
  let b := BitVec.ofNat n opd
  match func with
  | 0x00 => (a + b).toNat
  | 0x01 => (a + b).toNat
  | 0x02 => (fAdd .nearestEven (BitVec.ofNat 32 old) (BitVec.ofNat 32 opd)).toNat
  | 0x03 => toBf16 ((bf16 (old % 2 ^ 16)).add (bf16 (opd % 2 ^ 16)))
  | 0x04 => (fMin (BitVec.ofNat 32 old) (BitVec.ofNat 32 opd)).toNat
  | 0x05 => (fMax (BitVec.ofNat 32 old) (BitVec.ofNat 32 opd)).toNat
  | 0x06 => if a.slt b then a.toNat else b.toNat
  | 0x07 => if a.slt b then a.toNat else b.toNat
  | 0x08 => if a.slt b then b.toNat else a.toNat
  | 0x09 => if a.slt b then b.toNat else a.toNat
  | 0x0A => min a.toNat b.toNat
  | 0x0B => min a.toNat b.toNat
  | 0x0C => max a.toNat b.toNat
  | 0x0D => max a.toNat b.toNat
  | 0x0E => (a &&& b).toNat
  | 0x0F => (a ||| b).toNat
  | 0x10 => (a ^^^ b).toNat
  | 0x11 => b.toNat
  | 0x12 => if old = cmp then b.toNat else a.toNat
  | _ => a.toNat

end Sys2Proof.Machine

namespace Sys2Proof
open Machine

/-- The function and the comparand of an ATOMIC packet (R168, R169). -/
def Packet.func (p : Packet) : Nat := p.sub % 32
def Packet.fetches (p : Packet) : Bool := decide (p.sub / 128 % 2 = 1)
def Packet.comparand (p : Packet) : Nat := ofBytes (p.data.take 8)

/-- The result of an ATOMIC packet on an old value of its size. -/
def Packet.atomic (p : Packet) (old : Nat) : Nat :=
  atomicResult p.func old (p.operand.toNat % 2 ^ (8 * atomicSize p.func)) p.comparand

/-- LOAD, STORE, ATOMIC, PUT and GET: the request class (R168, R243). -/
def Packet.isRequest (p : Packet) : Bool := decide (1 ≤ p.op) && decide (p.op ≤ 5)

/-- ACK, NACK, DATA and GDATA: the response class (R243). -/
def Packet.isResponse (p : Packet) : Bool := decide (0x41 ≤ p.op) && decide (p.op ≤ 0x44)

/-- Data flits (R166). -/
def Packet.nflit (p : Packet) : Nat := (p.data.length + 31) / 32

/-- Flits of the packet, its head among them (R166). -/
def Packet.flits (p : Packet) : Nat := 1 + p.nflit

/-- Bytes a LOAD or STORE moves (R169). -/
def Packet.size (p : Packet) : Nat := 2 ^ (p.sub % 4)

/-- Bytes a GET asks for (R169). -/
def Packet.getBytes (p : Packet) : Nat := 32 * (p.sub % 32 + 1)

/-- The response of a request: it carries SRC_CTX, SRC_MODULE, SEQ, SRC_INC and ADDR unchanged (R167). -/
def Packet.answer (p : Packet) (op sub : Nat) (operand : Word) (data : List Byte) : Packet :=
  { p with op := op, sub := sub, knum := 0, ken := false, db := false, tries := 0, kctx := 0, operand := operand, data := data }

def Packet.ack (p : Packet) : Packet := p.answer 0x41 0 0 []
def Packet.nack (p : Packet) (cause : Nat) : Packet := p.answer 0x42 cause 0 []
def Packet.dataAnswer (p : Packet) (value : Word) : Packet := p.answer 0x43 0 value []
/-- GDATA repeats the requester local offset from the GET (R168). -/
def Packet.gdata (p : Packet) (bytes : List Byte) : Packet := p.answer 0x44 0 p.operand bytes

/-- The number a head flit's 256 data bits form (R167). -/
def Packet.head (p : Packet) : Nat :=
  p.op + 2 ^ 8 * p.sub + 2 ^ 16 * p.knum + 2 ^ 22 * boolNat p.ken + 2 ^ 23 * boolNat p.db + 2 ^ 24 * p.tries + 2 ^ 26 * boolNat p.gw +
  2 ^ 32 * p.srcCtx + 2 ^ 48 * p.seq + 2 ^ 64 * p.kctx + 2 ^ 80 * p.srcModule + 2 ^ 90 * p.nflit + 2 ^ 96 * p.srcInc +
  2 ^ 128 * p.addr.toNat + 2 ^ 192 * p.operand.toNat
where
  boolNat (b : Bool) : Nat := if b then 1 else 0

/-- The number the fields of a run of bits form, each given with its lowest bit. -/
def bitsAt (fields : List (Nat × Nat)) : Nat := (fields.map fun f => 2 ^ f.1 * f.2).sum

/-- The freed counts of a link flit, from bit 64 on: 24 bits a lane, the request class in the lower 12 (R244, R291). -/
def freedBits (req rsp : List Nat) : List (Nat × Nat) :=
  (List.range 8).flatMap fun j => [(64 + 24 * j, req.getD j 0 % 4096), (76 + 24 * j, rsp.getD j 0 % 4096)]

/-- The number a base link flit's 256 data bits form (R244). -/
def LinkFlit.head (f : LinkFlit) : Nat :=
  bitsAt ([(0, 0xC0), (8, f.src.val), (13, f.half.val), (16, f.down.toNat), (32, f.resync.toNat), (48, f.init.toNat)] ++
    freedBits f.reqFreed f.rspFreed)

/-- The number an external link flit's 256 data bits form (R291). -/
def ExtLinkFlit.head (f : ExtLinkFlit) : Nat :=
  bitsAt ([(0, 0xC1), (8, 16 + f.pair.val / 4), (13, f.quarter.val), (16, f.down.toNat), (24, f.resync.toNat), (32, f.init.toNat),
    (40, f.pairState.val), (42, f.srcModule % 1024)] ++ freedBits f.reqFreed f.rspFreed)

/-- The number a time flit's 256 data bits form (R356). -/
def TimeFlit.head (f : TimeFlit) : Nat :=
  bitsAt [(0, 0xC2), (8, 16 + f.src.val), (13, f.fibre.val), (15, if f.locked then 1 else 0), (16, f.stratum), (20, f.srcModule),
    (64, f.tTx % 2 ^ 64), (128, f.echoTx % 2 ^ 64), (192, f.echoRx % 2 ^ 64)]

/-- The number a frame head's 256 data bits form (R196). -/
def Frame.head (f : Frame) : Nat :=
  bitsAt [(0, 0x08), (32, f.number % 2 ^ 32), (64, f.srcModule), (74, f.srcGw), (96, f.dstModule), (106, f.dstGw), (128, f.packets),
    (192, f.flits)]

/-- The data bytes of a packet's flits, its head first; a last data flit in part is filled with zeros (R166). -/
def Packet.bytes (p : Packet) : List Byte :=
  bytesOf 32 p.head ++ p.data ++ List.replicate (32 * p.nflit - p.data.length) 0

end Sys2Proof
end

