-- ==== Sys2Proof/Machine/Net.lean ====
section
/-!
DEFINITION. The operations of the photonic base and the fibres (R238 to R259, R288 to R295): lanes and queues, routes, landing
tables, lane failures, forced retirements, credit initialisation.
-/
namespace Sys2Proof
namespace Machine

/-! Places. -/

def baseLane (s d p : Nat) : Nat := (s * 24 + d) * 16 + p
def extLane (pair j : Nat) : Nat := 16384 + pair * 32 + j
/-- The lane that comes in on lane `j` of a fibre pair. -/
def extIn (pair j : Nat) : Nat := 17152 + pair * 32 + j

end Machine

/-- The place of a lane in the lane table: of an external one, its outgoing lane. -/
def LaneId.key : LaneId → Nat
  | .base s d p => Machine.baseLane s.val d.val p.val
  | .ext f j => Machine.extLane f.val j.val

end Sys2Proof

namespace Sys2Proof.Machine
open Sys2Proof

def isExt (key : Nat) : Bool := decide (16384 ≤ key)

/-- The fibre pair of an external lane, and its number in the pair. -/
def extPair (key : Nat) : Nat := (key - 16384) / 32 % 24
def extNo (key : Nat) : Nat := (key - 16384) % 32

/-- The lane whose receiver is in this module, of one that a key names: the incoming lane of an external pair. -/
def rxLane (key : Nat) : Nat := if isExt key then extIn (extPair key) (extNo key) else key

/-- Source and destination endpoints of a base lane, and its plane; an external lane leaves and enters at its X-chiplet. -/
def laneSrc (key : Nat) : Nat := if isExt key then 16 + extPair key / 4 else key / 384
def laneDst (key : Nat) : Nat := if isExt key then 16 + extPair key / 4 else key / 16 % 24
def lanePlane (key : Nat) : Nat := key % 16

/-- The lane of the other direction: base lane (d, s, p), or the other direction of an external lane. -/
def peerLane (key : Nat) : Nat :=
  if isExt key then (if key < 17152 then extIn (extPair key) (extNo key) else extLane (extPair key) (extNo key))
  else baseLane (laneDst key) (laneSrc key) (lanePlane key)

/-- The index of the lane's plane or fibre pair among the planes (0-15) and fibre pairs (16-39). -/
def lanePlaneIx (key : Nat) : Nat := if isExt key then 16 + extPair key else lanePlane key

def State.ln (s : State) (key : Nat) : LaneState := s.lanes.get LaneState.reset key
def State.modLane (s : State) (key : Nat) (f : LaneState → LaneState) : State :=
  { s with lanes := s.lanes.modify LaneState.reset key f }

/-- The state of a plane (0-15) or of fibre pair `16 + 4x + f` (R255, R293); RETIRED until it is first lit. -/
def State.plane (s : State) (i : Nat) : PlaneState := s.planes.get .retired i
def State.setPlane (s : State) (i : Nat) (v : PlaneState) : State := { s with planes := s.planes.set .retired i v }

/-- The lanes of a pair (src, dest), or of a fibre pair `24 + 4x + f`, lowest plane or line first. -/
def pairLanes (src dest : Nat) : List Nat :=
  if dest < 24 then (List.range 16).map (baseLane src dest) else (List.range 32).map (extLane (dest - 24))

/-! Paths and bays (R271). -/

/-- The planes and fibre pairs of the path of a bay CB0-CB5. -/
def pathOf (bay : Nat) : List Nat :=
  if bay < 4 then (List.range 4).map (· + 4 * bay)
  else (List.range 6).flatMap fun x => [16 + 4 * x + 2 * (bay - 4), 17 + 4 * x + 2 * (bay - 4)]

/-- The bay whose path holds a plane or fibre pair. -/
def bayOf (i : Nat) : Nat := if i < 16 then i / 4 else 4 + (i - 16) % 4 / 2

def State.bay (s : State) (n : Nat) : Bay := s.light.bays.get Bay.none n
def State.modBay (s : State) (n : Nat) (f : Bay → Bay) : State :=
  { s with light := { s.light with bays := s.light.bays.modify Bay.none n f } }

/-- The cartridge that feeds the path of a bay: its own, or CB6 where the spare matrix has put it in its place. -/
def State.feeder (s : State) (bay : Nat) : Nat := if s.field 0x17048 3 0 = bay then 6 else bay

/-- Does a cartridge feed a path: it is SERVING, or its lines are being moved while it serves (R272)? -/
def Bay.feeds (b : Bay) : Bool := decide (b.st = .serving) || (decide (b.st = .matching) && b.serves)

/-- Does a plane or fibre pair carry light? -/
def State.lit (s : State) (i : Nat) : Bool :=
  (s.bay (s.feeder (bayOf i))).feeds && (match s.light.switching with
    | some (b, _) => decide (b ≠ bayOf i)
    | none => true)

/-- The rings of the paths whose planes and fibre pairs satisfy `p` all take one lock state, and lock afresh (R277, R280). -/
def State.setRings (s : State) (p : Nat → Bool) (st : RingState) : State :=
  let renew := fun (r : Ring) => { r with st := st, steady := none, toneOk := decide (st = .locked), parked := none }
  { s with light := { s.light with
    common := ((List.range 40).filter p).foldl (fun t i => t.set .off i st) s.light.common
    rings := s.light.rings.map fun (e : Nat × Ring) => if p (lanePlaneIx (e.1 / 2)) then (e.1, renew e.2) else e } }

/-- Planes and fibre pairs of a path that were LOCKED are RETIRED once they have lost their light (R255). -/
def State.unlockPath (s : State) (p : Nat → Bool) : State :=
  let lost := (List.range 40).filter fun i => p i && decide (s.plane i = .locked)
  let s := lost.foldl (fun s i => s.setPlane i .retired) s
  { s with selfOk := Tab.drop (fun k => lost.contains (k % 16)) s.selfOk }

/-- One ring, and a change of it. -/
def State.ring (s : State) (key : Nat) : Ring :=
  let st := s.light.common.get .off (lanePlaneIx (key / 2))
  s.light.rings.get { Ring.off with st := st, toneOk := decide (st = .locked) } key
def State.modRing (s : State) (key : Nat) (f : Ring → Ring) : State :=
  { s with light := { s.light with rings := s.light.rings.insert key (f (s.ring key)) } }

/-- The place of a ring: the receive ring of a lane, or its transmit ring. -/
def ringKey (l : LaneId) (tx : Bool) : Nat := 2 * l.key + (if tx then 1 else 0)

/-- The rings of a plane, those of λ0 among them, or of a fibre pair (R238, R276). -/
def ringsOf (i : Nat) : List Nat :=
  let lanes := if i < 16 then (List.range 576).map fun x => 16 * x + i else (List.range 32).map (extLane (i - 16))
  lanes.flatMap fun k => [2 * k, 2 * k + 1]

/-- Is every ring of a plane or fibre pair LOCKED? -/
def State.ringsLocked (s : State) (i : Nat) : Bool :=
  let mine := s.light.rings.filter fun e => decide (lanePlaneIx (e.1 / 2) = i)
  mine.all (fun e => decide (e.2.st = .locked)) &&
  (decide (s.light.common.get .off i = .locked) || (ringsOf i).all fun k => mine.any fun e => decide (e.1 = k))

/-- A path goes dark: its rings are off. -/
def State.darken (s : State) (p : Nat → Bool) : State := (s.setRings p .off).unlockPath p

/-! Transmit queues (R246, R247). -/

def flitsOf (q : List Transit) : Nat := (q.map fun t => t.pkt.flits).sum

/-- Time `n` flits take on a lane, in 1/100 ns (R239). -/
def flitTime (n : Nat) : Nat := 288 * n

/-- Flits placed on a lane and not yet sent at time `now`: those of its queue, and those of the packet being sent (R246). -/
def LaneState.unsent (l : LaneState) (now : Nat) : Nat := flitsOf l.txq + (l.busyUntil - 100 * now + 287) / 288

/-- Queued bytes of a lane (R246). -/
def LaneState.queued (l : LaneState) (now : Nat) : Nat := 36 * l.unsent now

/-- Does the lane accept a packet (R246)? -/
def LaneState.takes (l : LaneState) (now : Nat) (p : Packet) : Bool :=
  if p.data = [] then decide (l.queued now ≤ 8192) else decide (l.queued now + 36 * p.flits ≤ 8192)

/-- May the source of a lane place packets on it? Its plane or fibre pair is ACTIVE, it has decoded no DOWN and no RESYNC for it, and credit
initialisation is over at both ends (R247, R252 to R254, R293). -/
def State.laneUsable (s : State) (key : Nat) : Bool :=
  let l := s.ln key
  decide (s.plane (lanePlaneIx key) = .active) && !l.down && !l.halted && decide (l.init = .idle) &&
  (if isExt key then decide (s.farState.get 0 (extPair key) = 0) else !s.unreach.get false (key / 16))

/-- The bytes R247 compares: a lane in standby counts 625 more. -/
def LaneState.weight (l : LaneState) (now : Nat) : Nat := l.queued now + (if l.standby then 625 else 0)

/-- The lane with the fewest bytes among some, the first of equals. -/
def State.lightest (s : State) : List Nat → Option Nat
  | [] => none
  | k :: ks => match s.lightest ks with
    | none => some k
    | some j => some (if (s.ln j).weight s.now < (s.ln k).weight s.now then j else k)

/-- The lane R247 chooses for a packet of a pair. -/
def State.laneFor (s : State) (src dest : Nat) (p : Packet) : Option Nat :=
  s.lightest ((pairLanes src dest).filter fun k => s.laneUsable k && (s.ln k).takes s.now p)

/-- A lane wakes from standby: packet flits from 50 ns later (R251). -/
def State.wakeLane (s : State) (key : Nat) : State :=
  if (s.ln key).standby then
    (s.modLane key fun l => { l with standby := false, wakeAt := s.now + 50 }).endEvent (laneSrc key) 15 1
  else s

/-- Flits queued on the lanes of a pair (R246, R508). -/
def State.pairDepth (s : State) (src dest : Nat) : Nat := ((pairLanes src dest).map fun k => (s.ln k).unsent s.now).sum

/-- MAX_FLITS follows the queue depth (R508). -/
def State.noteDepth (s : State) (src dest : Nat) : State :=
  if dest < 24 then
    let off := endBlock src + 0x4C00 + 8 * dest
    if s.field off 31 16 < s.pairDepth src dest then s.setField off 31 16 (s.pairDepth src dest) else s
  else s

/-- Put a packet on a lane. -/
def State.putOnLane (s : State) (key : Nat) (t : Transit) : State :=
  ((s.modLane key fun l => { l with txq := l.txq ++ [t] }).wakeLane key).noteDepth (laneSrc key) t.dest

/-- Add the time a lane stood without a credit (R506, R507). -/
def State.endStall (s : State) (key t : Nat) : State :=
  match (s.ln key).stalledSince with
  | none => s
  | some t0 =>
    let s := if isExt key then s else s.countWrap (endBlock (laneSrc key) + 0x4D00 + 8 * laneDst key) 63 0 (t - t0)
    s.modLane key fun l => { l with stalledSince := none }

/-- Stalls that go on: the counter each belongs to, and the ns it has lasted (R506, R507). -/
def State.openStalls (s : State) : List (Nat × Nat) :=
  s.lanes.filterMap fun (e : Nat × LaneState) => match e.2.stalledSince with
    | none => none
    | some t => if isExt e.1 then none else some (endBlock (laneSrc e.1) + 0x4D00 + 8 * laneDst e.1, s.now - t)

/-- The packets of a lane's queue that have not begun are placed again: they go back to the front of staging with their SEQ
and TRY (R247). -/
def State.replace (s : State) (key : Nat) : State :=
  let q := (s.ln key).txq
  if q = [] then s
  else ((s.endStall key s.now).modLane key fun l => { l with txq := [] }).modEnd (laneSrc key) fun e => { e with staged := q ++ e.staged }

/-! Routes between modules (R164, R165, R295). -/

def State.route (s : State) (m : Nat) : Word := s.reg (0x12000 + 8 * m)

/-- Bytes queued on a fibre pair. -/
def State.fibreBytes (s : State) (pair : Nat) : Nat := 36 * s.pairDepth (16 + pair / 4) (24 + pair)

/-- May packets take a fibre pair: it is ACTIVE here and at its far end (R293, R295)? -/
def State.fibreOpen (s : State) (f : Nat) : Bool := decide (s.plane (16 + f) = .active) && decide (s.farState.get 0 f = 0)

/-- The ACTIVE fibre pair of a route with the fewest bytes queued, the lowest of equals (R164, R295). -/
def State.fibreFor (s : State) (m : Nat) : Option Nat :=
  let w := s.route m
  if bitOf w 63 then
    let cs := (List.range 24).filter fun f => bitOf w f && s.fibreOpen f
    cs.foldr (fun f best => match best with
      | none => some f
      | some g => some (if s.fibreBytes g < s.fibreBytes f then g else f)) none
  else none

/-- The module a packet travels to: a request to that of its address, a response to that of its requester (R167). -/
def Packet.toModule (p : Packet) : Nat := if p.isRequest then gaModule p.addr else p.srcModule

/-- The endpoint that performs a request: the memory port of its line in the hashed region (R162). -/
def homeOf (addr : Word) : Nat :=
  if gaEndpoint addr = 31 then hashPort (gaOffset addr % 2 ^ 48) else gaEndpoint addr

/-- The endpoint in this module a packet travels to. -/
def Packet.toEndpoint (p : Packet) : Nat := if p.isRequest then homeOf p.addr else p.srcCtx / 2048

/-- Where a packet goes next from endpoint `e`, with the fibre pair it takes (R164, R247). -/
def State.nextHop (s : State) (e : Nat) (p : Packet) : Nat × Option Nat :=
  if Packet.toModule p = s.moduleId then (Packet.toEndpoint p, none)
  else match s.fibreFor (Packet.toModule p) with
    | none => (48, none)
    | some f => if e = 16 + f / 4 then (24 + f, none) else (16 + f / 4, some f)

/-- Stage a packet for a given next hop. -/
def State.stage (s : State) (e : Nat) (p : Packet) (dest : Nat) (fibre : Option Nat) : State :=
  s.modEnd e fun d => { d with staged := d.staged ++ [⟨p, e, dest, fibre⟩] }

/-- Hand a packet over inside an endpoint: it does not enter the base (R185). -/
def State.handOver (s : State) (e : Nat) (p : Packet) : State :=
  s.modEnd e fun d => { d with landed := d.landed ++ [⟨p, e, e, none⟩] }

/-- An endpoint sends a packet: over its internal path, or into staging (R32, R185, R247). -/
def State.emit (s : State) (e : Nat) (p : Packet) : State :=
  let (dest, fibre) := s.nextHop e p
  if dest = e then s.handOver e p else s.stage e p dest fibre

/-! Windows and answers (R183, R184). -/

/-- The window of a requester at an endpoint. -/
def EndState.window? (d : EndState) (p : Packet) : Option Window :=
  d.windows.find? fun w => decide (w.srcModule = p.srcModule) && decide (w.srcCtx = p.srcCtx) && decide (w.srcInc = p.srcInc)

/-- What a window knows of a request. -/
def Window.seenOf (w : Window) (seq : Nat) : Option Seen := (w.seen.find? fun x => decide (x.1 = seq)).map (·.2)

/-- Note in the requester's window how a request ended. -/
def State.noteSeen (s : State) (e : Nat) (p : Packet) (v : Seen) : State :=
  s.modEnd e fun d => { d with windows := d.windows.map fun w =>
    if w.srcModule = p.srcModule ∧ w.srcCtx = p.srcCtx ∧ w.srcInc = p.srcInc then
      { w with seen := w.seen.map fun x => if x.1 = p.seq then (x.1, v) else x }
    else w }

/-- A request is done: its window keeps the outcome, and its response leaves (R168, R172, R183). -/
def State.finish (s : State) (e : Nat) (p : Packet) (v : Seen) (r : Packet) : State := (s.noteSeen e p v).emit e r

/-- A request is refused with a failing NACK (R175, R183). -/
def State.refuse (s : State) (e : Nat) (p : Packet) (cause : Nat) : State := s.finish e p (.refused cause) (p.nack cause)

/-! Landing tables and channel tables (R212, R215, R228). -/

/-- The idle landing table (R228). -/
def idleGrant (e slot src p : Nat) : Bool :=
  if src = e then false
  else if e = 22 ∨ e = 23 then
    if src = 22 ∨ src = 23 then decide (slot % 8 = p % 8) else decide (slot = (16 * src + p) % 64)
  else decide (src = 22) || decide (src = 23)

/-- Is lane (src, e, p) granted a landing slot by the table in force? -/
def State.granted (s : State) (e slot src p : Nat) : Bool :=
  match s.landing with
  | none => idleGrant e slot src p
  | some m => (m.byte (e * 3072 + slot * 48 + (16 * src + p) / 8)).getLsbD ((16 * src + p) % 8)

/-- The owner of a slot of a channel by the table in force. -/
def State.slotOwner (s : State) (c slot : Nat) : Nat :=
  match s.chanTable with
  | none => if slot = 63 then 0xFE else if slot % 2 = 0 then 0x16 else 0x17
  | some m => (m.byte (c * 64 + slot)).toNat

/-! Credits (R245, R291). -/

def LaneState.creditsOf (l : LaneState) (request : Bool) (size : Nat) : Nat :=
  size - (if request then (l.sentReq + 4096 - l.creditReq) % 4096 else (l.sentRsp + 4096 - l.creditRsp) % 4096)

/-- Credits the source of a lane holds for a packet's class. -/
def State.credits (s : State) (key : Nat) (p : Packet) : Nat :=
  (s.ln key).creditsOf p.isRequest (if isExt key then 1024 else 128)

/-! Failures of lanes and forced retirement (R253, R259, R294). -/

/-- Failed lanes of a plane (R267), or lanes of a fibre pair that either end has declared failed (R305). -/
def State.failedLanes (s : State) (i : Nat) : Nat :=
  if i < 16 then (s.lanes.filter fun p => decide (lanePlaneIx p.1 = i) && p.2.failed).length
  else ((List.range 32).filter fun j => (s.ln (extIn (i - 16) j)).failed || (s.ln (extLane (i - 16) j)).down).length

/-- The register of a plane or fibre pair that holds its state and CAUSE. -/
def planeReg (i : Nat) : Nat := if i < 16 then 0x14100 + 8 * i else 0x17100 + 8 * (i - 16)

/-- A command's named planes as it finishes: DONE, and no longer BUSY (R257, R258, R266, R302). -/
def State.epochEnds (s : State) (fibre : Bool) : State :=
  if fibre then { s with fepoch := none }.setField 0x17068 62 62 1 else { s with epoch := none }.setField 0x14020 62 62 1

/-- The epoch command that may name a plane or fibre pair. -/
def State.epochOf (s : State) (fibre : Bool) : Option EpochCmd := if fibre then s.fepoch else s.epoch
def State.setEpoch (s : State) (fibre : Bool) (c : EpochCmd) : State :=
  if fibre then { s with fepoch := some c } else { s with epoch := some c }

/-- The planes (or fibre pairs) a mask names, by index. -/
def namedBy (fibre : Bool) (names : Nat) : List Nat :=
  if fibre then ((List.range 24).filter fun i => names / 2 ^ i % 2 = 1).map (· + 16)
  else (List.range 16).filter fun i => names / 2 ^ i % 2 = 1

/-- A begun retirement ends once every named plane is RETIRED; one whose planes have all left by force ends too (R257, R259). -/
def State.epochCheck (s : State) (fibre : Bool) : State :=
  match s.epochOf fibre with
  | none => s
  | some c =>
    let left := (namedBy fibre c.names).filter fun i =>
      decide (s.plane i = .active) || decide (s.plane i = .closing) || decide (s.plane i = .opening)
    if left = [] && (decide (c.action = 1)) then s.epochEnds fibre
    else if left = [] then (if fibre then { s with fepoch := none } else { s with epoch := none })
    else s

/-- Flits on the lanes and in the FIFOs of a plane or fibre pair are lost; queued packets are placed again (R259). -/
def State.clearLanes (s : State) (i : Nat) : State :=
  let keys := (s.lanes.map (·.1)).filter fun k => decide (lanePlaneIx k = i)
  keys.foldl (fun s k => (s.replace k).modLane k fun l =>
    { l with fifoReq := [], fifoRsp := [], resync := none, halted := false, busyUntil := min l.busyUntil (100 * s.now) }) s

/-- Retire a plane or fibre pair at once, with CAUSE (R259, R294). A pending retirement of it counts as complete; a pending
readmission ends with ABORTED. -/
def State.forceRetire (s : State) (i cause : Nat) : State :=
  if s.plane i = .retired then s
  else
    let fibre := decide (16 ≤ i)
    let readmitting := match s.epochOf fibre with
      | some c => decide (c.action = 2) && decide (c.names / 2 ^ (if fibre then i - 16 else i) % 2 = 1)
      | none => false
    let s := (s.clearLanes i).setPlane i .retired
    let s := s.setField (planeReg i) (if fibre then 63 else 55) (if fibre then 56 else 48) cause
    let s := { s with selfOk := Tab.drop (fun k => decide (k % 16 = i)) s.selfOk }
    let s := if readmitting then s.setField (if fibre then 0x17068 else 0x14020) 60 60 1 else s
    s.epochCheck fibre

/-- More than 32 failed lanes retire a plane, more than 8 a fibre pair (R259, R294). -/
def State.checkFailed (s : State) (i : Nat) : State := if (if i < 16 then 32 else 8) < s.failedLanes i then s.forceRetire i 0x04 else s

/-- A receiver declares its lane failed: DOWN in its link flits from now on, its FIFOs dropped (R253, R259, R294). -/
def State.failLane (s : State) (key : Nat) : State :=
  (s.modLane key fun l => { l with failed := true, fifoReq := [], fifoRsp := [], resync := none }).checkFailed (lanePlaneIx key)

/-- The source of a lane learns that it is DOWN: the lane leaves the usable set, and its queued packets are placed again (R253). -/
def State.dropLane (s : State) (out : Nat) : State :=
  if (s.ln out).down then s else ((s.modLane out fun l => { l with down := true }).replace out).checkFailed (lanePlaneIx out)

/-! Credit initialisation (R254). -/

/-- The counts of a side start anew: its outgoing lane's sent and freed counts, unsent flits placed again, and the flits of
the incoming lane's FIFOs dropped with their freed totals. -/
def State.initSide (s : State) (out : Nat) (st : InitState) : State :=
  let s := (s.replace out).modLane out fun l => { l with
    sentReq := 0, sentRsp := 0, creditReq := 0, creditRsp := 0, halted := false, init := st, initStart := s.now
    busyUntil := min l.busyUntil (100 * s.now) }
  s.modLane (peerLane out) fun l => { l with fifoReq := [], fifoRsp := [], freedReq := 0, freedRsp := 0 }

/-- A side sets INIT in its link flits (R254). -/
def State.askInit (s : State) (out : Nat) : State := s.modLane out fun l => { l with init := .asked, initStart := s.now }

/-- Has a pair a usable lane on any plane (R253)? -/
def State.pairUsable (s : State) (src dst : Nat) : Bool := (pairLanes src dst).any fun k =>
  decide (s.plane (lanePlaneIx k) = .active) && !(s.ln k).failed && !(s.ln k).down && !(s.ln k).halted && decide ((s.ln k).init = .idle)

/-- The lanes of a pair rejoin the usable set once a lane the other way is usable again and has completed its initialisation (R253). -/
def State.rejoin (s : State) (src dst : Nat) : State :=
  if s.unreach.get false (24 * src + dst) && s.pairUsable dst src then { s with unreach := s.unreach.set false (24 * src + dst) false } else s

/-- A side has finished a handshake (R253, R254). -/
def State.initOver (s : State) (out : Nat) : State :=
  let s := s.modLane out fun l => { l with init := .idle }
  if isExt out then s else (s.rejoin (laneSrc out) (laneDst out)).rejoin (laneDst out) (laneSrc out)

/-- INIT p as a side's link flit shows it decides what the other side does (R252, R254). -/
def State.seeInit (s : State) (out : Nat) (set : Bool) : State :=
  match (s.ln out).init, set with
  | .idle, true => s.initSide out .echoed
  | .asked, true => s.initSide out .done
  | .echoed, false => s.initOver out
  | .done, false => s.initOver out
  | _, _ => s

end Sys2Proof.Machine
end

