-- ==== Sys2Proof/Machine/Base.lean ====
section
/-!
DEFINITION. The photonic base (07_photonic_base.md): placement, sending, landing, link flits, standby, resynchronisation, lane
failure, planes and their epochs, self-test.
-/
namespace Sys2Proof.Machine
open Sys2Proof

/-! Leaving an endpoint (R245 to R247). -/

/-- The packet of a staging queue that is placed next: the oldest, or where no lane takes it the oldest without data flits
that some lane takes (R247). -/
def State.placeable (s : State) (e : Nat) (q : List Transit) : Option (Transit × Nat) :=
  let try' := fun (t : Transit) => (s.laneFor e t.dest t.pkt).map fun k => (t, k)
  match q with
  | [] => none
  | t :: ts => match try' t with
    | some r => some r
    | none => ts.findSome? fun u => if u.pkt.data = [] then try' u else none

/-- Latency of a lane without the flight of a fibre, in 1/100 ns, from the first bit of a flit at the modulator until the whole flit stands at
the receiver (R241, R289). -/
def laneLatency (key : Nat) : Nat := if isExt key then 5600 else 3000

/-- Credits have come to a lane: a stall of the packet at its head is over (R506). -/
def State.creditsCome (s : State) (key : Nat) : State :=
  match (s.ln key).txq with
  | tr :: _ => if s.credits key tr.pkt = 0 then s else s.endStall key s.now
  | [] => s

/-- Count the flits of a packet that a lane sends (R506). -/
def State.countSent (s : State) (key n : Nat) : State :=
  if isExt key then s.countWrap (endBlock (laneSrc key) + 0x4F00 + 16 * (extPair key % 4)) 63 0 (36 * n)
  else
    (s.countWrap (endBlock (laneSrc key) + 0x4000 + 8 * (16 * laneDst key + lanePlane key)) 63 0 (36 * n)).countWrap
      (endBlock (laneSrc key) + 0x4F80) 63 0 (36 * n)

/-- A packet whose first bit enters the modulator at `t`, in 1/100 ns, is to stand in the receiver's ingress FIFO of its class, flit by flit
(R241). A receiver that resynchronises, has declared the lane failed or is in reset loses it. An external lane carries it out of the
module. -/
def State.intoFifo (s : State) (key t : Nat) (tr : Transit) : State :=
  let l := s.ln key
  if isExt key || l.failed || l.resync.isSome || (s.endp (laneDst key)).inReset then s
  else
    let f : FifoPkt := ⟨{ tr with by' := laneSrc key }, t + laneLatency key, 0⟩
    if tr.pkt.isRequest then s.modLane key fun l => { l with fifoReq := l.fifoReq ++ [f] }
    else s.modLane key fun l => { l with fifoRsp := l.fifoRsp ++ [f] }

/-- When a lane can begin the next packet, in 1/100 ns: the flits before it have left, and a wake is over (R240, R251). -/
def State.beginAt (s : State) (key : Nat) : Nat := max (100 * s.now) (max (s.ln key).busyUntil (100 * (s.ln key).wakeAt))

/-- An awake lane begins the packet at the head of its queue once it holds credits for every flit of it (R240, R245). -/
def execLaneBeginPacket (l : LaneId) (s : State) : Host.Outcome State Fault Refusal :=
  let key := l.key
  let ln := s.ln key
  match ln.txq with
  | [] => .next s
  | tr :: rest =>
    if !s.laneUsable key || ln.standby then .next s
    else if s.credits key tr.pkt < tr.pkt.flits then
      if s.credits key tr.pkt = 0 ∧ ln.stalledSince = none then
        .next (s.modLane key fun l => { l with stalledSince := some s.now })
      else .next s
    else
      let t := s.beginAt key
      let n := tr.pkt.flits
      let s := (s.reach (t / 100)).endStall key (t / 100)
      let s := s.modLane key fun l =>
        { l with
          txq := rest, busyUntil := t + flitTime n, lastUse := t + flitTime n
          sentReq := if tr.pkt.isRequest then (l.sentReq + n) % 4096 else l.sentReq
          sentRsp := if tr.pkt.isRequest then l.sentRsp else (l.sentRsp + n) % 4096 }
      .next ((s.countSent key n).intoFifo key t tr)

/-! Landing (R248, R249). -/

/-- The memory port's channel, and the owner among those of R215, of a request that came from endpoint `by'`. -/
def ownerOf (p : Packet) (by' : Nat) : Nat :=
  if by' < 8 then
    if p.op ≠ 3 ∧ gaOffset p.addr < 2 ^ 48 then by' else 0x20 + by'
  else by'

/-- The requests of a channel's owner queue (R319). -/
def State.ownerQueue (s : State) (c owner : Nat) : List ChanReq := (s.chan c).queues.get [] owner

/-- Units a request brings down to a scratchpad. -/
def Packet.units (p : Packet) : Nat := if p.op = 4 then p.nflit else if p.op = 2 ∨ p.op = 3 then 1 else 0

/-- Units of 32 bytes a request reads or writes. -/
def Packet.parts (p : Packet) : Nat := if p.op = 4 then p.nflit else if p.op = 5 then p.sub % 32 + 1 else 1

/-- Requests that have landed at an endpoint, or whose drain has begun: what their units have set aside room for (R249). -/
def State.coming (s : State) (e : Nat) : List Transit :=
  (s.endp e).landed ++ s.lanes.filterMap fun (p : Nat × LaneState) =>
    if isExt p.1 || decide (laneDst p.1 ≠ e) then none
    else match p.2.fifoReq with
      | f :: _ => if 0 < f.drained then some f.tr else none
      | [] => none

/-- Has a path that goes on from an endpoint room for a packet: does a usable lane take it behind what is to go there (R246, R249)? -/
def State.pathRoom (s : State) (e d : Nat) (p : Packet) (coming : List Transit) : Bool :=
  let ahead := 36 * flitsOf (coming ++ (s.endp e).staged.filter fun t => decide (t.dest = d))
  (pairLanes e d).any fun k => s.laneUsable k && (s.ln k).takes s.now p && decide ((s.ln k).queued s.now + ahead + 36 * p.nflit ≤ 8192)

/-- Does an X-chiplet gather a packet that leaves into a frame, so that a gateway takes it (R195)? -/
def State.framed (s : State) (p : Packet) : Bool :=
  if p.isRequest then bitOf (s.route (Packet.toModule p)) 62 && (decide (p.op = 2) || decide (p.op = 3) || decide (p.op = 4)) else p.gw

/-- Has the unit that takes a request room for all of it, and is it out of reset (R249, R319, R463)? A frame takes any packet, and a control
SRAM performs a request at once. -/
def State.room (s : State) (e : Nat) (t : Transit) : Bool :=
  let p := t.pkt
  let here := s.coming e
  if (s.endp e).inReset then false
  else if e < 8 then
    match s.rangeOf (gaEndpoint p.addr) (gaOffset p.addr) with
    | some (.spad _ k _, _) =>
      let c := s.coreAt (e * 256 + k)
      let units := (here.map fun u => if gaEndpoint u.pkt.addr = e ∧ gaOffset u.pkt.addr / 2 ^ 20 = 4096 + k then Packet.units u.pkt else 0).sum
      !c.inReset && decide (c.inbound.length + ((s.vault e).down.get [] k).length + units + Packet.units p ≤ 64)
    | some (.vault _ _, _) =>
      let held := ((s.vault e).sideReqs.map fun (q : Nat × List VaultReq) => q.2.length).sum
      let units := (here.map fun u => Packet.parts u.pkt).sum
      decide (held + units + Packet.parts p ≤ 32 + Config.vaultRoom)
    | _ => true
  else if e < 16 then
    let c := hashChannel (gaOffset p.addr % 2 ^ 48)
    let own := ownerOf p t.by'
    let mine := here.filter fun u => decide (hashChannel (gaOffset u.pkt.addr % 2 ^ 48) = c) && decide (ownerOf u.pkt u.by' = own)
    decide ((s.ownerQueue c own).length + mine.length < 8)
  else if e < 22 then
    let d := (s.nextHop e p).1
    decide (d = 48) || decide (d = e) || s.framed p || s.pathRoom e d p here
  else true

/-- Drain one flit of the class `request` of a lane, from time `t` on, in 1/100 ns (R248): the freed count rises, and with its last flit a
packet has landed. -/
def State.drainFlit (s : State) (e key t : Nat) (request : Bool) : State :=
  let q := if request then (s.ln key).fifoReq else (s.ln key).fifoRsp
  match q with
  | [] => s
  | f :: rest =>
    let whole := decide (f.drained + 1 = f.tr.pkt.flits)
    let q' := if whole then rest else { f with drained := f.drained + 1 } :: rest
    let s := s.modLane key fun l =>
      if request then { l with fifoReq := q', freedReq := (l.freedReq + 1) % 4096, drainEnd := t + 288 }
      else { l with fifoRsp := q', freedRsp := (l.freedRsp + 1) % 4096, drainEnd := t + 288 }
    let s := s.countWrap (endBlock e + 0x4F88) 63 0 36
    if whole then s.modEnd e fun d => { d with landed := d.landed ++ [f.tr] } else s

/-- When the next flit of a FIFO stands there, in 1/100 ns (R241). -/
def nextFlit (q : List FifoPkt) : Option Nat :=
  match q with
  | f :: _ => some (f.ready + 288 * f.drained)
  | [] => none

/-- The class the port drains next on a lane at a time: the one whose packet has begun, else the response class, else a request there is room
for (R248, R249). -/
def State.drainClass (s : State) (e key t : Nat) : Option Bool :=
  let l := s.ln key
  let begun := fun (q : List FifoPkt) => match q with
    | f :: _ => decide (0 < f.drained)
    | [] => false
  let there := fun (q : List FifoPkt) => match nextFlit q with
    | some r => decide (r ≤ t)
    | none => false
  if begun l.fifoReq then (if there l.fifoReq then some true else none)
  else if begun l.fifoRsp then (if there l.fifoRsp then some false else none)
  else if there l.fifoRsp then some false
  else if there l.fifoReq && (match l.fifoReq with
    | f :: _ => s.room e f.tr
    | [] => false) then some true
  else none

/-- The times from `t` on at which a lane could begin to drain a flit: now, or as a flit that is on its way stands there. -/
def State.drainTimes (s : State) (key t : Nat) : List Nat :=
  let late := fun (q : List FifoPkt) => match nextFlit q with
    | some r => if t < r then [r] else []
    | none => []
  let a := late (s.ln key).fifoReq
  let b := late (s.ln key).fifoRsp
  t :: (if a.headD 0 ≤ b.headD 0 then a ++ b else b ++ a)

/-- What a lane drains in a slot that ends at `stop`, in 1/100 ns: each flit takes 2.88 ns and begins within the slot, as the one before it ends
or as it comes (R248). At most seven begin in a slot. -/
def State.drainLane (s : State) (e key t stop : Nat) : Nat → State
  | 0 => s
  | n + 1 =>
    let at' := max t (s.ln key).drainEnd
    match (s.drainTimes key at').find? fun u => decide (u < stop) && (s.drainClass e key u).isSome with
    | none => s
    | some u => match s.drainClass e key u with
      | none => s
      | some r => (s.drainFlit e key u r).drainLane e key u stop n

/-- Landing slot `n`, from Constantan 16n on: every granted lane drains its flits, one after another (R212, R248). -/
def execLandingSlot (e : Endpoint) (n : Nat) (s : State) : Host.Outcome State Fault Refusal :=
  if n < (s.endp e.val).slotDone ∨ (s.endp e.val).inReset then .next s
  else
    let s := (s.reach (16 * n)).modEnd e.val fun d => { d with slotDone := n + 1 }
    let keys := (s.lanes.map (·.1)).filter fun k => !isExt k && decide (laneDst k = e.val)
    .next (keys.foldl (fun s k =>
      if s.granted e.val (n % 64) (laneSrc k) (lanePlane k) then s.drainLane e.val k (1600 * n) (1600 * (n + 1)) 7 else s) s)

/-! Link flits (R244, R245, R291). -/

/-- The 16 planes' bits of a property of the lanes that run towards `src` from `dst`. -/
def State.linkBits (s : State) (src dst : Nat) (f : Nat → LaneState → Bool) : BitVec 16 :=
  BitVec.ofNat 16 (((List.range 16).map fun p => if f p (s.ln (baseLane dst src p)) then 2 ^ p else 0).sum)

/-- A side shows INIT while it asks or echoes (R254). -/
def InitState.shown (i : InitState) : Bool := decide (i = .asked) || decide (i = .echoed)

/-- The link flit an endpoint would send to another for one half of the planes. -/
def State.linkFlit (s : State) (src dst : Endpoint) (half : Fin 2) : LinkFlit :=
  { src := src, dst := dst, half := half
    down := s.linkBits src dst fun _ l => l.failed
    resync := s.linkBits src dst fun _ l => l.resync.isSome
    init := s.linkBits src dst fun p _ => (s.ln (baseLane src dst p)).init.shown
    reqFreed := (List.range 8).map fun j => (s.ln (baseLane dst src (8 * half.val + j))).freedReq
    rspFreed := (List.range 8).map fun j => (s.ln (baseLane dst src (8 * half.val + j))).freedRsp }

/-- The code of a fibre pair's state in PAIR_STATE (R291). -/
def pairCode (p : PlaneState) : Fin 4 :=
  match p with
  | .active => 0
  | .closing => 1
  | .retired => 2
  | .locked => 2
  | .opening => 3

/-- The link flit an X-chiplet would send for one quarter of a fibre pair's lanes (R291, R293). -/
def State.extFlit (s : State) (pair : Fin 24) (q : Fin 4) : ExtLinkFlit :=
  let bits := fun (f : Nat → Bool) => BitVec.ofNat 8 (((List.range 8).map fun j => if f (8 * q.val + j) then 2 ^ j else 0).sum)
  let come := fun (j : Nat) => s.ln (extIn pair.val j)
  { pair := pair, quarter := q
    down := bits fun j => (come j).failed
    resync := bits fun j => (come j).resync.isSome
    init := bits fun j => (s.ln (extLane pair.val j)).init.shown
    pairState := pairCode (s.plane (16 + pair.val))
    srcModule := s.moduleId
    reqFreed := (List.range 8).map fun j => (come (8 * q.val + j)).freedReq
    rspFreed := (List.range 8).map fun j => (come (8 * q.val + j)).freedRsp }

/-- The lane of some that a due link flit goes out on: the lowest awake usable one of the part it speaks for, else the lowest usable one of
that part, else of all (R245). -/
def State.linkLane (s : State) (lanes : List Nat) (part : Nat → Bool) : Option Nat :=
  let all := lanes.filter s.laneUsable
  let mine := all.filter part
  match mine.find? fun k => !(s.ln k).standby with
  | some k => some k
  | none => match mine with
    | k :: _ => some k
    | [] => all.head?

/-- Does a lane carry link flits now: it is lit and awake, and has no packet flit ready (R245)? A lane in its handshake carries nothing
else (R252). -/
def State.idleLane (s : State) (key : Nat) : Bool :=
  let l := s.ln key
  let i := lanePlaneIx key
  (if isExt key then s.lit i else decide (s.plane i = .active) || decide (s.plane i = .closing) || decide (s.plane i = .opening)) &&
  !l.standby && !l.down && decide (l.busyUntil ≤ 100 * s.now) && (match l.txq with
    | [] => true
    | t :: _ => !s.laneUsable key || decide (s.credits key t.pkt < t.pkt.flits))

/-- The lane and the time, in 1/100 ns, at which the next link flit of a part goes out: a due one, which says something new, 64 flit positions
after the last one of its part at the next packet boundary, or at once where DOWN or RESYNC has changed (R245, R252, R253); any other in a
position of an awake lane that is free. The last value says whether it was due. -/
def State.linkTime (s : State) (lanes : List Nat) (part : Nat → Bool) (fresh urgent : Bool) (last : Nat) : Option (Nat × Nat × Bool) :=
  match if fresh then s.linkLane lanes part else none with
  | some k => some (k, max (100 * s.now) (max (if urgent then 0 else last + flitTime 64) (s.ln k).busyUntil), true)
  | none => (lanes.find? s.idleLane).map fun k => (k, 100 * s.now, false)

/-- A link flit takes one flit position of a lane; a due one wakes it and ends its idle time (R245, R251). -/
def State.linkOut (s : State) (key t : Nat) (due : Bool) : State :=
  let s := (if due then s.wakeLane key else s).reach (t / 100)
  s.modLane key fun l => { l with busyUntil := t + flitTime 1, lastUse := if due then t + flitTime 1 else l.lastUse }

/-- The next link flit of a half of an ordered pair goes out (R245). -/
def State.baseFlitOut (s : State) (src dst : Endpoint) (half : Fin 2) : State :=
  let ix := (src.val * 24 + dst.val) * 2 + half.val
  let f := s.linkFlit src dst half
  let side := s.sentLinks.get LinkSide.none ix
  let urgent := match side.sent with
    | none => true
    | some g => decide (g.down ≠ f.down) || decide (g.resync ≠ f.resync)
  if src = dst then s
  else match s.linkTime (pairLanes src.val dst.val) (fun k => decide (lanePlane k / 8 = half.val)) (decide (side.sent ≠ some f)) urgent side.at' with
    | none => s
    | some (k, t, due) => { s.linkOut k t due with
        sentLinks := s.sentLinks.set LinkSide.none ix { sent := some f, at' := t, way := side.way ++ [⟨f, k, t + laneLatency k⟩] } }

/-- The next link flit of a quarter of a fibre pair goes out (R291). -/
def State.fibreFlitOut (s : State) (pair : Fin 24) (q : Fin 4) : State :=
  let ix := pair.val * 4 + q.val
  let f := s.extFlit pair q
  let side := s.extLinks.get ExtSide.none ix
  let urgent := match side.sent with
    | none => true
    | some g => decide (g.down ≠ f.down) || decide (g.resync ≠ f.resync)
  match s.linkTime (pairLanes 0 (24 + pair.val)) (fun k => decide (extNo k / 8 = q.val)) (decide (side.sent ≠ some f)) urgent side.at' with
    | none => s
    | some (k, t, due) => { s.linkOut k t due with extLinks := s.extLinks.set ExtSide.none ix { sent := some f, at' := t } }

/-- The next link flit of `src` goes out: a half of the planes to an endpoint (R245), or a quarter of one of its fibre pairs (R291). -/
def execLinkFlitDue (src : Endpoint) (dst : LinkTo) (half : Fin 4) (s : State) : Host.Outcome State Fault Refusal :=
  match dst with
  | .base dst => if h : half.val < 2 then .next (s.baseFlitOut src dst ⟨half.val, h⟩) else .next s
  | .fibre pair => if src.val = 16 + pair.val / 4 then .next (s.fibreFlitOut pair half) else .next s

/-- The source of a lane decodes RESYNC: it stops at once, leaving a packet cut short, and its queued packets are placed again (R252). -/
def State.haltLane (s : State) (out : Nat) : State :=
  if (s.ln out).halted then s
  else (s.modLane out fun l => { l with halted := true, busyUntil := min l.busyUntil (100 * s.now) }).replace out

/-- One plane of a received link flit: credits, DOWN, RESYNC and INIT of the lane from its receiver back to its sender. -/
def State.linkPlane (s : State) (f : LinkFlit) (p : Nat) : State :=
  let out := baseLane f.dst.val f.src.val p
  let s := if p / 8 = f.half.val then
      (s.modLane out fun l => { l with creditReq := f.reqFreed.getD (p % 8) 0 % 4096, creditRsp := f.rspFreed.getD (p % 8) 0 % 4096 }).creditsCome out
    else s
  let s := if f.down.getLsbD p then s.dropLane out else s
  let s := if f.resync.getLsbD p then s.haltLane out else s
  s.seeInit out (f.init.getLsbD p)

/-- A base link flit that has been sent comes to its receiver, whose lane layer consumes it (R244, R252 to R254). One of its half that was sent
before it and has not come is lost. -/
def execLinkFlitReceived (f : LinkFlit) (s : State) : Host.Outcome State Fault Refusal :=
  let ix := (f.src.val * 24 + f.dst.val) * 2 + f.half.val
  let side := s.sentLinks.get LinkSide.none ix
  match side.way.find? fun w => decide (w.flit = f) with
  | none => .next s
  | some w =>
    let left := (side.way.dropWhile fun x => decide (x ≠ w)).drop 1
    let s := { s.reach (w.at' / 100) with sentLinks := s.sentLinks.set LinkSide.none ix { side with way := left } }
    if (s.ln w.lane).failed || (s.ln w.lane).resync.isSome || (s.endp f.dst.val).inReset then .next s
    else .next ((List.range 16).foldl (fun s p => s.linkPlane f p) s)

/-- One lane of a received external link flit. -/
def State.extLane' (s : State) (f : ExtLinkFlit) (j : Nat) : State :=
  let out := extLane f.pair.val (8 * f.quarter.val + j)
  let s := (s.modLane out fun l => { l with creditReq := f.reqFreed.getD j 0 % 4096, creditRsp := f.rspFreed.getD j 0 % 4096 }).creditsCome out
  let s := if f.down.getLsbD j then s.dropLane out else s.modLane out fun l => { l with down := false }
  let s := if f.resync.getLsbD j then s.haltLane out else s
  s.seeInit out (f.init.getLsbD j)

/-- The length of a fibre path in metres, from a credit loop of `trip` ns (R292, R305). -/
def pathMetres (trip : Nat) : Nat := min 0x1FFF ((100 * trip - 39248) / 1000)

/-- An external link flit: credits and lane states of a quarter, the far end's pair state and module, and the loop measured with it (R291 to
R293, R305). On a pair the far end is closing, queued packets are placed again. -/
def execExtLinkFlitReceived (f : ExtArrival) (s : State) : Host.Outcome State Fault Refusal :=
  let trip := f.trip
  let f := f.flit
  let s := (List.range 8).foldl (fun s j => s.extLane' f j) s
  let s := { s with
    farState := s.farState.set 0 f.pair.val f.pairState.val, farModule := s.farModule.set none f.pair.val (some (f.srcModule % 1024))
    lastLink := s.lastLink.set 0 f.pair.val s.now
    pathM := match trip with
      | some n => s.pathM.set 0 f.pair.val (pathMetres n)
      | none => s.pathM }
  if f.pairState.val = 0 then .next s
  else .next ((pairLanes 0 (24 + f.pair.val)).foldl State.replace s)

/-! Standby (R251, R263). -/

/-- PBL_CTRL.STANDBY_DELAY in ns (R263). -/
def State.standbyDelay (s : State) : Nat :=
  let d := s.field 0x14000 25 16
  1000 * (if d = 0 then 1 else d)

/-- A lane that has carried nothing for STANDBY_DELAY goes into standby (R251). -/
def execLaneStandbyEnter (l : LaneId) (s : State) : Host.Outcome State Fault Refusal :=
  let ln := s.ln l.key
  if bitOf (s.reg 0x14000) 0 ∧ ln.txq = [] ∧ !ln.standby ∧ s.laneUsable l.key then
    .next ((s.reach ((max ln.lastUse ln.busyUntil + 99) / 100 + s.standbyDelay)).modLane l.key fun x => { x with standby := true })
  else .next s

/-- Is a lane the one a link flit that says something new goes out on (R245)? -/
def State.linkDue (s : State) (l : LaneId) : Bool :=
  match l with
  | .base a b _ => [(0 : Fin 2), 1].any fun h =>
      decide ((s.sentLinks.get LinkSide.none ((a.val * 24 + b.val) * 2 + h.val)).sent ≠ some (s.linkFlit a b h)) &&
      decide (s.linkLane (pairLanes a.val b.val) (fun k => decide (lanePlane k / 8 = h.val)) = some l.key)
  | .ext f _ => [(0 : Fin 4), 1, 2, 3].any fun q =>
      decide ((s.extLinks.get ExtSide.none (f.val * 4 + q.val)).sent ≠ some (s.extFlit f q)) &&
      decide (s.linkLane (pairLanes 0 (24 + f.val)) (fun k => decide (extNo k / 8 = q.val)) = some l.key)

/-- A lane in standby wakes for a packet or a due link flit placed on it; on a lane that has left the usable set the wake stops (R251). -/
def execLaneWake (l : LaneId) (s : State) : Host.Outcome State Fault Refusal :=
  if s.laneUsable l.key ∧ ((s.ln l.key).txq ≠ [] ∨ s.linkDue l) then .next (s.wakeLane l.key) else .next s

/-! Resynchronisation and failure (R252, R253). -/

/-- A codeword of the lane could not be corrected: both FIFOs are dropped and RESYNC set; the third start within 1 ms fails the
lane (R252, R253). -/
def execLaneResyncStart (l : LaneId) (s : State) : Host.Outcome State Fault Refusal :=
  let key := rxLane l.key
  let ln := s.ln key
  if ln.failed ∨ ln.resync.isSome then .next s
  else
    let times := (ln.resyncTimes.filter fun t => decide (s.now < t + 1000000)) ++ [s.now]
    let s := (s.modLane key fun x =>
      { x with
        fifoReq := [], fifoRsp := [], resyncTimes := times
        resync := some (s.now + if isExt key then 25000 else 1000) }).endEvent (laneDst key) 6 1
    if 3 ≤ times.length then .next (s.failLane key) else .next s

/-- The first superframe start of a lane at or after a time in ns, in ns (R239, R252, R289, R291). -/
def superframeAt (key t : Nat) : Nat :=
  let len := if isExt key then 23040 else 4608
  let phase := Config.superframePhase key % len
  (100 * t + (len - (100 * t + len - phase) % len) % len + 99) / 100

/-- The receiver resumes reading the lane at the next superframe start, and sets INIT (R252, R291). -/
def execLaneResyncResume (l : LaneId) (s : State) : Host.Outcome State Fault Refusal :=
  let key := rxLane l.key
  match (s.ln key).resync with
  | none => .next s
  | some t => .next (((s.reach (superframeAt key t)).modLane key fun x => { x with resync := none }).askInit (peerLane key))

/-- An INIT handshake that has run for 10 µs fails the receive lane (R253). -/
def execLaneInitTimeout (l : LaneId) (s : State) : Host.Outcome State Fault Refusal :=
  let key := rxLane l.key
  let out := s.ln (peerLane key)
  if out.init = .idle ∨ out.init = .done then .next s
  else .next ((s.reach (out.initStart + 10000)).failLane key)

/-- Ring lock or clock recovery lost for more than 1 µs while the lane is not in standby (R253). -/
def execRingLockLost (l : LaneId) (s : State) : Host.Outcome State Fault Refusal :=
  if (s.ln l.key).standby then .next s
  else .next ((s.modRing (ringKey l false) fun r => { r with st := .lockLost }).failLane (rxLane l.key))

/-- The primary control chiplet carries to `src` that the pair back from `dst` has no usable lane: which of its lanes have failed, and that it
treats all of them as unusable (R253). -/
def execPairUnreachable (src dst : Endpoint) (s : State) : Host.Outcome State Fault Refusal :=
  if src = dst ∨ s.pairUsable dst.val src.val then .next s
  else
    let lanes := pairLanes src.val dst.val
    let s := (lanes.filter fun k => (s.ln k).failed).foldl State.dropLane s
    .next (lanes.foldl State.replace { s with unreach := s.unreach.set false (24 * src.val + dst.val) true })

/-! Planes at epochs (R256 to R258, R265, R266, R293, R301, R302). -/

/-- The reason an epoch command is refused, tested row by row (R256); 0x03 is of planes only (R293). -/
def State.epochReason (s : State) (fibre : Bool) (action names : Nat) : Option Nat :=
  let e := s.moment (s.reg (if fibre then 0x17058 else 0x14010)).toNat
  let named := namedBy fibre names
  let active := ((List.range 16).filter fun i => decide (s.plane i = .active)).length
  if names = 0 ∨ action = 0 ∨ action = 3 then some 0x06
  else if e % 1024 ≠ 0 then some 0x02
  else if e < s.now + 10000 then some 0x01
  else if action = 1 ∧ named.any (fun i => decide (s.plane i ≠ .active)) then some 0x05
  else if action = 2 ∧ named.any (fun i => decide (s.plane i ≠ .locked)) then some 0x04
  else if !fibre ∧ action = 1 ∧ active < 8 + named.length then some 0x03
  else none

/-- Is an endpoint in service? -/
def State.inService (s : State) (e : Nat) : Bool := !(s.endp e).inReset && !(s.endp e).disabled

/-- The lanes of a plane, or the outgoing lanes of a fibre pair. -/
def planeLanes (i : Nat) : List Nat :=
  if i < 16 then (List.range 24).flatMap fun a => ((List.range 24).filter (· ≠ a)).map fun b => baseLane a b i
  else (List.range 32).map (extLane (i - 16))

/-- Do both endpoints of a lane take part in its handshake? -/
def State.ends2 (s : State) (key : Nat) : Bool := isExt key || (s.inService (laneSrc key) && s.inService (laneDst key))

/-- A plane or fibre pair is OPENING: FAILED is cleared for every pair, and credit initialisation started on every lane between live endpoints
(R258). -/
def State.openPlane (s : State) (i : Nat) : State :=
  let fresh := fun (s : State) (k : Nat) =>
    let s := s.modLane k fun l => { l with
      failed := false, down := false, halted := false, initStart := s.now, init := if s.ends2 k then .asked else .idle }
    if isExt k then s.modLane (rxLane k) fun l => { l with failed := false } else s
  (planeLanes i).foldl fresh (s.setPlane i .opening)

/-- A write of PBL_EPOCH_CMD or OPT_FEPOCH_CMD (R256 to R258, R293). -/
def State.epochWrite (s : State) (fibre : Bool) (action names : Nat) : State :=
  let st := if fibre then 0x17068 else 0x14020
  if (s.epochOf fibre).isSome then s.setField st 59 59 1
  else
    let s' := s.setField st (if fibre then 23 else 47) (if fibre then 0 else 32) names
    let rhi := if fibre then 31 else 55
    let rlo := if fibre then 24 else 48
    match s.epochReason fibre action names with
    | some r => (s'.setField st 61 61 1).setField st rhi rlo r
    | none =>
      let s' := ((s'.setField st 62 60 0).setField st rhi rlo 0).setEpoch fibre
        ⟨s.moment (s.reg (if fibre then 0x17058 else 0x14010)).toNat, action, names, false⟩
      if action = 2 then (namedBy fibre names).foldl State.openPlane s' else s'

/-- PBL_EPOCH_CMD with ACTION 1 (R256, R257). -/
def execPblRetirePlanes (planes : BitVec 16) (s : State) : Host.Outcome State Fault Refusal :=
  .next (s.epochWrite false 1 planes.toNat)

/-- PBL_EPOCH_CMD with ACTION 2 (R256, R258). -/
def execPblReadmitPlanes (planes : BitVec 16) (s : State) : Host.Outcome State Fault Refusal :=
  .next (s.epochWrite false 2 planes.toNat)

/-- A plane or fibre pair closes: nothing more is placed on it, and packets not begun are placed again (R257). -/
def State.closePlane (s : State) (i : Nat) : State :=
  let keys := (s.lanes.map (·.1)).filter fun k => decide (lanePlaneIx k = i)
  keys.foldl State.replace (s.setPlane i .closing)

/-- The receive lanes of a plane or fibre pair whose initialisation has not finished, at receivers that can declare it (R253, R258). -/
def State.lateLanes (s : State) (i : Nat) : List Nat :=
  ((planeLanes i).map rxLane).filter fun k =>
    (isExt k || s.inService (laneDst k)) &&
    !(s.ends2 k && decide ((s.ln (peerLane k)).init = .idle) && (isExt k || decide ((s.ln k).init = .idle)))

/-- A plane or fibre pair becomes ACTIVE. Every lane whose initialisation has not finished is declared failed, and pairs that have a usable lane
again rejoin (R253, R258). -/
def State.admitPlane (s : State) (i : Nat) : State :=
  let late := s.lateLanes i
  let s := late.foldl (fun s k => (s.modLane (peerLane k) fun l => { l with init := .idle }).failLane k) (s.setPlane i .active)
  (s.unreach.map (·.1)).foldl (fun s k => s.rejoin (k / 24) (k % 24)) s

/-- The epoch of a command has come (R257, R258). -/
def State.epochComes (s : State) (fibre : Bool) : State :=
  match s.epochOf fibre with
  | none => s
  | some c =>
    if c.begun then s
    else
      let s := s.reach c.time
      if c.action = 1 then
        let s := s.setEpoch fibre { c with begun := true }
        (((namedBy fibre c.names).filter fun i => decide (s.plane i = .active)).foldl State.closePlane s).epochCheck fibre
      else
        let open' := (namedBy fibre c.names).filter fun i => decide (s.plane i = .opening)
        let s := (open'.foldl State.admitPlane s).epochEnds fibre
        { s with light := { s.light with
            calBusy := match s.light.calBusy with
              | some i => if open'.contains i then none else some i
              | none => none
            calLast := open'.foldl (fun c i => if s.light.calBusy = some i then c.set 0 i s.now else c) s.light.calLast
            proc := match s.light.proc with
              | some b => if s.light.procStep = 6 ∧ (pathOf b).all (fun i => decide (s.plane i = .active)) then none else some b
              | none => none } }

/-- The epoch of the pending PBL command (R257, R258). -/
def execPlaneEpoch (s : State) : Host.Outcome State Fault Refusal := .next (s.epochComes false)

/-- Is a lane empty: nothing waits, is being sent or stands in a FIFO, and of an outgoing external lane every flit sent has been freed at the
far end (R257, R293)? -/
def State.laneEmpty (s : State) (key : Nat) (l : LaneState) : Bool :=
  decide (l.txq = []) && decide (l.fifoReq = []) && decide (l.fifoRsp = []) && decide (l.busyUntil ≤ 100 * s.now) &&
  (!isExt key || l.down || l.failed || (decide (l.sentReq = l.creditReq) && decide (l.sentRsp = l.creditRsp)))

/-- Is every lane of a plane or fibre pair empty at both ends (R257)? -/
def State.planeEmpty (s : State) (i : Nat) : Bool :=
  s.lanes.all fun p => !decide (lanePlaneIx p.1 = i) || s.laneEmpty p.1 p.2

/-- A CLOSING plane or fibre pair whose lanes are empty becomes RETIRED, with CAUSE 0x01 (R257, R267, R293). -/
def State.retireEmpty (s : State) (i : Nat) : State :=
  if s.plane i = .closing && s.planeEmpty i then
    let fibre := decide (16 ≤ i)
    let s := (s.setPlane i .retired).setField (planeReg i) (if fibre then 63 else 55) (if fibre then 56 else 48) 0x01
    { s with selfOk := if fibre then s.selfOk else Tab.drop (fun k => decide (k % 16 = i)) s.selfOk }.epochCheck fibre
  else s

/-- A CLOSING plane becomes RETIRED (R257). -/
def execPlaneRetired (p : Fin 16) (s : State) : Host.Outcome State Fault Refusal := .next (s.retireEmpty p.val)

/-! Self-test on λ0 (R261). -/

/-- Count self-test errors of an endpoint on a plane. -/
def State.selfErrors (s : State) (e p n : Nat) : State :=
  { s with selfErr := s.selfErr.set 0 (e * 16 + p) (s.selfErr.get 0 (e * 16 + p) + n) }

/-- The first epoch a command written now may name: a multiple of 1,024 at least 10 µs ahead (R256). -/
def State.firstEpoch (s : State) : Nat := (s.now + 10000 + 1023) / 1024 * 1024

/-- The readmission that ends a recalibration of a plane or fibre pair is commanded once it is LOCKED and a command may be given (R285). -/
def State.readmitCal (s : State) (i : Nat) : State :=
  let fibre := decide (16 ≤ i)
  if s.light.calBusy = some i ∧ s.plane i = .locked ∧ (s.epochOf fibre).isNone then
    let s := s.setReg (if fibre then 0x17058 else 0x14010) (BitVec.ofNat 64 s.firstEpoch)
    s.epochWrite fibre 2 (2 ^ (if fibre then i - 16 else i))
  else s

/-- An endpoint's self-test on λ0 of a plane ends with a count of errors. A RETIRED plane that every live endpoint has passed
without an error, its rings locked, becomes LOCKED (R255, R261). -/
def execPlaneSelftest (e : Endpoint) (p : Fin 16) (errors : Nat) (s : State) : Host.Outcome State Fault Refusal :=
  let s := s.selfErrors e.val p.val errors
  if s.plane p.val = .retired then
    let s := { s with selfOk := s.selfOk.set false (e.val * 16 + p.val) (decide (errors = 0)) }
    let passed := (List.range 24).all fun e => s.selfOk.get false (e * 16 + p.val) || (s.endp e).inReset || (s.endp e).disabled
    if passed && s.lit p.val && s.ringsLocked p.val then .next ((s.setPlane p.val .locked).readmitCal p.val) else .next s
  else .next s

/-- A SELFTEST flit that comes back on λ0 is checked; one on any other wavelength is dropped and counted (R261, R509). -/
def execSelftestFlitReceived (e : Endpoint) (p : Fin 16) (line : Fin 26) (bad : Bool) (s : State) : Host.Outcome State Fault Refusal :=
  if line.val = 0 then .next (if bad then s.selfErrors e.val p.val 1 else s)
  else .next (s.endEvent e.val 8 1)

end Sys2Proof.Machine
end

