-- ==== Sys2Proof/Machine/LightOps.lean ====
section
/-!
DEFINITION. Light (R269 to R287, R293 to R305): cartridges, the spare matrix, rings, error rates, recalibration, fibre pairs.
-/
namespace Sys2Proof.Machine
open Sys2Proof

/-! Bays and cartridges (R272 to R274, R298). -/

/-- OPT_SPARE.IGNORED (R299). -/
def State.spareIgnored (s : State) : State := s.setField 0x17048 61 61 1

/-- A cartridge is inserted; the bay is DARK once the latch has closed (R273). -/
def execCartridgeInserted (n : Fin 7) (s : State) : Host.Outcome State Fault Refusal :=
  if (s.bay n.val).st = .empty then .next (s.modBay n.val fun b => { b with st := .dark, latched := true, followed := none, fresh := true })
  else .next s

/-- A cartridge is pulled, which its latch permits only when released (R272). -/
def execCartridgeRemoved (n : Fin 7) (s : State) : Host.Outcome State Fault Refusal :=
  if (s.bay n.val).latched then .next s else .next (s.modBay n.val fun _ => Bay.none)

/-- A latch releases only in EMPTY, DARK and FAILED; any other request is refused and counted (R272, R509). -/
def execCartridgeLatchRelease (n : Fin 7) (s : State) : Host.Outcome State Fault Refusal :=
  match (s.bay n.val).st with
  | .empty => .next (s.modBay n.val fun b => { b with latched := false })
  | .dark => .next (s.modBay n.val fun b => { b with latched := false })
  | .failed => .next (s.modBay n.val fun b => { b with latched := false })
  | _ => .next (s.endEvent 22 14 1)

/-- The comb offset a bay's lines are held at, in 10 MHz steps: OPT_CBn.OFFSET, and ±20 GHz beyond that (R269, R297). -/
def State.combOffset (s : State) (n : Nat) : Int :=
  max (-2000) (min 2000 (BitVec.ofNat 16 (s.field (0x17000 + 8 * n) 31 16)).toInt)

/-- The frequency of a line of a bay's cartridge, in 10 MHz steps: 235.4 THz less 0.2 THz a line, plus the comb offset (R269). -/
def State.lineFreq (s : State) (n line : Nat) : Int := 23540000 - 20000 * (line : Int) + s.combOffset n

/-- The pilot tone of a line, in kHz (R269, R270). -/
def pilotTone (line : Nat) : Nat := 10 + line

/-- What a cartridge that loses its light fed: the path is dark, and its planes and fibre pairs are retired at once (R283). -/
def State.lightsOut (s : State) (n : Nat) : State :=
  let fed := ((List.range 6).filter fun b => decide (s.feeder b = n) && (s.bay n).feeds).flatMap pathOf
  let s := s.darken fun i => fed.contains i
  fed.foldl (fun s i => s.forceRetire i 0x02) s

/-- A write of OPT_CB_CMD (R298). A MATCH takes the OFFSET the target's lines are held at (R297). -/
def State.cbCommand (s : State) (n action target : Nat) : State :=
  let b := s.bay n
  let live := fun (x : Bay) => decide (x.st = .ready) || decide (x.st = .serving)
  if 7 ≤ n then s.spareIgnored
  else if action = 1 then
    if b.st = .warming ∨ b.st = .ready ∨ b.st = .matching then
      (s.lightsOut n).modBay n fun b => { b with st := .dark, following := none, serves := false }
    else s.spareIgnored
  else if action = 2 then
    if b.st = .dark ∧ b.latched then s.modBay n fun b => { b with st := .warming } else s.spareIgnored
  else if action = 3 then
    if live b && decide (target < 7) && live (s.bay target) then
      (s.modBay n fun b => { b with st := .matching, following := some target, serves := decide (b.st = .serving) }).setField
        (0x17000 + 8 * n) 31 16 (signedBits (s.combOffset target) 16)
    else s.spareIgnored
  else s.spareIgnored

/-- OPT_CB_CMD DARK (R298). -/
def execOptCbDark (n : Fin 7) (s : State) : Host.Outcome State Fault Refusal := .next (s.cbCommand n.val 1 0)
/-- OPT_CB_CMD WARM (R298). -/
def execOptCbWarm (n : Fin 7) (s : State) : Host.Outcome State Fault Refusal := .next (s.cbCommand n.val 2 0)
/-- OPT_CB_CMD MATCH: the lines move onto those of another bay, whose OFFSET it takes (R297, R298). -/
def execOptCbMatch (n : Fin 7) (target : Fin 16) (s : State) : Host.Outcome State Fault Refusal := .next (s.cbCommand n.val 3 target.val)

/-- A WARMING cartridge has stable lines (R272). -/
def execCartridgeWarmDone (n : Fin 7) (s : State) : Host.Outcome State Fault Refusal :=
  if (s.bay n.val).st = .warming then .next (s.modBay n.val fun b => { b with st := .ready }) else .next s

/-- A MATCHING cartridge is on its target's lines: READY, or SERVING where it feeds a path (R272). -/
def execCartridgeMatchDone (n : Fin 7) (s : State) : Host.Outcome State Fault Refusal :=
  if (s.bay n.val).st = .matching then .next (s.modBay n.val fun b =>
    { b with st := if b.serves then .serving else .ready, followed := b.following, following := none, serves := false })
  else .next s

/-- A cartridge fails: its laser is off, and the planes and fibre pairs it fed are retired at once (R272, R283). A failure of CB6 stops the
spare procedure (R287). -/
def State.failCartridge (s : State) (n : Nat) : State :=
  if (s.bay n).st = .failed ∨ (s.bay n).st = .empty then s
  else
    let s := (s.lightsOut n).modBay n fun b => { b with st := .failed, following := none, serves := false }
    if n = 6 then { s with light := { s.light with proc := none, procStep := 0 } } else s

/-- The cartridge reports an internal fault (R272). -/
def execCartridgeInternalFault (n : Fin 7) (s : State) : Host.Outcome State Fault Refusal := .next (s.failCartridge n.val)

/-! The spare matrix (R275, R280, R299). -/

/-- Is every plane or fibre pair of a path RETIRED or LOCKED? -/
def State.pathClear (s : State) (bay : Nat) : Bool :=
  (pathOf bay).all fun i => decide (s.plane i = .retired) || decide (s.plane i = .locked)

/-- A switch of the spare matrix starts: the path carries no usable light until it completes (R275). -/
def State.startSwitch (s : State) (bay target : Nat) (into : Bool) : State :=
  let s := s.darken fun i => (pathOf bay).contains i
  ({ s with light := { s.light with switching := some (bay, into), relocked := false, lastSwitched := none } }.setField 0x17048 3 0 target).setField
    0x17048 62 62 0

/-- A write of OPT_SPARE.TARGET (R275). -/
def State.spareSwitch (s : State) (target : Nat) : State :=
  let replaced := s.field 0x17048 3 0
  if s.light.switching.isSome then s.spareIgnored
  else if target < 6 then
    if (s.bay 6).st = .ready ∧ (s.bay 6).followed = some target ∧ replaced = 15 ∧ s.pathClear target then s.startSwitch target target true
    else s.spareIgnored
  else if target = 15 then
    if replaced < 6 ∧ (s.bay replaced).st = .ready ∧ (s.bay replaced).followed = some 6 ∧ s.pathClear replaced then
      s.startSwitch replaced target false
    else s.spareIgnored
  else s.spareIgnored

/-- A write of OPT_SPARE.TARGET starts a switch, or is ignored (R275). -/
def execSpareSwitch (target : Fin 16) (s : State) : Host.Outcome State Fault Refusal := .next (s.spareSwitch target.val)

/-- A cartridge that no longer feeds a path goes DARK; one that has failed or has been pulled stays as it is (R272, R275). -/
def Bay.released (b : Bay) : Bay := if b.st = .empty ∨ b.st = .failed then b else { b with st := .dark }

/-- The switch completes: the cartridge that no longer feeds the path goes DARK, and every ring of the path starts in ACQUIRING from its present
drive (R275, R280). Where the cartridge that was to feed the path is READY no longer, the path stays with the one that fed it (R287). -/
def execSpareSwitchComplete (s : State) : Host.Outcome State Fault Refusal :=
  match s.light.switching with
  | none => .next s
  | some (bay, into) =>
    let done := decide ((s.bay (if into then 6 else bay)).st = .ready)
    let s := if !done then s
      else (s.modBay (if into then 6 else bay) fun b => { b with st := .serving }).modBay (if into then bay else 6) Bay.released
    let s := (s.setField 0x17048 3 0 (if into = done then bay else 15)).setField 0x17030 11 8 (if into = done then bay else 15)
    let s := { s with light := { s.light with
      switching := none, lit := s.light.lit.set none bay (some s.now), lastSwitched := some bay, acquiring := pathOf bay } }
    .next (s.setRings (fun i => (pathOf bay).contains i) (if (s.bay (s.feeder bay)).feeds then .acquiring else .off))

/-- A fibre pair that is RETIRED and lit, with every ring LOCKED, is LOCKED; one under recalibration waits for its sweep (R255, R293). -/
def State.lockPair (s : State) (i : Nat) : State :=
  if 16 ≤ i ∧ s.plane i = .retired ∧ s.lit i ∧ s.ringsLocked i ∧ s.light.calBusy ≠ some i then s.setPlane i .locked else s

/-- A ring that is ACQUIRING within 1 GHz of its line has relocked; any other keeps its state (R277, R280). -/
def Ring.relock (r : Ring) : Ring :=
  if r.st = .acquiring ∧ r.detune.natAbs ≤ 8 then { r with st := .locked, toneOk := true } else r

/-- The rings of the switched path have relocked (R275, R280, R299): every ring still ACQUIRING, but one that is off its line, is LOCKED. -/
def execSpareRelocked (s : State) : Host.Outcome State Fault Refusal :=
  if s.light.switching.isSome ∨ s.light.acquiring = [] then .next s
  else
    let path := s.light.acquiring
    let s := { s with light := { s.light with
      acquiring := [], relocked := true
      common := path.foldl (fun t i => if t.get .off i = .acquiring then t.set .off i .locked else t) s.light.common
      rings := s.light.rings.map fun (e : Nat × Ring) => if path.contains (lanePlaneIx (e.1 / 2)) then (e.1, e.2.relock) else e } }
    .next (path.foldl State.lockPair s)

/-! Commissioning values and line power (R274, R283). -/

/-- What MRAM holds of a commissioning value (R274). -/
def commissionCode (v : Option (Int × Nat)) : List Nat :=
  match v with
  | some (p, t) => [p.natAbs, if p < 0 then 1 else 0, t]
  | none => []

/-- 1 s after a path was lit a line's power becomes its commissioning value, kept in MRAM (R274). -/
def execCommissioningRecord (path : Fin 40) (line : Fin 32) (power : Int) (s : State) : Host.Outcome State Fault Refusal :=
  match s.light.lit.get none (bayOf path.val) with
  | none => .next s
  | some t =>
    let key := path.val * 32 + line.val
    let old := s.light.commission.get none key
    if (match old with
      | some (_, u) => decide (u = t)
      | none => false) then .next s
    else
      let s := (s.reach (t + 1000000000)).mramWrite (.commission key) (commissionCode old)
      .next { s with light := { s.light with
        commission := s.light.commission.set none key (some (power, t)), below := s.light.below.set 0 key 0 } }

/-- How far a line lies below its commissioning value; none while that is not recorded for the present light (R274). -/
def State.lineBelow (s : State) (path line : Nat) (power : Int) : Option Int :=
  match s.light.commission.get none (path * 32 + line) with
  | none => none
  | some (p, t) => if s.light.lit.get none (bayOf path) = some t ∨ s.light.lit.get none (bayOf path) = none then some (p - power) else none

/-- A cartridge becomes FADING (R283, R287, R297). -/
def State.fade (s : State) (n : Nat) : State :=
  let s := s.setField (0x17000 + 8 * n) 5 5 1
  if s.light.fading.contains n then s else { s with light := { s.light with fading := s.light.fading ++ [n] } }

/-- A line's average over 1 s; at 2 dB or more below its commissioning value its cartridge becomes FADING (R283). -/
def execLinePowerCheck (path : Fin 40) (line : Fin 32) (power : Int) (s : State) : Host.Outcome State Fault Refusal :=
  match s.lineBelow path.val line.val power with
  | none => .next s
  | some d =>
    let s := { s with light := { s.light with below := s.light.below.set 0 (path.val * 32 + line.val) (min 255 d.toNat) } }
    if 20 ≤ d then .next (s.fade (s.feeder (bayOf path.val))) else .next s

/-- A line's average over 10 µs; at 6 dB or more below its commissioning value its cartridge becomes FAILED (R283). The base
uses λ0 to λ25. -/
def execCartridgeLineFailure (path : Fin 40) (line : Fin 32) (power : Int) (s : State) : Host.Outcome State Fault Refusal :=
  match s.lineBelow path.val line.val power with
  | none => .next s
  | some d => if 60 ≤ d ∧ (16 ≤ path.val ∨ line.val ≤ 25) then .next (s.failCartridge (s.feeder (bayOf path.val))) else .next s

/-! Rings (R276 to R280). -/

/-- The modelled local temperature of a ring: its node's, or the nearest diode's in conservative mode (R276). -/
def FeedTemps.temp (f : FeedTemps) (key : Nat) : Int :=
  let node := f.nodes.get 320 (Config.ringNode key)
  if f.conservative then (f.diodes.get none (Config.ringDiode key)).getD node else node

/-- The temperatures the model has now. -/
def State.feedTemps (s : State) : FeedTemps :=
  let t := s.power.thermal
  { conservative := t.conservative, nodes := t.temps, diodes := t.diodes }

/-- The feed-forward code of a ring at a temperature in 1/16 °C: linear between the table points of 5 °C, the end points beyond
(R276). Halves round up. -/
def State.feedForward (s : State) (key : Nat) (t : Int) : Nat :=
  let pt := fun (i : Nat) => s.light.tuning.get 0 (key * 24 + i)
  if t ≤ 160 then pt 0
  else if 2000 ≤ t then pt 23
  else
    let x := (t - 160).toNat
    let i := x / 80
    let num : Int := (pt i : Int) * 80 + ((pt (i + 1) : Int) - pt i) * (x % 80 : Nat)
    ((2 * num + 80) / 160).toNat

/-- Every ring takes its feed-forward code from the temperatures of now (R276). -/
def State.setCodes (s : State) : State := { s with light := { s.light with feed := some s.feedTemps } }

/-- The feed-forward code of a ring: by the temperatures of the last evaluation; 0 until the tables are loaded (R276). -/
def State.ringCode (s : State) (key : Nat) : Nat :=
  match s.light.feed with
  | some f => s.feedForward key (f.temp key)
  | none => 0

/-- A heater code within its range. -/
def clampCode (i : Int) : Nat := (max 0 (min 65535 i)).toNat

/-- The heater drive: feed-forward plus offset, or the park code (R276, R280). -/
def State.ringDrive (s : State) (key : Nat) : Nat := ((s.ring key).parked).getD (clampCode ((s.ringCode key : Int) + (s.ring key).offset))

/-- The line index of a lane's rings (R237, R288). -/
def laneLine : LaneId → Nat
  | .base a b _ => (b.val + 24 - a.val) % 24
  | .ext _ j => j.val

/-- The lane a ring serves is declared failed (R253): by its receiver, or by its source for the transmit ring of a lane that leaves the module.
The rings of λ0 serve none (R238). -/
def State.failRing (s : State) (l : LaneId) (tx : Bool) : State :=
  match l with
  | .base a b _ => if a = b then s else s.failLane l.key
  | .ext _ _ => if tx then ((s.modLane l.key fun x => { x with failed := true }).replace l.key).checkFailed (lanePlaneIx l.key)
    else s.failLane (rxLane l.key)

/-- A ring after a fine-lock update at a detuning in 0.125 GHz steps (R277, R280). A parked ring re-acquires. -/
def Ring.update (r : Ring) (detune offset : Int) (now : Nat) : Ring :=
  let d := detune.natAbs
  let steady := if d ≤ 8 then (match r.steady with
      | some t => some t
      | none => some now) else none
  let long := match steady with
    | some t => decide (t + 100000 ≤ now)
    | none => false
  { r with
    offset := offset, detune := detune, steady := steady, parked := none
    st := match r.st with
      | .wrongLine => .acquiring
      | .locked => if 24 < d then .lockLost else .locked
      | .lockLost => if 24 < d then .lockLost else .acquiring
      | _ => if long && r.toneOk then .locked else .acquiring }

/-- Every 4 µs the fine-lock loop moves a lit ring's offset and lock state (R277). An update above 3 GHz counts as more than 1 µs there: a LOCKED
ring loses its lock, and with it its lane fails, unless that is in standby (R253, R278). -/
def execFineLockUpdate (l : LaneId) (tx : Bool) (detune offset : Int) (s : State) : Host.Outcome State Fault Refusal :=
  let i := lanePlaneIx l.key
  let key := ringKey l tx
  if !s.lit i then .next (s.modRing key fun r => { r with st := .off, steady := none, toneOk := false })
  else
    let lost := decide ((s.ring key).st = .locked) && decide (24 < detune.natAbs)
    let s := s.modRing key fun r => r.update detune offset s.now
    .next (if lost && !(s.ln l.key).standby then s.failRing l tx else s.lockPair i)

/-- A ring that sees another line's tone enters WRONG LINE: it takes its park code, 100 GHz from its feed-forward code towards its own line, and
adds the known offset between the lines (R280). -/
def Ring.wrong (r : Ring) (code : Nat) (own seen : Nat) : Ring :=
  let towards : Int := if seen < own then 1 else -1
  { r with
    st := .wrongLine, toneOk := false, steady := none, parked := some (clampCode ((code : Int) + towards * r.slope))
    offset := r.offset + 2 * ((own : Int) - seen) * r.slope }

/-- A 2 ms integration shows the strongest tone a lit ring sees: its own, or another line's, which puts the ring in WRONG LINE and fails its lane
on an ACTIVE plane or fibre pair (R279, R280, R509). -/
def execPilotToneCheck (l : LaneId) (tx : Bool) (tone : Fin 32) (s : State) : Host.Outcome State Fault Refusal :=
  let n := laneLine l
  let key := ringKey l tx
  if !s.lit (lanePlaneIx l.key) then .next s
  else if tone.val = n then
    .next (s.modRing key fun r => { r with toneOk := true, st := if r.st = .wrongLine then .acquiring else r.st })
  else if (s.ring key).st = .wrongLine then .next s
  else
    let code := s.ringCode key
    let s := (s.modRing key fun r => r.wrong code n tone.val).endEvent (if tx then laneSrc l.key else laneDst l.key) 7 1
    if s.plane (lanePlaneIx l.key) = .active ∧ !(s.ln (rxLane l.key)).failed then .next (s.failRing l tx) else .next s

/-! Error rates (R281 to R283). -/

/-- Thresholds of R282 in errors: base and external, for commission (10 s), warning (1 s), spare trigger (10 s), failure
(1 ms). The raw bits of a window are 1.0625e8 per millisecond (R281). -/
def failureAt (ext : Bool) (e : Nat) : Bool := decide ((if ext then 21250 else 1063) ≤ e)
def warningAt (ext : Bool) (e : Nat) : Bool := decide ((if ext then 1062500 else 10625) ≤ e)
def spareAt (ext : Bool) (e : Nat) : Bool := decide ((if ext then 53125000 else 1062500) ≤ e)
def commissionOk (ext : Bool) (e : Nat) : Bool := decide (e ≤ (if ext then 10625 else 1062))

/-- The class of a lane (R282). -/
def laneClass (ext : Bool) (l : LaneState) : Nat :=
  if failureAt ext l.errMs then 4
  else if spareAt ext l.errTen then 3
  else if warningAt ext l.errBits then 2
  else if commissionOk ext l.errTen then 0 else 1

/-- A drift recalibration is scheduled, ahead of the rolling order (R284). -/
def State.scheduleDrift (s : State) (i : Nat) : State :=
  if s.light.drift.contains i then s else { s with light := { s.light with drift := s.light.drift ++ [i] } }

/-- Lanes that carry line `w` from the cartridge of a lane's path, by their 10 s counts (R283). -/
def State.lineErrors (s : State) (bay w : Nat) : Nat :=
  ((s.lanes.filter fun p =>
    decide (bayOf (lanePlaneIx p.1) = bay) &&
    decide ((if isExt p.1 then extNo p.1 else (laneDst p.1 + 24 - laneSrc p.1) % 24) = w)).map fun p => p.2.errTen).sum

/-- The place of a lane's error windows among the periodic events. -/
def keyErrors (key : Nat) (window : Nat) : Nat := 65536 + 4 * key + window

/-- The lengths of the error windows in ns (R281). -/
def windowNs (window : Nat) : Nat := if window = 0 then 1000000 else if window = 1 then 1000000000 else 10000000000

/-- An error window of a lane ends, at a multiple of its length (R281 to R283): failure fails the lane; a lane that reaches warning is counted; the
spare trigger of one lane schedules a drift recalibration, and of the mean over its line makes the cartridge FADING. -/
def execBerWindowEnd (l : LaneId) (window : Fin 3) (errors : Nat) (s : State) : Host.Outcome State Fault Refusal :=
  let key := rxLane l.key
  let ext := isExt key
  let i := lanePlaneIx key
  let bay := bayOf i
  let s := s.periodic (keyErrors key window.val) (windowNs window.val)
  match window.val with
  | 0 =>
    let s := s.modLane key fun x => { x with errMs := errors }
    if failureAt ext errors ∧ !(s.ln key).failed then .next (s.failLane key) else .next s
  | 1 =>
    let reached := warningAt ext errors && !warningAt ext (s.ln key).errBits
    let s := s.modLane key fun x => { x with errBits := errors }
    .next (if reached then { s with light := { s.light with warnings := s.light.warnings + 1 } } else s)
  | _ =>
    let s := s.modLane key fun x => { x with errTen := errors }
    let s := if spareAt ext errors then s.scheduleDrift i else s
    if (if ext then 12 * 53125000 else 96 * 1062500) ≤ s.lineErrors bay (laneLine l) then .next (s.fade (s.feeder bay)) else .next s

/-- A lane measured at stage S2, in errors of a 10 s window, and again after the one recalibration that a lane above the commission limit brings
its plane or fibre pair: still above it, the lane is declared failed (R283). -/
def State.commissionLane (s : State) (x : LaneId × Nat × Nat) : State :=
  let key := rxLane x.1.key
  let ext := isExt key
  if commissionOk ext x.2.1 then s.modLane key fun l => { l with errTen := x.2.1 }
  else
    let s := s.modLane key fun l => { l with errTen := x.2.2 }
    let s := { s with light := { s.light with calLast := s.light.calLast.set 0 (lanePlaneIx key) s.now } }
    if commissionOk ext x.2.2 then s else s.failLane key

/-! The spare procedure (R287). -/

/-- Can the procedure run: CB6 DARK or READY and no bay replaced? -/
def State.spareReady (s : State) : Bool :=
  (decide ((s.bay 6).st = .dark) || decide ((s.bay 6).st = .ready)) && decide (s.field 0x17048 3 0 = 15)

/-- Names of a path in an epoch command. -/
def pathNames (bay : Nat) : Nat := ((pathOf bay).map fun i => 2 ^ (if 16 ≤ i then i - 16 else i)).sum

/-- The ACTIVE planes or fibre pairs of a path. -/
def State.activeNames (s : State) (bay : Nat) : Nat :=
  (((pathOf bay).filter fun i => decide (s.plane i = .active)).map fun i => 2 ^ (if 16 ≤ i then i - 16 else i)).sum

/-- The firmware writes an epoch command for a path, at the first epoch allowed, while no command is BUSY (R256, R287). -/
def State.procEpoch (s : State) (bay action names step : Nat) : State :=
  let fibre := decide (4 ≤ bay)
  if (s.epochOf fibre).isSome then s
  else
    let s := { s with light := { s.light with procStep := step } }
    (s.setReg (if fibre then 0x17058 else 0x14010) (BitVec.ofNat 64 s.firstEpoch)).epochWrite fibre action names

/-- The step the procedure takes next, once what it waits for has come (R287): 1 retire the path, 2 warm CB6, 3 match it, 4 switch, 6 readmit. -/
def State.procStepNext (s : State) (bay : Nat) : State :=
  let go := fun (s : State) (n : Nat) => { s with light := { s.light with procStep := n } }
  let matchIt := fun (s : State) => (go s 3).cbCommand 6 3 bay
  match s.light.procStep with
  | 0 => if s.activeNames bay = 0 then go s 1 else s.procEpoch bay 1 (s.activeNames bay) 1
  | 1 =>
    if !s.pathClear bay then s
    else if (s.bay 6).st = .dark then (go s 2).cbCommand 6 2 0
    else if (s.bay 6).st = .ready then matchIt s
    else s
  | 2 => if (s.bay 6).st = .ready then matchIt s else s
  | 3 => if (s.bay 6).st = .ready ∧ (s.bay 6).followed = some bay then (go s 4).spareSwitch bay else s
  | 4 =>
    if s.light.switching.isNone ∧ s.light.relocked ∧ (pathOf bay).all (fun i => decide (s.plane i = .locked)) then
      s.procEpoch bay 2 (pathNames bay) 6
    else s
  | _ => if (s.epochOf (decide (4 ≤ bay))).isNone then { s with light := { s.light with proc := none, procStep := 0 } } else s

/-- With AUTO the firmware runs the procedure for the bay that became FADING first, from its first step, the retirement of its planes or fibre
pairs, to its last, one step each time it looks (R287). -/
def execSpareProcedureStart (s : State) : Host.Outcome State Fault Refusal :=
  if !bitOf (s.reg 0x17048) 4 then .next s
  else match s.light.proc with
  | some n => .next (s.procStepNext n)
  | none => match s.light.fading.filter fun n => decide (n < 6) with
    | [] => .next s
    | n :: _ =>
      if s.spareReady then
        .next ({ s with light := { s.light with proc := some n, procStep := 0, fading := s.light.fading.erase n } }.procStepNext n)
      else .next s

/-! Recalibration (R284 to R286, R300). -/

/-- The interval in ns (R300). -/
def State.calInterval (s : State) : Nat :=
  let h := s.field 0x17050 31 24
  (if h = 0 then 1 else min h 168) * 3600000000000

/-- Is a start held back (R286)? -/
def State.calHeld (s : State) (i : Nat) (drift : Bool) : Bool :=
  let active := ((List.range 16).filter fun p => decide (s.plane p = .active)).length
  s.epoch.isSome || s.fepoch.isSome || s.light.proc.isSome ||
  ((List.range 16).any fun p => decide (s.plane p = .closing) || decide (s.plane p = .opening)) ||
  decide (active - (if i < 16 then 1 else 0) < if drift then 9 else 13)

/-- The next plane or fibre pair in rolling order. -/
def calAfter (i : Nat) : Nat := (i + 1) % 40

/-- Babbitt starts the next recalibration, drift ones first, or holds it back and counts it (R284 to R286). A unit out of
service is passed over (R523). The readmission of one that is LOCKED and could not be commanded before is commanded (R285). -/
def execRecalibrationStart (s : State) : Host.Outcome State Fault Refusal :=
  if s.light.calBusy.isSome then .next (match s.light.calBusy with
    | some i => s.readmitCal i
    | none => s)
  else if !bitOf (s.reg 0x17050) 0 then .next s
  else
    let due := match s.light.drift with
      | i :: _ => some (i, true)
      | [] => if s.light.calLast.get 0 s.light.calNext + s.calInterval ≤ s.now then some (s.light.calNext, false) else none
    match due with
    | none => .next s
    | some (i, drift) =>
      let past := { s.light with
        drift := s.light.drift.erase i
        calNext := if drift then s.light.calNext else calAfter i }
      if s.plane i ≠ .active then .next { s with light := { past with calLast := past.calLast.set 0 i s.now } }
      else if s.calHeld i drift then .next (s.count 0x17050 39 32 1)
      else
        let fibre := decide (16 ≤ i)
        let s := { s with light := { past with calBusy := some i } }
        let s := s.setReg (if fibre then 0x17058 else 0x14010) (BitVec.ofNat 64 s.firstEpoch)
        .next (s.epochWrite fibre 1 (2 ^ (if fibre then i - 16 else i)))

/-- What a sweep moves a ring's table points by: the measured resonance code against the feed-forward code, at most 0.3 GHz for each step of the
sweep (R285). -/
def sweepMove (f : RingFix) (code : Nat) : Int :=
  let most : Int := 3 * f.steps * f.slope.natAbs / 1000
  max (-most) (min most ((f.code.val : Int) - code))

/-- The correction of one ring: both table points that bracket the present temperature move by one amount, in MRAM through the write window, and a
correction above 20 GHz is flagged (R285). -/
def State.fixRing (s : State) (f : RingFix) : State :=
  let key := ringKey f.lane f.tx
  let t := s.feedTemps.temp key
  let code := s.feedForward key t
  let i := min 22 ((t - 160).toNat / 80)
  let move := fun (v : Nat) => clampCode ((v : Int) + sweepMove f code)
  let s := s.mramWrite (.ring key) ((List.range 24).map fun i => s.light.tuning.get 0 (key * 24 + i))
  let s := s.modRing key fun r => { r with slope := f.slope }
  { s with light := { s.light with
    tuning := (s.light.tuning.modify 0 (key * 24 + i) move).modify 0 (key * 24 + i + 1) move
    ringFlag := s.light.ringFlag || decide (f.slope.natAbs < 5 * ((f.code.val : Int) - code).natAbs) } }

/-- The sweep of a plane or pair under recalibration has ended, and its rings take their corrected tables (R285). A fibre pair whose rings are
LOCKED is then LOCKED and its readmission commanded; a plane first passes its self-test (R261). -/
def execRingSweepDone (path : Fin 40) (fixes : List RingFix) (s : State) : Host.Outcome State Fault Refusal :=
  if s.light.calBusy = some path.val ∧ s.plane path.val = .retired then
    let s := (fixes.filter fun f => decide (lanePlaneIx f.lane.key = path.val)).foldl State.fixRing s
    if 16 ≤ path.val ∧ s.lit path.val ∧ s.ringsLocked path.val then .next ((s.setPlane path.val .locked).readmitCal path.val) else .next s
  else .next s

/-- A ring has kept |offset|, in heater codes, above OPT_CAL.DRIFT_LIMIT for 1 s, the offset in GHz by the ring's slope (R284). -/
def execDriftDetected (l : LaneId) (tx : Bool) (offset : Int) (s : State) : Host.Outcome State Fault Refusal :=
  let key := ringKey l tx
  if s.field 0x17050 15 8 * (s.ring key).slope.natAbs < 800 * offset.natAbs then
    .next ((s.modRing key fun r => { r with offset := offset }).scheduleDrift (lanePlaneIx l.key))
  else .next s

/-! Fibre pairs (R293, R294). -/

/-- OPT_FEPOCH_CMD with ACTION 1 (R293). -/
def execOptFibreRetire (fibres : BitVec 24) (s : State) : Host.Outcome State Fault Refusal := .next (s.epochWrite true 1 fibres.toNat)
/-- OPT_FEPOCH_CMD with ACTION 2 (R293). -/
def execOptFibreReadmit (fibres : BitVec 24) (s : State) : Host.Outcome State Fault Refusal := .next (s.epochWrite true 2 fibres.toNat)

/-- The epoch of the pending fibre command (R293). -/
def execFibrePairEpoch (s : State) : Host.Outcome State Fault Refusal := .next (s.epochComes true)

/-- A CLOSING fibre pair whose lanes are empty becomes RETIRED (R293). -/
def execFibrePairRetired (pair : Fin 24) (s : State) : Host.Outcome State Fault Refusal := .next (s.retireEmpty (16 + pair.val))

/-- A fibre pair is retired at once (R294). -/
def execFibrePairForcedRetire (pair : Fin 24) (cause : Fin 8) (s : State) : Host.Outcome State Fault Refusal :=
  if 2 ≤ cause.val ∧ cause.val ≤ 5 then .next (s.forceRetire (16 + pair.val) cause.val) else .next s

/-- No link flit on any lane of a pair for 100 µs (R294). -/
def execFibreSilenceTimeout (pair : Fin 24) (s : State) : Host.Outcome State Fault Refusal :=
  .next ((s.reach (s.lastLink.get 0 pair.val + 100000)).forceRetire (16 + pair.val) 0x05)

end Sys2Proof.Machine
end

