-- ==== Sys2Proof/Machine/Units.lean ====
section
/-!
DEFINITION. Operations the rest of the module shares: periodic moments, kept fields and their MRAM windows (R23, R377, R378), and
what a loss or a reset clears of cores, dies and vaults (R80, R331, R461).
-/
namespace Sys2Proof.Machine
open Sys2Proof

def State.modThermal (s : State) (f : Thermal → Thermal) : State := s.modPower fun p => { p with thermal := f p.thermal }
def State.modLadder (s : State) (f : Ladder → Ladder) : State := s.modPower fun p => { p with ladder := f p.ladder }
def State.modTime (s : State) (f : TimeSync → TimeSync) : State := s.modPower fun p => { p with time := f p.time }
def State.modMod (s : State) (f : Module → Module) : State := { s with mod := f s.mod }
def State.modJob (s : State) (f : Job → Job) : State := s.modMod fun m => { m with job := f m.job }
def State.modStart (s : State) (f : Start → Start) : State := s.modMod fun m => { m with start := f m.start }
def State.modPorts (s : State) (f : Ports → Ports) : State := s.modMod fun m => { m with ports := f m.ports }
def State.modPair (s : State) (f : Pair → Pair) : State := s.modMod fun m => { m with pair := f m.pair }

/-- JOB_STATUS.STATE (R220). -/
def State.jobState (s : State) : Nat := s.field 0x10808 2 0

/-! Kept fields (R23). -/

/-- The kept bits of a register. -/
def keptMask (off : Nat) : Word :=
  match Reg.at? off with
  | some r => r.mask fun f => f.kept
  | none => 0

/-- What a reset leaves of a stored register. -/
def keptEntry (e : Nat × Word) : Option (Nat × Word) :=
  let w := e.2 &&& keptMask e.1
  if w = 0 then none else some (e.1, w)

/-- Registers named by `p` returned to their Reset column, their kept fields as they are (R23). -/
def State.resetRegs (s : State) (p : Nat → Bool) : State :=
  let clear := fun (e : Nat × Word) => if p e.1 then keptEntry e else some e
  { s with regs := s.regs.filterMap clear }

/-! Resets of cores and dies. -/

/-- The eight contexts of a core. -/
def coreContexts (k : CoreId) : List Nat := threadNos.map fun t => k.tower.val * 2048 + k.core.val * 8 + t.val

/-- An entry of a table, dropped when it is the default. -/
def listed {β : Type} [DecidableEq β] (d : β) (k : Nat) (v : β) : Option (Nat × β) := if v = d then none else some (k, v)

/-- Contexts cleared: their tracking entries, their numbering and their counters (R80, R177, R181). -/
def State.clearContexts (s : State) (p : Nat → Bool) : State :=
  let clear := fun (e : Nat × Requester) =>
    if p e.1 then listed Requester.empty e.1 { Requester.empty with since := (s.endp (e.1 / 2048)).srcInc } else some e
  { s with
    requesters := s.requesters.filterMap clear
    counters := Tab.drop (fun i => p (i / 64)) s.counters }

/-- The endpoint's SRC_INC advances (R181). -/
def State.advanceInc (s : State) (e : Nat) : State := s.modEnd e fun d => { d with srcInc := (d.srcInc + 1) % 256 }

/-- What a core reset keeps (R80): scratchpad, instruction memory, and the core's place in scrub and reset bookkeeping. The write-backs that
the banks hold and the parts of local stores not yet performed are dropped, the errors of the scratchpad stay (assumption 138). -/
def Core.cleared (c : Core) (now : Nat) : Core :=
  { Core.reset with
    cycle := c.cycle, nextIssue := c.cycle, served := c.served, idleSince := now, lastIssue := now, spad := c.spad, spadErr := c.spadErr,
    imem := c.imem, imemErr := c.imemErr, inbound := c.inbound, outbound := c.outbound, bond := c.bond, up := c.up, key := c.key,
    scrubLane := c.scrubLane, scrubLeft := c.scrubLeft, disabled := c.disabled, resetTimes := c.resetTimes, inReset := c.inReset }

/-- A core's registers and contexts cleared (R80). Fills in flight go on; the accesses of the core that wait for them are
dropped (R331). The live fields IMEM and LAST_LANE of CORE_SPAD_ECC are stored bits and become 0 with the rest (assumption 138). A counter
whose sample was not yet taken keeps OVF (R504). -/
def State.clearCore (s : State) (k : CoreId) : State :=
  let b := coreBlock k
  let dead := ((s.endp k.tower.val).txns.filter fun x => (coreContexts k).contains x.pkt.srcCtx).map fun x => x.id
  let armed := counterNos.filter fun n => (s.core k).pmcArmed.get false n
  let s := s.modCore k fun c => c.cleared s.now
  let s := s.resetRegs fun o => decide (b ≤ o) && decide (o < b + 0x100) && decide (o ≠ b + 0x18)
  let s := armed.foldl (fun s n => s.setField (pmcSel k n) 63 63 1) s
  let s := s.clearContexts fun i => (coreContexts k).contains i
  let drop := fun (f : Fill) => { f with waiting := f.waiting.filter fun w => !dead.contains w.1 }
  s.modVault k.tower.val fun v => { v with
    fills := v.fills.map drop
    fillWait := v.fillWait.filter fun w => !dead.contains w.2.1 }

/-- The core slots of a tower, and of a row. -/
def coreNos : List (Fin 256) := List.ofFn fun i : Fin 256 => i
def rowCores (row : Nat) : List (Fin 256) := coreNos.filter fun c => decide (c.val / 16 = row)

/-- Every core of a tower cleared (R461). -/
def State.clearDie (s : State) (t : Fin 8) : State := coreNos.foldl (fun s c => s.clearCore ⟨t, c⟩) s

/-- A compute die without power or in tower deep keeps nothing (R67): its cores are as after power-on, and their scratchpads are
written with zeros before they serve again (R69). -/
def State.loseDie (s : State) (t : Fin 8) : State :=
  let first := t.val * 256
  let clear := fun (e : Nat × Core) =>
    if first ≤ e.1 ∧ e.1 < first + 256 then
      listed Core.reset e.1 { Core.reset with disabled := e.2.disabled, resetTimes := e.2.resetTimes }
    else some e
  let s := { s with cores := s.cores.filterMap clear }
  let b := endBlock t.val + 0x10000
  let s := s.resetRegs fun o => decide (b ≤ o) && decide (o < b + 0x10000)
  let s := s.advanceInc t.val
  s.clearContexts fun i => decide (i / 2048 = t.val)

/-- Every dirty tag of a vault set (R331). -/
def allDirty : Tab Bool := (List.range 32768).map fun i => (i, true)

/-- A vault reset (R331): the cache part is empty, fill entries are released, every dirty tag is set, and the direct part keeps its
contents. -/
def State.clearVault (s : State) (t : Nat) : State :=
  s.modVault t fun v => { v with
    dirty := allDirty, coreReqs := [], sideReqs := [], dumpQ := [], down := [], ways := [], fills := [], fillWait := [], crossings := [] }

/-- VCORE is lost: compute dies and vault dies keep nothing but what MRAM holds (R364, R365). -/
def State.losePower (s : State) : State :=
  ([0, 1, 2, 3, 4, 5, 6, 7] : List (Fin 8)).foldl (fun s t =>
    let s := s.loseDie t
    let s := s.modVault t.val fun v => { Vault.reset with bonds := v.bonds, turning := v.turning, damage := v.damage, scrubLane := v.scrubLane }
    s.modEnd t.val fun d => { EndState.reset with srcInc := d.srcInc, clearedAt := some s.now, disabled := d.disabled, resetTimes := d.resetTimes }) s

end Sys2Proof.Machine
end

