-- ==== Sys2Proof/Machine/RemoteOps.lean ====
section
/-!
DEFINITION. Operations that remote instructions and the remote engine share: entries, the waits of a thread and what ends them (R33, R36
to R42, R177, R180).
-/
namespace Sys2Proof.Machine
open Sys2Proof

/-! Starting a remote operation (R37, R138). -/

/-- Held remote instructions of the core that issued before place `no` and wait for a queue entry alone (R33, R37). -/
def State.heldBefore (s : State) (k : CoreId) (no : Nat) : Nat :=
  (threadNos.filter fun t => match ((s.core k).th t).wait with
    | .held _ n => decide (n < no) && decide (s.tracking (k.tower.val * 2048 + k.core.val * 8 + t.val) < 16)
    | _ => false).length

/-- May an instruction at place `no` of the core's issue order enter: a tracking entry of its thread is free, and a queue entry that no
earlier held instruction waits for (R33, R37)? -/
def State.mayEnter (s : State) (c : Ctx) (no : Nat) : Bool :=
  decide (s.tracking c.id < 16) && decide (s.queued c.coreId + s.heldBefore c.coreId no < 32)

/-- Are a tracking entry and a queue entry free for an instruction that issues now (R33, R37)? -/
def State.entriesFree (s : State) (c : Ctx) : Bool := s.mayEnter c (s.core c.coreId).heldNo

/-- The operation enters: it takes its number, its tracking entry and its queue entry. -/
def State.enterOp (s : State) (ctx : Nat) (op : RemoteOp) : State :=
  s.modReq ctx fun r => { r with ops := r.ops ++ [{ op with id := r.nextOp }], nextOp := r.nextOp + 1 }

/-- Does the issuing thread wait for the operation's answer (R37)? -/
def OpKind.waits : OpKind → Bool
  | .load _ _ _ => true
  | .fetch _ _ => true
  | _ => false

/-- An operation of one packet. -/
def oneOp (c : Ctx) (pc : BitVec 13) (kind : OpKind) (p : Piece) : RemoteOp :=
  { id := 0, thread := c.thread.val, pc := pc, kind := kind, unsent := [p], flights := [], failure := none, value := none, bytes := [], spills := none }

def onePiece (op sub : Nat) (far : Word) (len : Nat) (operand comparand : Word) (db : Bool) : Piece :=
  { op := op, sub := sub, far := far, loc := 0, len := len, operand := operand, comparand := comparand, ken := false,
    knum := 0, kctx := 0, db := db }

/-! Waits. -/

/-- Is an operation with a number below `before` still there (R180)? -/
def State.opsBefore (s : State) (ctx before : Nat) : Bool := (s.req ctx).ops.any fun o => decide (o.id < before)

/-- A deadline by its DL field: none, relative or absolute (R147); illegal for 0b11, and for 0b00 with xt not x0. The spec does not say whether
TIME_NOW + xt wraps: the model keeps the exact sum, and a sum of 2^64 or more never passes (assumption 125). -/
def deadlineOf (t : Thread) (now : Nat) (xt : XReg) (dl : BitVec 2) : Option (Option Nat) :=
  match dl.toNat with
  | 0 => if xt = 0 then some none else none
  | 1 => some (some (now + (t.xr xt).toNat))
  | 2 => some (some (t.xr xt).toNat)
  | _ => none

/-- Has a deadline passed (R147)? -/
def deadlinePassed (now : Nat) : Option Nat → Bool
  | none => false
  | some d => decide (d ≤ now)

/-- The deadline of a wait, if it has one. -/
def Wait.deadline : Wait → Option Nat
  | .counter _ _ d => d
  | .doorbell d => d
  | _ => Option.none

/-! What ends a wait from outside. -/

/-- An increment of a counter, modulo 2^32; a `kwait` whose condition then holds ends with p7 all ones (R42, R177). -/
def State.increment (s : State) (ctx k : Nat) : State :=
  let s := s.setCounter ctx k (s.counter ctx k + 1)
  if ctx < 16384 then
    let c : Ctx := ⟨⟨ctx / 2048 % 8, Nat.mod_lt _ (by decide)⟩, ⟨ctx / 8 % 256, Nat.mod_lt _ (by decide)⟩, ⟨ctx % 8, Nat.mod_lt _ (by decide)⟩⟩
    match (s.th c).wait with
    | .counter kk xv _ =>
      if kk = k ∧ counterReached (s.counter ctx k) xv then (s.modTh c fun t => t.setP 7 (waitFlag true)).wake c else s
    | _ => s
  else s

/-- Set a thread's doorbell pending bit; a `dbwait` ends at once and consumes it (R40, R42). -/
def State.setDoorbell (s : State) (c : Ctx) : State :=
  match (s.th c).wait with
  | .doorbell _ => (s.modTh c fun t => { t with dbPending := false }.setP 7 (waitFlag true)).wake c
  | _ => s.modTh c fun t => { t with dbPending := true }

/-- A doorbell store wrote these bytes of a core's scratchpad: every thread whose watch covers a block of them (R40). -/
def State.ringDoorbells (s : State) (k : CoreId) (off n : Nat) : State :=
  threadNos.foldl (fun s t =>
    match ((s.core k).th t).armed with
    | some b => if off / 64 ≤ b ∧ b ≤ (off + n - 1) / 64 then
        (s.pulse k 0x083 (some t.val) 1).setDoorbell ⟨k.tower, k.core, t⟩ else s
    | none => s) s

end Sys2Proof.Machine
end

