-- ==== Sys2Proof/Machine/Engine.lean ====
section
/-!
DEFINITION. The requester's side of the remote engine (R170 to R172, R180 to R189): numbering and sending, answers, failures and
the completion of an operation.
-/
namespace Sys2Proof.Machine
open Sys2Proof

/-- A context of a tower by its id; none for a context of a control chiplet (R9, R194). -/
def towerCtx (ctx : Nat) : Option Ctx :=
  if ctx < 16384 then
    some ⟨⟨ctx / 2048 % 8, Nat.mod_lt _ (by decide)⟩, ⟨ctx / 8 % 256, Nat.mod_lt _ (by decide)⟩, ⟨ctx % 8, Nat.mod_lt _ (by decide)⟩⟩
  else none

/-- A pulse of a thread's counters, for a context of a tower. -/
def State.ctxPulse (s : State) (ctx event : Nat) : State :=
  match towerCtx ctx with
  | some c => s.pulse c.coreId event (some c.thread.val) 1
  | none => s

/-! The cache part of a vault (R327, R328). -/

/-- S, the number of sets (R327). -/
def State.vaultSets (s : State) (t : Nat) : Nat := (2 ^ 31 - s.vaultDirect t) / 4096

/-- A write or removal takes a line out of a tower's vault, and keeps a fill in flight from being installed (R174, R328). -/
def State.removeLine (s : State) (t line : Nat) : State :=
  s.modVault t fun v => { v with
    ways := Tab.mapKeys ⟨false, 0, 0⟩ (fun _ => true) (fun w => if w.valid && decide (w.line = line) then ⟨false, 0, 0⟩ else w) v.ways
    fills := v.fills.map fun f => if f.line = line then { f with dropped := true } else f }

/-- Is the access a read in the cached view of a tower whose cache part has sets (R162, R327)? -/
def State.cachedRead (s : State) (ctx op : Nat) (far : Word) : Bool :=
  decide (ctx < 16384) && (decide (op = 1) || decide (op = 5)) && decide (gaEndpoint far = 31) && decide (gaOffset far < 2 ^ 48) &&
  decide (gaModule far = s.moduleId) && decide (0 < s.vaultSets (ctx / 2048))

/-! Sending (R170, R171, R181). -/

/-- T of R186 and R187, in ns. -/
def State.remoteBound (s : State) : Nat := min 4000000 (max 1000 (s.field 0x10400 31 0))

/-- The destination a piece's numbering counts: module x 32 + endpoint (R181). -/
def State.pieceDest (s : State) (ctx : Nat) (p : Piece) : Nat :=
  gaModule p.far * 32 + (if s.cachedRead ctx p.op p.far then ctx / 2048 else homeOf p.far)

/-- Has the packet no response yet? A GET whose GDATA is being written has received it. -/
def Flight.open (f : Flight) : Bool := !f.answered && decide (f.writing = 0)

/-- Packets of a context for a destination that have no response yet, the GETs of fills among them (R171, R327). -/
def State.unanswered (s : State) (ctx dest : Nat) : Nat :=
  (((s.req ctx).ops.flatMap (·.flights)).filter fun f => decide (f.dest = dest) && f.open).length +
  ((s.vault (ctx / 2048)).fills.filter fun f => decide (f.ctx = ctx) && (match f.flight with
    | some g => decide (g.dest = dest) && !g.answered
    | none => false)).length

/-- The packet of a piece. The data of a PUT are its source's bytes as they are now (R144, R167). -/
def State.piecePacket (s : State) (ctx : Nat) (p : Piece) (seq tries : Nat) (data : List Byte) : Packet :=
  { op := p.op, sub := p.sub, knum := p.knum, ken := p.ken, db := p.db, tries := tries, gw := false, srcCtx := ctx, seq := seq,
    kctx := p.kctx, srcModule := s.moduleId, srcInc := (s.endp (ctx / 2048)).srcInc, addr := p.far, operand := p.operand, data := data }

/-- Does a piece carry bytes of its context's own scratchpad (R144)? -/
def fromSpad (ctx : Nat) (p : Piece) : Bool := decide (p.op = 4) && decide (ctx < 16384)

/-- The data bytes any other piece carries: those a host access stream or a multicast holds, or the comparand of `rcas8` (R168, R260,
R400). -/
def RemoteOp.pieceData (o : RemoteOp) (p : Piece) : List Byte :=
  if p.op = 4 then (o.bytes.drop p.loc).take p.len
  else if p.op = 3 ∧ p.sub % 32 = 0x12 then bytesOf 32 p.comparand.toNat
  else []

/-- Send a packet of a context towards its destination; a write to the hashed region from a tower removes the line from that
tower's own vault as it leaves (R174, R185, R328). -/
def State.launch (s : State) (ctx dest : Nat) (p : Packet) : State :=
  let e := ctx / 2048
  let s := if e < 8 ∧ gaEndpoint p.addr = 31 ∧ (p.op = 2 ∨ p.op = 3 ∨ p.op = 4) ∧ gaModule p.addr = s.moduleId then
      s.removeLine e (gaOffset p.addr % 2 ^ 48 / 256) else s
  if dest = s.moduleId * 32 + e then s.handOver e p else s.emit e p

/-- The next number of a context for a destination (R181). -/
def State.takeSeq (s : State) (ctx dest : Nat) : State × Nat :=
  let q := (s.req ctx).seqs.get 0 dest
  (s.modReq ctx fun r => { r with
    seqs := r.seqs.set 0 dest ((q + 1) % 65536), lost := r.lost.filter fun x => decide (x ≠ (dest, q)) }, q)

/-- A packet at its first send. -/
def State.newFlight (s : State) (p : Piece) (seq dest : Nat) : Flight :=
  { piece := p, seq := seq, dest := dest, firstSent := s.now, lastSent := s.now, tries := 0, bound := s.remoteBound, writing := 0
    reading := 0, source := [], answered := false }

/-- The GET of a fill is sent, under the numbering and limit of the context that missed (R327). -/
def State.sendFill (s : State) (t : Nat) (line : Nat) : State :=
  match (s.vault t).fills.find? fun f => decide (f.line = line) && f.flight.isNone with
  | none => s
  | some f =>
    let far : Word := BitVec.ofNat 64 (s.moduleId * 2 ^ 54 + 31 * 2 ^ 49 + line * 256)
    let dest := s.moduleId * 32 + hashPort (line * 256)
    if 64 ≤ s.unanswered f.ctx dest then s
    else
      let (s, q) := s.takeSeq f.ctx dest
      let p : Piece := { op := 5, sub := 7, far := far, loc := 0, len := 256, operand := 0, comparand := 0, ken := false, knum := 0,
                         kctx := 0, db := false }
      let g := s.newFlight p q dest
      let s := s.modVault t fun v => { v with fills := v.fills.map fun x => if x = f then { x with flight := some g } else x }
      (s.ctxPulse f.ctx 0x0C1).emit t (s.piecePacket f.ctx p q 0 [])

def OpKind.isMmio : OpKind → Bool
  | .mmioRead _ _ => true
  | .mmioWrite => true
  | _ => false

/-- A host port issues a packet of MMIO only after the previous one has been answered (R403). -/
def State.mmioTurn (s : State) (ctx : Nat) (o : RemoteOp) : Bool :=
  !o.kind.isMmio || !(s.req ctx).ops.any fun x => x.kind.isMmio && decide (x.id < o.id)

/-- The operation and packet a number of a context for a destination belongs to. -/
def State.flightOf (s : State) (ctx dest seq : Nat) : Option (RemoteOp × Flight) :=
  (s.req ctx).ops.findSome? fun o => (o.flights.find? fun f => decide (f.dest = dest) && decide (f.seq = seq)).map fun f => (o, f)

/-- Change one packet of an operation, and the operation. -/
def State.modFlight (s : State) (ctx id dest seq : Nat) (g : Flight → Flight) (h : RemoteOp → RemoteOp) : State :=
  s.modReq ctx fun r => { r with ops := r.ops.map fun o =>
    if o.id = id then (h ({ o with flights := o.flights.map fun f => if f.dest = dest ∧ f.seq = seq then g f else f }))
    else o }

/-- A packet leaves, for the first time or again (R170, R182). -/
def State.sendPiece (s : State) (ctx dest : Nat) (p : Piece) (seq tries : Nat) (data : List Byte) : State :=
  let s := s.ctxPulse ctx 0x0C1
  (if tries = 0 then s else s.ctxPulse ctx 0x0C2).launch ctx dest (s.piecePacket ctx p seq tries data)

/-- The source of a PUT is to be read through the outbound port of its core, unit by unit (R48, R144). -/
def State.readSource (s : State) (c : Ctx) (op seq dest : Nat) (p : Piece) : State :=
  let us := (List.range ((p.len + 31) / 32)).map fun i =>
    (⟨.put c.id op seq dest, .read (p.loc + 32 * i) (min 32 (p.len - 32 * i)) (32 * i)⟩ : PortUnit)
  s.modCore c.coreId fun k => { k with outbound := k.outbound ++ us }

/-- Units of a PUT's source. -/
def Piece.units (p : Piece) : Nat := (p.len + 31) / 32

/-- A unit of a PUT's source has left its core; with the last of them the packet leaves (R144, R170). -/
def State.putUnit (s : State) (ctx op seq dest pos : Nat) (bytes : List Byte) : State :=
  match s.flightOf ctx dest seq with
  | some (o, f) =>
    if o.id = op ∧ 0 < f.reading ∧ !f.answered then
      let source := f.source.write pos bytes
      let first := if f.tries = 0 then s.now else f.firstSent
      let s := s.modFlight ctx op dest seq (fun f => { f with
        reading := f.reading - 1, source := source
        firstSent := if f.reading = 1 then first else f.firstSent
        lastSent := if f.reading = 1 then s.now else f.lastSent }) fun o => o
      if f.reading = 1 then s.sendPiece ctx dest f.piece seq f.tries (source.read 0 f.piece.len) else s
    else s
  | none => s

/-- The first packet an operation has not sent takes its number and leaves, or starts to read its source (R144, R170, R181). -/
def State.sendFirst (s : State) (ctx dest : Nat) (o : RemoteOp) (p : Piece) (rest : List Piece) : State :=
  let q := s.takeSeq ctx dest
  let f := q.1.newFlight p q.2 dest
  let add := fun (f : Flight) => q.1.modReq ctx fun r => { r with ops := r.ops.map fun x =>
    if x.id = o.id then { x with unsent := rest, flights := x.flights ++ [f] } else x }
  match towerCtx ctx with
  | some c =>
    if fromSpad ctx p then (add { f with reading := p.units }).readSource c o.id q.2 dest p
    else (add f).sendPiece ctx dest p q.2 0 (o.pieceData p)
  | none => (add f).sendPiece ctx dest p q.2 0 (o.pieceData p)

/-- The packet an operation sends next: its first one not sent; of a multicast, whose copies delay only themselves, the first to an endpoint
that is not at its limit (R171, R260). -/
def State.nextPiece (s : State) (c : Nat) (o : RemoteOp) : Option Piece :=
  let free := fun (p : Piece) => decide (s.unanswered c (s.pieceDest c p) < 64)
  if o.kind = .multi then o.unsent.find? free else o.unsent.head?.filter free

/-- The remote engine sends one packet of an operation, or the GET of a fill that waits for its turn under the limit of 64
(R170, R171). -/
def execRemotePacketSend (ctx : BitVec 16) (op : Option Nat) (s : State) : Host.Outcome State Fault Refusal :=
  let c := ctx.toNat
  match op with
  | none =>
    (match (s.vault (c / 2048)).fills.find? fun f => decide (f.ctx = c) && f.flight.isNone with
     | some f => .next (s.sendFill (c / 2048) f.line)
     | none => .next s)
  | some id =>
    match (s.req c).ops.find? fun o => decide (o.id = id) with
    | none => .next s
    | some o => match s.nextPiece c o with
      | none => .next s
      | some p => if !s.mmioTurn c o then .next s else .next (s.sendFirst c (s.pieceDest c p) o p (o.unsent.erase p))

/-! Completion (R172, R188). -/

/-- The value an operation that timed out leaves (R188). -/
def errorValue : Word := 0x7FFFDEAD7FFFDEAD

/-- A value as a load or fetch writes it to its register (R139, R140). -/
def OpKind.register (k : OpKind) (v : Word) : Option (Nat × Word) :=
  match k with
  | .load xd size signed => some (xd, extend size signed v.toNat)
  | .fetch xd size => some (xd, BitVec.ofNat 64 (v.toNat % 2 ^ (8 * size)))
  | _ => none

/-- The destination register of a load or fetch. -/
def OpKind.target : OpKind → Option Nat
  | .load xd _ _ => some xd
  | .fetch xd _ => some xd
  | _ => none

/-! Completion of what a host port asked for (R400 to R403, R409). -/

/-- The line of a CXL.mem request that reaches hashed offset `off` (R162, R400). -/
def memLine (off : Nat) : Nat := off / 256

/-- The operation of a CXL.mem request that reaches hashed offset `off`: a GET or a PUT of 2 units (R400). -/
def memOp (module off : Nat) (port : Bool) (tag : Nat) (data : Option (List Byte)) : RemoteOp :=
  let far : Word := BitVec.ofNat 64 (module * 2 ^ 54 + 31 * 2 ^ 49 + 2 ^ 48 + off)
  let piece : Piece := { op := if data.isSome then 4 else 5, sub := if data.isSome then 0 else 1, far := far, loc := 0, len := 64,
                         operand := 0, comparand := 0, ken := false, knum := 0, kctx := 0, db := false }
  { id := 0, thread := 0, pc := 0, kind := if data.isSome then .memWrite port tag off else .memRead port tag off, unsent := [piece],
    flights := [], failure := none, value := none, bytes := data.getD [], spills := none }

/-- The stream of a tag: core 0x40 + (m mod 63), thread floor(m / 63), of the port's chiplet (R399). -/
def memStream (port : Bool) (tag : Nat) : Nat :=
  let m := tag % 504
  (if port then 23 else 22) * 2048 + (0x40 + m % 63) * 8 + m / 63

/-- The last CXL.mem answer of a port. -/
def State.memAnswer (s : State) (port : Bool) (a : CxlAnswer) : State :=
  { s with mod := { s.mod with ports := { s.mod.ports with mem := s.mod.ports.mem.set none (boolBit port) (some a) } } }

/-- A failure is logged in the port's RAS capability and sent on vector 3 (R401, R406). -/
def State.logRas (s : State) (port : Bool) : State :=
  { s with mod := { s.mod with ports := { s.mod.ports with ras := s.mod.ports.ras.modify 0 (boolBit port) (· + 1) } } }.msi 3

/-- A CXL.mem request has completed: the oldest request of its port that waits for its line starts (R400). -/
def State.nextMem (s : State) (port : Bool) (off : Nat) : State :=
  match s.mod.ports.waiting.find? fun w => decide (w.port = port) && decide (memLine w.off = memLine off) with
  | none => s
  | some w =>
    let s := { s with mod := { s.mod with ports := { s.mod.ports with waiting := s.mod.ports.waiting.erase w } } }
    s.enterOp (memStream port w.tag) (memOp s.moduleId w.off port w.tag w.data)

/-- A failed endpoint-block access of a port returns all ones and counts as DENIED (R403). -/
def State.mmioAnswer (s : State) (port : Bool) (size : Nat) (o : RemoteOp) : State :=
  let failed := o.failure.isSome
  let v : Word := if failed then BitVec.ofNat 64 (2 ^ (8 * size) - 1) else o.value.getD 0
  let s := if failed then s.count 0x1000 47 32 1 else s
  { s with mod := { s.mod with ports := { s.mod.ports with answers := s.mod.ports.answers.set none (boolBit port) (some v) } } }

/-- A completed operation of a host access stream answers the host. -/
def State.settleHost (s : State) (ctx : Nat) (o : RemoteOp) : State :=
  let failed := o.failure.isSome
  match o.kind with
  | .memRead port tag off =>
    let s := s.memAnswer port { tag := tag, data := o.bytes, poison := failed }
    (if failed then s.logRas port else s).nextMem port off
  | .memWrite port tag off =>
    let s := s.memAnswer port { tag := tag, data := [], poison := false }
    (if failed then s.logRas port else s).nextMem port off
  | .bell => if failed then s.count 0x1000 15 0 1 else s
  | .mmioRead port size => s.mmioAnswer port size o
  | .mmioWrite => if failed then s.count 0x1000 47 32 1 else s
  | .multi => s.modReq ctx fun r => { r with multicast := some o.failure }
  | _ => s

/-- An operation every packet of which is answered is complete: its entry is released, its value written, its thread READY or
its fault placed (R37, R66, R172, R188). A fault that falls in the core cycle in which a stop from outside took the thread is still
taken (R66). -/
def State.settleOp (s : State) (ctx id : Nat) : State :=
  match (s.req ctx).ops.find? fun o => decide (o.id = id) with
  | none => s
  | some o =>
    if o.unsent = [] ∧ o.flights.all (fun f => f.answered) then
      let s := s.modReq ctx fun r => { r with ops := r.ops.filter fun x => decide (x.id ≠ id) }
      match towerCtx ctx with
      | none => s.settleHost ctx o
      | some c =>
        let th := s.th c
        let waits : Bool := match th.wait with
          | .answer w => decide (w = id) && (decide (th.st = .waitRemote) ||
              (decide (th.st = .stopped) && o.failure.isSome && decide (th.stoppedAt = some (s.core c.coreId).cycle)))
          | _ => false
        if o.kind.waits then
          let written := match o.value with
            | none => none
            | some v => if o.failure.isSome then o.kind.target.map fun xd => (xd, v) else o.kind.register v
          let s := match written with
            | none => s
            | some (r, v) => s.modTh c fun t => t.setX ⟨r % 32, Nat.mod_lt _ (by decide)⟩ v
          if waits then
            match o.failure with
            | none => s.wake c
            | some (cause, addr) => (if cause = 0x11 then s.pulse c.coreId 0x102 (some c.thread.val) 1 else s).raiseWaiting c cause addr o.pc
          else s
        else match o.failure with
          | none => s
          | some (cause, addr) => s.defer c cause addr
    else s

/-- Only the first failure of an operation is kept. -/
def RemoteOp.fail (o : RemoteOp) (cause : Nat) (addr : Word) : RemoteOp :=
  { o with failure := match o.failure with
      | some f => some f
      | none => some (cause, addr) }

/-- A packet has its response. -/
def State.answerFlight (s : State) (ctx id dest seq : Nat) (h : RemoteOp → RemoteOp) : State :=
  (s.modFlight ctx id dest seq (fun f => { f with answered := true, writing := 0 }) h).settleOp ctx id

/-- All units of a GET's answer are written: the own counter rises, and the packet has its response (R172, R179). -/
def State.gotAll (s : State) (ctx id dest seq : Nat) : State :=
  match s.flightOf ctx dest seq with
  | none => s
  | some (_, f) =>
    let s := if f.piece.ken then s.increment ctx f.piece.knum else s
    s.answerFlight ctx id dest seq id'
where
  id' (o : RemoteOp) : RemoteOp := o

/-- Cut bytes into 32-byte units with their offsets. -/
def unitsOf (off : Nat) (bs : List Byte) : List (Nat × List Byte) :=
  (List.range ((bs.length + 31) / 32)).map fun i => (off + 32 * i, (bs.drop (32 * i)).take 32)

/-- Bytes for a piece of a GET: to the requester's core they come down its bond turns and through the inbound buffer; a host access
stream takes them at once (R48, R172, R400). -/
def State.writeGot (s : State) (ctx id dest seq : Nat) (loc : Nat) (bs : List Byte) : State :=
  match towerCtx ctx with
  | none => s.answerFlight ctx id dest seq fun o => { o with bytes := bs }
  | some c =>
    let us := (unitsOf loc bs).map fun (off, b) => (⟨.got ctx id seq dest, .write off b⟩ : PortUnit)
    let s := s.modFlight ctx id dest seq (fun f => { f with writing := f.writing + us.length }) fun o => o
    s.modVault (ctx / 2048) fun v => { v with down := v.down.set [] c.core.val (v.down.get [] c.core.val ++ us) }

/-- The error value repeated over a failed piece (R188). -/
def errorBytes (n : Nat) : List Byte := ((List.range ((n + 7) / 8)).flatMap fun _ => bytesOf 8 errorValue.toNat).take n

/-- A packet has failed: a response that still comes is discarded and counted (R189). -/
def State.noteLost (s : State) (ctx dest seq : Nat) : State := s.modReq ctx fun r => { r with lost := (dest, seq) :: r.lost }

/-- A packet has failed, by its bound or by a NACK: the effects of R188 as its operation completes. A failed piece of a GET
takes the error value and its increment. -/
def State.failFlight (s : State) (ctx id dest seq : Nat) (bound : Bool) (cause : Nat) : State :=
  match s.flightOf ctx dest seq with
  | none => s
  | some (o, f) =>
    let s := s.noteLost ctx dest seq
    let loads := o.kind.waits
    let cause := if bound then (if loads then 0x11 else 0x14) else cause
    match o.kind with
    | .get => (s.modFlight ctx id dest seq (fun f => f) fun o => o.fail cause f.piece.far).writeGot ctx id dest seq f.piece.loc
        (errorBytes f.piece.len)
    | _ => s.answerFlight ctx id dest seq fun o =>
        { o.fail cause f.piece.far with value := if loads && bound then some errorValue else o.value }

end Sys2Proof.Machine
end

