-- ==== Sys2Proof/Machine/TensorUnit.lean ====
section
/-!
DEFINITION. The tensor unit at work: operands, K blocks, tile transfers, and what the unit does in each core cycle (R56 to R60, R85 to
R95, R106 to R109, R478).
-/
namespace Sys2Proof.Machine
open Sys2Proof

/-! Formats. -/

/-- The combinations of R90, with their core cycles for each K block. -/
def blockCycles : Fmt → Fmt → Option Nat
  | .dense .bf16, .dense .bf16 => some 128
  | .dense .bf16, _ => none
  | _, .dense .bf16 => none
  | .dense .e2m1, .dense .e2m1 => some 16
  | .dense _, .dense _ => some 32
  | .dense .e2m1, .s24 .e2m1 => some 8
  | .dense _, .s24 _ => some 16
  | .s24 _, _ => none

/-- Block strides (R85 to R87). -/
def stride : Fmt → Nat
  | .dense .bf16 => 4096
  | .dense e => 64 + 64 * (4 * e.width)
  | .s24 e => 64 * s24Size e

/-- A little-endian number of `n` bytes at `a` in the lanes read. -/
def gotNat (got : List (Nat × List Byte)) (a n : Nat) : Nat := ofBytes (gotBytes got a n)

/-- The scale exponent of a line, `none` for 0xFF: the line's byte in a dense block, bits [7:0] of an S24 block, 0 for BF16. -/
def lineScale (rd : Nat → Nat → Nat) (f : Fmt) (base n : Nat) : Option Int :=
  match f with
  | .dense .bf16 => some 0
  | .dense _ => let e := rd (base + n) 1; if e = 255 then none else some ((e : Int) - 127)
  | .s24 e => let b := rd (base + n * s24Size e) 1; if b = 255 then none else some ((b : Int) - 127)

/-- The 32 elements of a line; `none` at a position that an S24 block does not keep (R85 to R89). -/
def lineElems (rd : Nat → Nat → Nat) (f : Fmt) (base n : Nat) : List (Option Num) :=
  match f with
  | .dense .bf16 => (List.range 32).map fun i => some (Elem.bf16.value (rd (base + 64 * n + 2 * i) 2))
  | .dense e =>
    let bits := rd (base + 64 + n * (4 * e.width)) (4 * e.width)
    (List.range 32).map fun i => some (e.value (bitField bits (e.width * i) e.width))
  | .s24 e =>
    let bits := rd (base + n * s24Size e) (s24Size e)
    (List.range 32).map fun i => (s24At e bits i).map e.value

/-- Is K position `i` of column `col` present under a map byte (R108)? -/
def present (map : Byte) (i col : Nat) : Bool := map.getLsbD (4 * (i / 16) + col / 16)

/-- The rows a K block acts on: active in the mask and not skipped (R106, R107). -/
def blockRows (mask skip : Word) : List Nat := (List.range 64).filter fun r => mask.getLsbD r && !skip.getLsbD r

/-- The halves of a column of a K block that are present under a map byte (R108). -/
def presentHalves (map : Byte) (col : Nat) : List Nat := [0, 1].filter fun h => present map (16 * h) col

/-- The byte extents of the halves `hs` of line `n`: their elements, their codes, and the scale the line's halves share. The bytes of an
absent half are not read (R85 to R87, R108). -/
def lineExtents (f : Fmt) (base n : Nat) (hs : List Nat) : List (Nat × Nat) :=
  match f with
  | .dense .bf16 => hs.map fun h => (base + 64 * n + 32 * h, 32)
  | .dense e => (base + n, 1) :: hs.map fun h => (base + 64 + n * (4 * e.width) + 2 * e.width * h, 2 * e.width)
  | .s24 e =>
    let at' := base + n * s24Size e
    (at', 1) :: hs.flatMap fun h => [(at' + 1 + h, 2), (at' + 4 + e.width * h, e.width)]

/-- One K block: every entry of the rows it acts on receives its block value, in a tile by row x 64 + column (R91 to R94). -/
def blockStep (rd : Nat → Nat → Nat) (a : Tmma) (kb : Nat) (skip : Word) (map : Byte) (tile : Tab Lane) : Tab Lane :=
  let abase := a.xa + kb * stride a.afmt
  let bbase := a.xb + kb * stride a.bfmt
  let cols := (List.range 64).map fun col => (lineScale rd a.bfmt bbase col, lineElems rd a.bfmt bbase col)
  (blockRows a.mask skip).foldl (fun tile r =>
    let ascale := lineScale rd a.afmt abase r
    let av := lineElems rd a.afmt abase r
    (List.range 64).foldl (fun tile col =>
      let (bscale, bv) := cols.getD col (none, [])
      let prods := (List.range 32).filterMap fun i =>
        if present map i col then (match bv.getD i none, av.getD i none with
          | some b, some x => some (x.mul b)
          | _, _ => none)
        else none
      if prods = [] then tile
      else
        let scale := match ascale, bscale with
          | some x, some y => some (x + y)
          | _, _ => none
        let key := r * 64 + col
        tile.set 0 key (tileAdd a.mode (tile.get 0 key) (blockValue a.mode scale prods))) tile) tile

/-- Does a K block cost cycles (R109)? -/
def blockCosts (skip : Word) (map : Byte) : Bool := !(skip == BitVec.allOnes 64) && !(map == 0)

/-- The columns of a K block with a present half. A K block in which no row is active reads no column: the spec says which cycles it
costs and is silent on what the unit reads then (assumption 116). -/
def blockColumns (a : Tmma) (skip : Word) (map : Byte) : List (Nat × List Nat) :=
  if blockRows a.mask skip = [] then []
  else ((List.range 64).map fun col => (col, presentHalves map col)).filter fun p => !p.2.isEmpty

/-- The lanes a `tmma` reads for one K block: lines of the rows it acts on, and the present halves of the columns (R106 to R108). -/
def blockLanes (a : Tmma) (kb : Nat) (skip : Word) (map : Byte) : List Nat :=
  let ext := ((blockRows a.mask skip).flatMap fun r => lineExtents a.afmt (a.xa + kb * stride a.afmt) r [0, 1]) ++
    ((blockColumns a skip map).flatMap fun c => lineExtents a.bfmt (a.xb + kb * stride a.bfmt) c.1 c.2)
  (ext.flatMap fun e => lanesOf e.1 e.2).eraseDups

/-- S24 groups with a reserved code that a K block decodes: those of present halves (R88, R108). -/
def blockReserved (rd : Nat → Nat → Nat) (a : Tmma) (kb : Nat) (skip : Word) (map : Byte) : Nat :=
  match a.bfmt with
  | .s24 e =>
    let base := a.xb + kb * stride a.bfmt
    ((blockColumns a skip map).map fun c =>
      let blk := rd (base + c.1 * s24Size e) 4
      ((List.range 8).filter fun g => c.2.contains (g / 4) && (s24Kept (bitField blk (8 + 3 * g) 3)).isNone).length).sum
  | _ => 0

/-! The tensor port (R48). -/

/-- The first tensor turn of a bank at or after a cycle: (bank + c) mod 8 is 0 to 3. -/
def tensorTurn (bank cyc : Nat) : Nat := if (bank + cyc) % 8 < 4 then cyc else cyc + (8 - (bank + cyc) % 8)

/-- The tensor turns in which lanes are served, from cycle `cyc` on, each the first of its bank that no earlier lane of the port holds;
with the banks' new bookings. -/
def bookTensor (free : Tab Nat) (cyc : Nat) : List Nat → Tab Nat × List (Nat × Nat)
  | [] => (free, [])
  | l :: ls =>
    let b := spadBank l
    let t := tensorTurn b (max cyc (free.get 0 b))
    let p := bookTensor (free.set 0 b (t + 1)) cyc ls
    (p.1, (l, t) :: p.2)

/-- Book tensor turns for lanes. -/
def State.bookPort (s : State) (k : CoreId) (cyc : Nat) (lanes : List Nat) : State × List (Nat × Nat) :=
  let p := bookTensor (s.core k).tensorBank cyc lanes
  (s.modCore k fun c => { c with tensorBank := p.1 }, p.2)

/-- The entries of a tile, by row x 64 + column. -/
def Core.tileEntries (c : Core) (tile : Nat) : Tab Lane :=
  (c.tiles.filter fun e => decide (e.1 / 4096 = tile)).map fun e => (e.1 % 4096, e.2)

/-- The tiles with one of them replaced. -/
def Core.putTile (c : Core) (tile : Nat) (entries : Tab Lane) : Tab Lane :=
  (c.tiles.filter fun e => decide (e.1 / 4096 < tile)) ++ entries.map (fun e => (tile * 4096 + e.1, e.2)) ++
    c.tiles.filter fun e => decide (tile < e.1 / 4096)

/-- A tile as `tld` reads it from the lanes at `off` (R95, R137). -/
def loadedTile (got : List (Nat × List Byte)) (off : Nat) : Tab Lane :=
  (List.range 4096).filterMap fun i =>
    let v := tileLoad (BitVec.ofNat 32 (gotNat got (off + 4 * i) 4))
    if v = 0 then none else some (i, v)

/-- The bytes of a tile as `tld` reads them. -/
def Core.tileBytes (c : Core) (tile : Nat) : List Byte :=
  (List.range 4096).flatMap fun i => bytesOf 4 (c.tiles.get 0 (tile * 4096 + i)).toNat

/-- Copy a region of the sampled core into the witness core's scratchpad; `false` where a lane cannot be corrected. -/
def State.copyRegion (s : State) (k w : CoreId) (pc : BitVec 13) (r : Nat × Nat × Nat) : State × Bool :=
  match s.spadTry k r.1 r.2.2 with
  | (s, .ok bs) => s.spadWrite w r.2.1 bs
  | (s, .error l) => (s.fatalAt k pc (32 * l), false)

/-- The record's head in the witness core's scratchpad (R478): the instruction word, its addresses, ROUND, and the context. -/
def Capture.head (x : Capture) : List Byte :=
  bytesOf 8 x.word.toNat ++ bytesOf 8 x.xa.toNat ++ bytesOf 8 x.xb.toNat ++ bytesOf 8 x.xm.toNat ++ bytesOf 8 x.xs.toNat ++
    bytesOf 1 x.round ++ bytesOf 2 x.ctx ++ List.replicate 205 0

/-- The regions of a sampled operation's inputs: where they lie, where their copies go, and how long they are (R478). -/
def Tmma.regions (a : Tmma) : List (Nat × Nat × Nat) :=
  let la := a.kb * stride a.afmt
  (match a.skip with
    | some o => [(o, 0x70100, 8 * a.kb)]
    | none => []) ++ (match a.map with
    | some o => [(o, 0x70500, a.kb)]
    | none => []) ++ [(a.xa, 0x78800, la), (a.xb, 0x78800 + la, a.kb * stride a.bfmt)]

/-- The head, and the tile as it was, written into the witness core's scratchpad (R478). -/
def State.copyHead (s : State) (k w : CoreId) (x : Capture) : State :=
  let s := s.spadPut w 0x70008 x.head
  s.spadPut w 0x70800 ((s.core k).tileBytes x.tile)

/-- The inputs of a captured operation are copied, through the outbound port of its core, to the witness core (R478). -/
def State.copyInputs (s : State) (k : CoreId) (pc : BitVec 13) (a : Tmma) : State × Bool :=
  match s.mod.witness.sample with
  | some ⟨_, _, wit, some x, _, _⟩ =>
    let w : CoreId := ⟨⟨wit / 2048 % 8, Nat.mod_lt _ (by decide)⟩, ⟨wit / 8 % 256, Nat.mod_lt _ (by decide)⟩⟩
    a.regions.foldl (fun acc r => if acc.2 then acc.1.copyRegion k w pc r else acc) (s.copyHead k w x, true)
  | _ => (s, true)

/-! Operations in the unit (R59, R60). -/

/-- An operation as it enters the queue. -/
def TensorOp.queued (thread : Nat) (pc : BitVec 13) (tile : Nat) (act : TensorAct) (captured : Bool) : TensorOp :=
  { thread := thread, pc := pc, tile := tile, act := act, times := none, kb := 0, next := 0, blocks := [], writes := [], captured := captured }

/-- Change the `i`-th operation of the unit. -/
def Core.modOp (c : Core) (i : Nat) (f : TensorOp → TensorOp) : Core := { c with tensor := c.tensor.modify i f }

/-- The first cycle after an operation's last cycle in the unit, and the cycle its tile is written, from its start: a `tmma` 20
pipeline cycles after its K blocks, a transfer 12 after its 64, a clear with its 16 (R43, R59, R60, R137). -/
def tensorTimes (act : TensorAct) (start : Nat) : Nat × Nat :=
  match act with
  | .mma a =>
    let n := a.kb * (blockCycles a.afmt a.bfmt).getD 0
    (start + n, start + n + 19)
  | .clear => (start + 16, start + 15)
  | _ => (start + 64, start + 75)

/-- The scratchpad bytes a transfer moves. -/
def TensorAct.extent : TensorAct → Nat × Nat
  | .load off => (off, 16384)
  | .store off => (off, 16384)
  | .storeBf off => (off, 8192)
  | _ => (0, 0)

/-- The operation at place `i` of the unit starts in cycle `n` (R60). -/
def State.startOp (s : State) (k : CoreId) (n i : Nat) (o : TensorOp) : State :=
  let times := tensorTimes o.act n
  let shared := ((s.core k).tensor.take i).any fun q => decide (q.tile = o.tile)
  let s := s.modCore k fun c => { c.modOp i fun q => { q with times := some times, next := n } with
    tensorFree := times.1
    work := if shared then c.work else c.work.set [] o.tile (c.tileEntries o.tile) }
  match o.act with
  | .load off =>
    let p := s.bookPort k n (lanesOf off 16384)
    p.1.modCore k fun c => c.modOp i fun q => { q with blocks := [{ kb := 0, skip := 0, map := 0, reads := p.2, got := [], bad := none }] }
  | .store off =>
    let p := s.bookPort k n (lanesOf off 16384)
    p.1.modCore k fun c => c.modOp i fun q => { q with writes := p.2 }
  | .storeBf off =>
    let p := s.bookPort k n (lanesOf off 8192)
    p.1.modCore k fun c => c.modOp i fun q => { q with writes := p.2 }
  | _ => s

/-- The first queued operation starts where the unit is free in cycle `n`; one that the witness engine captures has its inputs copied
first (R60, R478). Its times stand from then on. An operation issued to a free unit starts in its issue cycle, as the latencies of R45
imply (assumption 117). -/
def State.tensorStart (s : State) (k : CoreId) (n : Nat) : State :=
  let c := s.core k
  let i := (c.tensor.takeWhile fun o => o.times.isSome).length
  match c.tensor[i]? with
  | none => s
  | some o =>
    if n < c.tensorFree then s
    else
      let p := match o.act with
        | .mma a => if o.captured then s.copyInputs k o.pc a else (s, true)
        | _ => (s, true)
      if p.2 then p.1.startOp k n i o else p.1

/-- The control lanes of K block `kb`: its skip word's and its map byte's. -/
def Tmma.controlLanes (a : Tmma) (kb : Nat) : List Nat :=
  ((match a.skip with
    | some o => lanesOf (o + 8 * kb) 8
    | none => []) ++ (match a.map with
    | some o => lanesOf (o + kb) 1
    | none => [])).eraseDups

/-- The skip word and the map byte of a K block, from the lanes read. -/
def Tmma.controls (a : Tmma) (kb : Nat) (got : List (Nat × List Byte)) : Word × Byte :=
  (match a.skip with
    | some o => BitVec.ofNat 64 (gotNat got (o + 8 * kb) 8)
    | none => 0,
   match a.map with
    | some o => gotByte got (o + kb)
    | none => 0xFF)

/-- A K block that costs nothing shortens the operation, and all of its blocks together cost it one cycle at least (R60, R109). -/
def Core.shorten (c : Core) (i cost : Nat) (none' : Bool) : Core :=
  let f := fun (t : Nat × Nat) => if none' then (t.1 + 1 - cost, t.2 - cost) else (t.1 - cost, t.2 - cost)
  { c.modOp i (fun q => { q with kb := q.kb + 1, times := q.times.map f }) with
    tensorFree := if none' then c.tensorFree + 1 - cost else c.tensorFree - cost }

/-- From K block `kb` on, in cycle `n`: the controls of each are read just before it, once; blocks that cost nothing are passed over,
and the first that costs begins (R109). `ran` tells whether an earlier one of the operation has run; `fuel` bounds the blocks. -/
def State.nextBlock (s : State) (k : CoreId) (n i : Nat) (o : TensorOp) (a : Tmma) (ran : Bool) (kb : Nat) : Nat → State
  | 0 => s
  | fuel + 1 =>
    let cost := (blockCycles a.afmt a.bfmt).getD 0
    let r := s.readLanes k (a.controlLanes kb) { got := [], bad := none }
    let s := r.1
    match r.2.bad with
    | some l => s.fatalAt k o.pc (32 * l)
    | none =>
      let (skip, map) := a.controls kb r.2.got
      if blockCosts skip map then
        let s := (s.pulse k 0x042 none 1).pulse k 0x044 none (64 - popCount a.mask.toNat)
        let p := s.bookPort k n (blockLanes a kb skip map)
        p.1.modCore k fun c => c.modOp i fun q => { q with
          kb := kb + 1, next := n + cost
          blocks := q.blocks ++ [{ kb := kb, skip := skip, map := map, reads := p.2, got := [], bad := none }] }
      else
        let last := decide (kb + 1 = a.kb)
        let s := (s.pulse k 0x043 none 1).modCore k fun c => c.shorten i cost (last && !ran)
        if last then s else s.nextBlock k n i o a ran (kb + 1) fuel

/-- The next K block of a started operation where it falls by cycle `n`. -/
def State.opBlock (k : CoreId) (n : Nat) (s : State) (i : Nat) : State :=
  match (s.core k).tensor[i]? with
  | some o =>
    (match o.act with
     | .mma a => if o.times.isSome && decide (o.kb < a.kb) && decide (o.next ≤ n) then
         s.nextBlock k n i o a (decide (0 < o.kb)) o.kb (a.kb - o.kb)
       else s
     | _ => s)
  | none => s

/-- The reads of one block whose turns have come by cycle `n`. -/
def State.blockReads (s : State) (k : CoreId) (n : Nat) (b : BlockRun) : State × BlockRun :=
  let due := (b.reads.filter fun p => decide (p.2 ≤ n)).map Prod.fst
  let p := s.readLanes k due { got := b.got, bad := b.bad }
  (p.1, { b with reads := b.reads.filter (fun q => decide (n < q.2)), got := p.2.got, bad := p.2.bad })

/-- The reads of all of an operation's blocks whose turns have come. -/
def State.allReads (s : State) (k : CoreId) (n : Nat) : List BlockRun → State × List BlockRun
  | [] => (s, [])
  | b :: bs =>
    let p := s.blockReads k n b
    let q := p.1.allReads k n bs
    (q.1, p.2 :: q.2)

/-- The oldest blocks of a `tmma` whose lanes have all been read enter the tile's sums (R91 to R94); the other blocks remain. One that
met an uncorrectable lane stops the core, with the lowest such lane of the block (R52, R76). -/
def State.applyBlocks (s : State) (k : CoreId) (o : TensorOp) (a : Tmma) : List BlockRun → State × List BlockRun
  | [] => (s, [])
  | b :: bs =>
    if b.reads ≠ [] then (s, b :: bs)
    else match b.bad with
      | some l => (s.fatalAt k o.pc (32 * l), [])
      | none =>
        let rd := gotNat b.got
        let s := s.pulse k 0x045 none (blockReserved rd a b.kb b.skip b.map)
        (s.modCore k fun c => { c with work := c.work.modify [] o.tile (blockStep rd a b.kb b.skip b.map) }).applyBlocks k o a bs

/-- Does an earlier operation of the unit still hold blocks of the same tile (R94)? -/
def Core.blocksAhead (c : Core) (i tile : Nat) : Bool := (c.tensor.take i).any fun q => decide (q.tile = tile) && !q.blocks.isEmpty

/-- The lanes an operation reads by cycle `n`, and the blocks that are then complete. -/
def State.opReads (k : CoreId) (n : Nat) (s : State) (i : Nat) : State :=
  match (s.core k).tensor[i]? with
  | some o =>
    if o.blocks = [] then s
    else
      let p := s.allReads k n o.blocks
      let s := p.1.modCore k fun c => c.modOp i fun q => { q with blocks := p.2 }
      (match o.act with
       | .mma a =>
         if (s.core k).blocksAhead i o.tile then s
         else
           let q := s.applyBlocks k o a p.2
           q.1.modCore k fun c => c.modOp i fun x => { x with blocks := q.2 }
       | _ => s)
  | none => s

/-- A lane of a tile store's image: FP32, or BF16 rounded to nearest even (R60, R95, R137). -/
def Core.storeLane (c : Core) (o : TensorOp) (lane : Nat) : List (Nat × Byte) :=
  let base := o.act.extent.1
  let first := 32 * lane - base
  placed (32 * lane) (match o.act with
    | .storeBf _ => (List.range 16).flatMap fun i => bytesOf 2 (toBf16 (f32 (c.tiles.get 0 (o.tile * 4096 + first / 2 + i))))
    | _ => (List.range 8).flatMap fun i => bytesOf 4 (c.tiles.get 0 (o.tile * 4096 + first / 4 + i)).toNat)

/-- The lanes a tile store writes by cycle `n`. -/
def State.opWrites (k : CoreId) (n : Nat) (s : State) (i : Nat) : State :=
  match (s.core k).tensor[i]? with
  | some o =>
    let due := o.writes.filter fun p => decide (p.2 ≤ n)
    if due = [] then s
    else
      let s := due.foldl (fun (s : State) p => s.putLane k p.1 ((s.core k).storeLane o p.1)) s
      s.modCore k fun c => c.modOp i fun q => { q with writes := q.writes.filter fun p => decide (n < p.2) }
  | none => s

/-- Places of the unit: one operation in it, one in its queue, and those whose pipelines still run. -/
def Core.opPlaces (c : Core) : List Nat := List.range c.tensor.length

/-- What the tensor unit and its port do in cycle `n`: K blocks begin, lanes are read and written in their turns, and a queued operation
takes a unit that has become free (R48, R60, R109). -/
def State.tensorTurns (s : State) (k : CoreId) (n : Nat) : State :=
  let s := (s.core k).opPlaces.foldl (State.opBlock k n) s
  let s := s.tensorStart k n
  let s := (s.core k).opPlaces.foldl (State.opBlock k n) s
  let s := (s.core k).opPlaces.foldl (State.opReads k n) s
  (s.core k).opPlaces.foldl (State.opWrites k n) s

/-! Results (R43, R60). -/

/-- The last cycle in which a lane waits for its turn: every turn is past. -/
def TensorOp.lastTurn (o : TensorOp) : Nat :=
  ((o.blocks.flatMap fun b => b.reads) ++ o.writes).foldl (fun m p => max m p.2) 0

/-- A started operation, at place `i`, writes its tile, and its busy bit clears; a captured one stays busy until its result has been
copied (R43, R478). -/
def State.finishOp (s : State) (k : CoreId) (i : Nat) (o : TensorOp) : State :=
  let s := State.opReads k (TensorOp.lastTurn o) s i
  let s := State.opWrites k (TensorOp.lastTurn o) s i
  match (s.core k).tensor[i]? with
  | none => s
  | some q =>
    let bad := match o.act with
      | .load _ => (q.blocks.filterMap BlockRun.bad).head?
      | _ => none
    match bad with
    | some l => s.fatalAt k o.pc (32 * l)
    | none =>
      let s := s.modCore k fun c => { c with
        tensor := c.tensor.eraseIdx i
        heldTile := if o.captured then some o.tile else c.heldTile
        tiles := match o.act with
          | .mma _ => c.putTile o.tile (c.work.get [] o.tile)
          | .load off => c.putTile o.tile (loadedTile (q.blocks.flatMap BlockRun.got) off)
          | .clear => c.putTile o.tile []
          | _ => c.tiles }
      if o.captured then { s with mod := { s.mod with witness := { s.mod.witness with
        sample := s.mod.witness.sample.map fun y => { y with ran := true } } } } else s

/-- Tiles due by cycle `n` are written, the oldest operation first; `fuel` bounds how many there are. -/
def State.tensorResults (k : CoreId) (n : Nat) : Nat → State → State
  | 0, s => s
  | fuel + 1, s =>
    match (s.core k).tensor.findIdx? fun o => (o.times.map fun t => decide (t.2 ≤ n)).getD false with
    | none => s
    | some i => match (s.core k).tensor[i]? with
      | none => s
      | some o => State.tensorResults k n fuel (s.finishOp k i o)

end Sys2Proof.Machine
end

