-- ==== Sys2Proof/Machine/Turns.lean ====
section
/-!
DEFINITION. What a core does in each of its cycles, and its way from one cycle to the next (R43 to R54, R60, R124, R154).
-/
namespace Sys2Proof.Machine
open Sys2Proof

/-! Units and the transactions they belong to. -/

/-- The answer of a request all of whose units are done (R172, R183): a counter it names rises before its ACK (R177). -/
def State.answerTxn (s : State) (e : Nat) (t : Txn) : State :=
  match t.failure with
  | some cause => s.refuse e t.pkt cause
  | none =>
    match t.pkt.op with
    | 1 => s.finish e t.pkt .readDone (t.pkt.dataAnswer (BitVec.ofNat 64 (t.got.readNat 0 t.pkt.size)))
    | 5 => s.finish e t.pkt .readDone (t.pkt.gdata (t.got.read 0 t.pkt.getBytes))
    | 3 => if t.pkt.fetches then s.finish e t.pkt (.fetched t.old) (t.pkt.dataAnswer t.old) else s.finish e t.pkt .written t.pkt.ack
    | _ => (if t.pkt.ken then s.increment t.pkt.kctx t.pkt.knum else s).finish e t.pkt .written t.pkt.ack

/-- A GET whose bytes have gone straight into the scratchpad of its own core. -/
def Txn.own (t : Txn) : Bool := t.straight && t.failure.isNone

/-- A request all of whose units are done is answered and forgotten. -/
def State.settleTxn (s : State) (e id : Nat) : State :=
  match (s.endp e).txns.find? fun t => decide (t.id = id) with
  | none => s
  | some t =>
    if t.left = 0 then
      let s := s.modEnd e fun d => { d with txns := d.txns.filter fun x => decide (x.id ≠ id) }
      if t.own then s else s.answerTxn e t
    else s

/-- A unit of a request at endpoint `e` is done: bytes it read, an old value, or a failure (R172, R175). -/
def State.unitDone (s : State) (e id : Nat) (pos : Nat) (bytes : List Byte) (old : Option Word) (failure : Option Nat) : State :=
  (s.modEnd e fun d => { d with txns := d.txns.map fun t =>
    if t.id = id then
      { t with
        left := t.left - 1, got := t.got.write pos bytes, old := old.getD t.old
        failure := if t.failure.isSome then t.failure else failure }
    else t }).settleTxn e id

/-- The packet of a request being performed. -/
def State.txnPkt (s : State) (e id : Nat) : Option Packet := ((s.endp e).txns.find? fun t => decide (t.id = id)).map (·.pkt)

/-! Bank turns. -/

/-- The oldest unit of a buffer whose bank is `b`. -/
def firstOfBank (b : Nat) (us : List PortUnit) : Option PortUnit := us.find? fun u => decide (spadBank (u.act.off / 32) = b)

/-- Is a GET of a core to its own vault still being read there (R324)? -/
def State.ownOpen (s : State) (ctx seq : Nat) : Bool :=
  (s.endp (ctx / 2048)).txns.any fun t => decide (t.pkt.srcCtx = ctx) && decide (t.pkt.seq = seq) && decide (t.pkt.op = 5) &&
    decide (t.by' = ctx / 2048) && decide (t.pkt.srcModule = s.moduleId)

/-- One unit of a GET's answer is written; after the last the packet has its response (R172). -/
def State.gotUnit (s : State) (ctx op seq dest : Nat) : State :=
  match s.flightOf ctx dest seq with
  | none => s
  | some (_, f) =>
    if f.writing = 1 && !s.ownOpen ctx seq then s.gotAll ctx op dest seq
    else s.modFlight ctx op dest seq (fun f => { f with writing := f.writing - 1 }) fun o => o

/-- Serve a unit of the inbound buffer in its bank's turn: a write, a doorbell store or an atomic (R48, R50, R190). A lane
that cannot be corrected takes no partial write, and the answer reports it (R52). -/
def State.inboundUnit (s : State) (k : CoreId) (u : PortUnit) : State :=
  let e := k.tower.val
  match u.act with
  | .write off bs =>
    let (s, ok) := s.writeLane k (off / 32) (placed off bs)
    (match u.owner with
     | .got ctx op seq dest => s.gotUnit ctx op seq dest
     | .put _ _ _ _ => s
     | .txn id =>
       let db := match s.txnPkt e id with
         | some p => p.db
         | none => false
       let s := if ok && db then s.ringDoorbells k off bs.length else s
       s.unitDone e id 0 [] none (if ok then none else some 0x14))
  | .atomic off =>
    (match u.owner with
     | .txn id =>
       (match s.txnPkt e id with
        | none => s
        | some p =>
          let n := atomicSize p.func
          match s.readLane k (off / 32) with
          | (s, some lane) =>
            let old := ofBytes ((lane.drop (off % 32)).take n)
            let s := s.patchLane k (off / 32) lane (placed off (bytesOf n (p.atomic old)))
            s.unitDone e id 0 [] (some (BitVec.ofNat 64 old)) none
          | (s, none) => (s.fatal k (32 * (off / 32))).unitDone e id 0 [] none (some 0x14))
     | _ => s)
  | .read _ _ _ => s

/-- Serve a read that leaves through the outbound port: the unit then waits for an up turn. An uncorrectable lane stops the core and sends
no data: a request is answered with 0x14, and a PUT of the core itself does not leave (R52, R324). -/
def State.outboundUnit (s : State) (k : CoreId) (u : PortUnit) : State :=
  match u.act with
  | .read off n pos =>
    (match s.spadTry k off n with
     | (s, .ok bs) => s.modCore k fun c => { c with up := c.up ++ [(u, bs)] }
     | (s, .error l) =>
       let s := s.fatal k (32 * l)
       (match u.owner with
        | .txn id => s.unitDone k.tower.val id pos [] none (some 0x14)
        | _ => s))
  | _ => s

/-- One bank in core cycle `n`: the rotation gives its turn to one port (R48). -/
def State.bankTurn (k : CoreId) (n : Nat) (s : State) (b : Nat) : State :=
  if (b + n) % 8 = 6 then
    match firstOfBank b (s.core k).inbound with
    | none => s
    | some u => (s.modCore k fun c => { c with inbound := c.inbound.erase u }).inboundUnit k u
  else if (b + n) % 8 = 7 then
    match firstOfBank b (s.core k).outbound with
    | none => s
    | some u => (s.modCore k fun c => { c with outbound := c.outbound.erase u }).outboundUnit k u
  else s

/-! Bond FIFOs (R324, R350). -/

/-- Bytes of a core's own GET from its vault, as the unit that its inbound port writes into the scratchpad (R48, R172, R324). -/
def State.ownUnit (s : State) (e id pos : Nat) (bytes : List Byte) : Option PortUnit :=
  match (s.endp e).txns.find? fun t => decide (t.id = id) with
  | none => none
  | some t =>
    if t.straight then
      let p := t.pkt
      let dest := s.moduleId * 32 + e
      (s.flightOf p.srcCtx dest p.seq).map fun f => ⟨.got p.srcCtx f.1.id p.seq dest, .write (p.operand.toNat % 2 ^ 20 + pos) bytes⟩
    else none

/-- One more unit of a GET's answer is on its way into the scratchpad. -/
def State.startOwn (s : State) (u : PortUnit) : State :=
  match u.owner with
  | .got ctx op seq dest => s.modFlight ctx op dest seq (fun f => { f with writing := f.writing + 1 }) fun o => o
  | _ => s
/-- What leaves a down FIFO: a delivery enters the inbound buffer, a read of the own vault is answered. -/
def State.takeDown (s : State) (k : CoreId) : DownUnit → State
  | .unit u => s.modCore k fun c => { c with inbound := c.inbound ++ [u] }
  | .data id pos bytes old =>
    match s.ownUnit k.tower.val id pos bytes with
    | some u => ((s.startOwn u).modCore k fun c => { c with inbound := c.inbound ++ [u] }).unitDone k.tower.val id 0 [] none none
    | none => s.unitDone k.tower.val id pos bytes old none

/-- The core drains its down FIFOs at its inbound port's rate: up to `n` units of 32 bytes, while its inbound buffer has room (R48, R350). -/
def State.drainBonds (k : CoreId) : Nat → State → State
  | 0, s => s
  | n + 1, s =>
    match (s.core k).bond with
    | [] => s
    | (_, u) :: rest =>
      if 64 ≤ (s.core k).inbound.length then s
      else State.drainBonds k n ((s.modCore k fun c => { c with bond := rest }).takeDown k u)

/-! One core cycle. -/

/-- The turns of cycle `n`: the bond FIFOs, the tensor port, the local port, and the inbound and outbound ports (R48). Within a cycle the model lets
them come before the instruction that issues in it, as R40 has a doorbell store do (assumption 119). -/
def State.begin (s : State) (k : CoreId) (n : Nat) : State :=
  let s := State.drainBonds k 2 (s.modCore k fun c => { c with served := n + 1 })
  let s := (s.tensorTurns k n).localTurns k n
  banks.foldl (State.bankTurn k n) s

/-- The end of cycle `n`: an operation issued in it takes a free tensor unit, and the results due in it are written, the busy and pending
bits cleared and the waits that end with them ended (R43, R44, R60). -/
def State.finishCycle (s : State) (k : CoreId) (n : Nat) : State :=
  let s := s.tensorTurns k n
  let s := State.longResults k n (s.core k).longOps.length s
  let s := State.tensorResults k n (s.core k).tensor.length s
  s.wakeLocal k

/-- The turns of the present cycle, if it has not had them. -/
def State.begun (s : State) (k : CoreId) : State :=
  let n := (s.core k).cycle
  if (s.core k).served ≤ n then s.begin k n else s

/-- From one core cycle to the next. -/
def State.tick (s : State) (k : CoreId) : State :=
  let s := s.begun k
  let n := (s.core k).cycle
  ((s.finishCycle k n).passCycles k (n + 1)).begin k (n + 1)

/-- Nothing of the core waits for a cycle to come. -/
def Core.quiet (c : Core) : Bool :=
  c.longOps.isEmpty && c.stores.isEmpty && c.tensor.isEmpty && c.inbound.isEmpty && c.outbound.isEmpty && c.bond.isEmpty && c.writebacks.isEmpty &&
  threadNos.all fun t => match (c.th t).st, (c.th t).wait with
    | .waitLocal, .ylocal _ => false
    | _, _ => true

/-- The next `d` core cycles. A quiet core has nothing to do in them. -/
def State.runCycles (k : CoreId) : Nat → State → State
  | 0, s => s
  | d + 1, s =>
    if (s.core k).quiet then
      let n := (s.core k).cycle + d + 1
      (s.passCycles k n).modCore k fun c => { c with served := n + 1 }
    else State.runCycles k d (s.tick k)

/-- The core comes to cycle `n`: everything that falls in the cycles before it has been done, and the turns of `n` themselves. The clock
of an absent core, or of one in row sleep or tower deep, stands (R67, R154). -/
def State.toCycle (s : State) (k : CoreId) (n : Nat) : State :=
  if s.absent k || s.coreAsleep k then s
  else
    let s := s.begun k
    State.runCycles k (n - (s.core k).cycle) s

/-- The cycle in which the core issues next. -/
def Core.issueCycle (c : Core) : Nat := max c.cycle c.nextIssue

/-- The RUNNING thread of an awake core comes to its issue cycle. For any other thread nothing passes. -/
def State.arrive (s : State) (c : Ctx) : State :=
  let k := s.core c.coreId
  if decide ((s.th c).st = .running) && decide (k.sleep = .awake) && !k.inReset then s.toCycle c.coreId k.issueCycle else s

end Sys2Proof.Machine
end

