-- ==== Sys2Proof/Machine/Issue.lean ====
section
/-!
DEFINITION. The issue of an instruction (R35 to R46, R66, R72, R119): what holds it in place, the fault it raises, and the cycle it takes.
-/
namespace Sys2Proof.Machine
open Sys2Proof

/-- What an instruction needs before it issues. -/
structure Needs where
  /-- Scalar registers its checks read (R43). -/
  early : List Dep
  /-- The first fault of R119, with the address R76 gives. -/
  fault : Option (Nat × Word)
  /-- Registers it reads or writes. -/
  deps : List Dep
  /-- A tile it names is busy, or the tensor queue is full. -/
  hold : Bool
  /-- The first cycle its unit is free (R46). -/
  free : Nat
  deriving DecidableEq, Repr

/-- An instruction that needs only registers. -/
def needs (deps : List Dep) : Needs := { early := [], fault := none, deps := deps, hold := false, free := 0 }

/-- May the thread issue, but for a stop: it is RUNNING, no deferred fault is due, and its core is awake (R35, R67, R145). -/
def State.issues (s : State) (c : Ctx) : Bool :=
  decide ((s.th c).st = .running) && !(s.th c).fenceDue && decide ((s.core c.coreId).sleep = .awake) &&
  !s.coreAsleep c.coreId && !(s.core c.coreId).inReset

/-- May the thread issue, with no stop waiting for it (R36)? -/
def State.canIssue (s : State) (c : Ctx) : Bool := s.issues c && !(s.th c).stopReq

/-- A cycle in which the RUNNING thread stalls in place and the core issues nothing (R43). -/
def State.stall (s : State) (c : Ctx) : State :=
  s.modCore c.coreId fun k => { k with cycle := k.issueCycle, nextIssue := k.issueCycle + 1, stalled := some c.thread.val }

/-- The core's present cycle is the issue cycle, and the next issue comes one cycle later. -/
def State.takeCycle (s : State) (c : Ctx) : State :=
  s.modCore c.coreId fun k => { k with cycle := k.issueCycle, nextIssue := k.issueCycle + 1 }

/-- An issued instruction: counted, and kept for a sample that is armed (R503, R504). -/
def State.noteIssue (s : State) (c : Ctx) : State :=
  let pc := (s.th c).pc.toNat
  (s.pulse c.coreId 0x002 (some c.thread.val) 1).modCore c.coreId fun k => { k with
    lastIssue := s.now
    pmcWindow := counterNos.foldl (fun w n =>
      if k.pmcArmed.get false n && decide ((w.get [] n).length < 24) then w.set [] n (w.get [] n ++ [(c.thread.val, pc)]) else w)
      k.pmcWindow }

/-- A stop from outside takes effect at the thread's issue boundary: it gives up the core as if it had issued `stop` (R36, R72). -/
def State.takeStop (s : State) (c : Ctx) : State :=
  ((s.takeCycle c).modTh c fun t => { t with stopReq := false }).giveUp c .stopped

/-- Issue an instruction whose needs are `n` and whose effect is `body`, in a state that stands at the issue cycle: nothing while the
thread may not issue; a stall in place while something it needs is pending; its fault as soon as its checks are made (R43, R119). A stop
that waits takes effect in place of the issue, unless the instruction raises a fault: the fault is then taken (R66, R72). -/
def State.issue (s : State) (c : Ctx) (n : Needs) (body : State → State) : State :=
  if s.issues c then
    match s.fetch c.coreId (s.th c).pc with
    | (s, none) => s
    | (s, some _) =>
      let k := s.core c.coreId
      if n.early.any (k.isPending c.thread) then (if (s.th c).stopReq then s.takeStop c else s.stall c)
      else match n.fault with
        | some (cause, addr) => (s.takeCycle c).raise c cause addr (s.th c).pc false
        | none =>
          if (s.th c).stopReq then s.takeStop c
          else if n.deps.any (k.isPending c.thread) || n.hold || decide (k.issueCycle < n.free) then s.stall c
          else body ((s.noteIssue c).takeCycle c)
  else s

/-- Issue an instruction that does not branch: its effect, then the next index (R114). -/
def State.issueSeq (s : State) (c : Ctx) (n : Needs) (body : State → State) : State :=
  s.issue c n fun s => (body s).modTh c Thread.step

end Sys2Proof.Machine
end

