-- ==== Sys2Proof/Machine/Spad.lean ====
section
/-!
DEFINITION. The events of the scratchpad: its turns, its write-backs and its scrub; and nap (R48 to R54, R67, R68).
-/
namespace Sys2Proof.Machine
open Sys2Proof

/-- The first unused local turn of a bank that the core has not served yet (R52). -/
def Core.nextUnused (c : Core) (bank : Nat) : Nat := c.unusedTurn bank (max c.cycle c.served)

/-- A pending write-back is performed in the first unused local turn of its bank (R52). -/
def execCorrectedLaneWriteback (k : CoreId) (bank : Fin 16) (s : State) : Host.Outcome State Fault Refusal :=
  if (s.core k).writebacks.get 0 bank.val = 0 then .next s else .next (s.toCycle k ((s.core k).nextUnused bank.val))

/-- Idle or napping, and neither asleep nor in reset: the state in which the patrol scrub runs (R54). -/
def State.scrubRuns (s : State) (k : CoreId) : Bool :=
  (s.core k).idle && !s.absent k && !s.coreAsleep k && !(s.core k).inReset && !(s.core k).disabled &&
  (match (s.core k).sleep with
   | .waking _ => false
   | _ => true)

/-- The turn in which the scrub reads: the first unused one of the bank, or the one after it where a write-back takes that (R52, R54). -/
def Core.scrubTurn (c : Core) (bank : Nat) : Nat :=
  let t := c.nextUnused bank
  if c.writebacks.get 0 bank = 0 then t else localTurn bank (t + 1)

/-- While SPAD_EN is 1 the patrol scrub reads the next lane of its pass in an unused local turn, unless a thread becomes READY before (R54,
R525, R527). -/
def execSpadPatrolScrub (k : CoreId) (s : State) : Host.Outcome State Fault Refusal :=
  if (s.core k).scrubLeft = 0 ∨ !bitOf (s.reg 0x10090) 2 ∨ !s.scrubRuns k then .next s
  else
    let bank := spadBank (s.core k).scrubLane
    let t := (s.core k).scrubTurn bank
    let s := s.toCycle k t
    if !s.scrubRuns k then .next s
    else
      let lane := (s.core k).scrubLane
      let s := s.modCore k fun c => { c with
        bankFree := c.bankFree.set 0 bank (t + 1), scrubLane := (c.scrubLane + 1) % 32768, scrubLeft := c.scrubLeft - 1 }
      match s.readLane k lane with
      | (s, some _) => .next s
      | (s, none) => .next (s.fatal k (32 * lane))

/-- One core cycle: the turns of every bank (R48). The clock of a core asleep stands (R67, R154). -/
def execScratchpadBankTurn (k : CoreId) (s : State) : Host.Outcome State Fault Refusal :=
  .next (s.toCycle k (max (s.core k).cycle (s.core k).served))

/-! Nap (R67, R68). -/

/-- Idle time before nap, in ns (R72). -/
def State.napDelay (s : State) (k : CoreId) : Nat :=
  let d := s.field (coreBlock k + 8) 25 16
  1000 * (if d = 0 then 1 else d)

/-- An awake core that has been idle for NAP_DELAY enters nap, with NAP_EN = 1; a thread that has become READY keeps it
awake (R68). -/
def execCoreNapEnter (k : CoreId) (s : State) : Host.Outcome State Fault Refusal :=
  let c := s.core k
  if c.sleep = .awake ∧ c.idle ∧ bitOf (s.reg (coreBlock k + 8)) 8 ∧ !s.coreAsleep k ∧ !s.absent k ∧ !c.inReset then
    .next ((s.reach (c.idleSince + s.napDelay k)).modCore k fun c => { c with sleep := .nap })
  else .next s

/-- 2 µs after its wake started the issue logic runs, and the first READY thread of the rotation issues (R68). -/
def execCoreNapWakeDone (k : CoreId) (s : State) : Host.Outcome State Fault Refusal :=
  match (s.core k).sleep with
  | .waking t => .next (((s.reach t).modCore k fun c => { c with sleep := .awake }).choose k)
  | _ => .next s

end Sys2Proof.Machine
end

