-- ==== Sys2Proof/Machine/Lpddr.lean ====
section
/-!
DEFINITION. The memory ports (R310 to R321, R335 to R339, and R190 to R193 for atomics): acceptance, channel slots, combining.
-/
namespace Sys2Proof.Machine
open Sys2Proof

/-! Units, marks and corrections (R306, R307, R313, R314). -/

def memChReg (c : Nat) : Nat := endBlock (8 + c / 36) + 0x100 + 8 * (c % 36)

/-- The marked pin of a channel (R338). -/
def State.markedPin (s : State) (c : Nat) : Option Nat :=
  let w := s.reg (memChReg c)
  if bitOf w 52 then some (w.field 51 48) else none

/-- The erasures of unit `i` of a line when pin `p` is marked (R313). -/
def pinErasures (p i : Nat) : List Nat :=
  [p, p + 16] ++ (if i = p / 2 then [32 + p % 2] else []) ++ (if i = (p / 2 + 7) % 8 then [34 + p % 2] else [])

/-- The pin a symbol of unit `i` lies on (R313). -/
def symbolPin (i sym : Nat) : Nat := if sym < 32 then sym % 16 else (2 * i + (sym - 32)) % 16

def State.unitMarks (s : State) (c unit : Nat) : List Nat :=
  match s.markedPin c with
  | none => []
  | some p => pinErasures p (unit % 8)

/-- Cannot the unit be decoded as it stands? -/
def State.unitBad (s : State) (c unit : Nat) : Bool :=
  match errorsOf s.lpddrErr unit with
  | [] => false
  | bad => (readWord (s.lpddr.read (32 * unit) 32) bad (s.unitMarks c unit)).2.isNone

/-- The bytes of a unit as its decoder delivers them; a codeword in a cell of R307 marked "Undefined" gives what that decoder makes of it. -/
def State.unitBytes (s : State) (c unit : Nat) : List Byte :=
  let data := s.lpddr.read (32 * unit) 32
  match errorsOf s.lpddrErr unit with
  | [] => data
  | bad => (readWord data bad (s.unitMarks c unit)).2.getD data

/-- Does a decoder make something of the unit that no rule fixes: an "Undefined" cell of R307 that delivers bytes? -/
def State.unitOpen (s : State) (c unit : Nat) : Bool :=
  match errorsOf s.lpddrErr unit with
  | [] => false
  | bad => decide ((readWord (s.lpddr.read (32 * unit) 32) bad (s.unitMarks c unit)).1 = .undefined)

/-- Units that hold bytes `off` to `off + n - 1`. -/
def unitsAt (off n : Nat) : List Nat := (List.range ((off + n + 31) / 32 - off / 32)).map (· + off / 32)

/-- A counter of a channel (R510). -/
def State.chCount (s : State) (c k n : Nat) : State :=
  s.countWrap (endBlock (8 + c / 36) + 0x8000 + 64 * (c % 36) + 8 * k) 63 0 n

/-- The errors of some units vanish: they have been written anew. -/
def State.healUnits (s : State) (us : List Nat) : State :=
  { s with lpddrErr := Tab.drop (fun k => us.contains (k / 36)) s.lpddrErr }

/-- A partial write decodes its unit, merges, and encodes it anew (R318): what an "Undefined" cell of R307 delivered is then what the unit
holds. -/
def State.mergeUnit (s : State) (c unit : Nat) : State :=
  if s.unitOpen c unit then { s with lpddr := s.lpddr.write (32 * unit) (s.unitBytes c unit) }.healUnits [unit] else s

/-- Bytes of the hashed region, from one channel's line, as its decoder delivers them. -/
def State.rawBytes (s : State) (c off n : Nat) : List Byte :=
  let odd := (unitsAt off n).any fun u => s.unitOpen c u
  if odd then ((unitsAt off n).flatMap (s.unitBytes c)).drop (off % 32) |>.take n else s.lpddr.read off n

/-! Combining entries (R191, R192, R321). -/

/-- The value of a word with the atomics that wait in an entry applied in order, and the answers they receive. -/
def applyWaiting (v : Nat) (ws : List Waiting) : Nat × List (Waiting × Nat) :=
  ws.foldl (fun (acc : Nat × List (Waiting × Nat)) w =>
    let n := atomicSize w.pkt.func
    let sh := 8 * (gaOffset w.pkt.addr % 8)
    let old := acc.1 / 2 ^ sh % 2 ^ (8 * n)
    (acc.1 - old * 2 ^ sh + w.pkt.atomic old * 2 ^ sh, acc.2 ++ [(w, old)])) (v, [])

/-- The value of an entry, given what its word holds before it. -/
def Combine.result (x : Combine) (before : Nat) : Nat :=
  (applyWaiting (if x.fetched then x.value.toNat else before) x.waiting).1

/-- The newest value of a word: what memory holds, with every open or queued entry of the word applied in order (R191, R319). -/
def State.wordValue (s : State) (e word : Nat) : Nat :=
  ((s.endp e).combine.filter fun x => decide (x.word = word)).foldl (fun v x => x.result v)
    (ofBytes (s.rawBytes (hashChannel (8 * word)) (8 * word) 8))

/-- Bytes of the hashed region as the port answers them: the newest accepted data (R319). -/
def State.hashedBytes (s : State) (off n : Nat) : List Byte :=
  let e := hashPort off
  if (s.endp e).combine = [] then s.rawBytes (hashChannel off) off n
  else (List.range n).map fun i =>
    let a := off + i
    BitVec.ofNat 8 (s.wordValue e (a / 8) / 2 ^ (8 * (a % 8)))

/-- Answer an atomic that has been applied (R172, R191). -/
def State.answerAtomic (s : State) (e : Nat) (w : Waiting) (old : Nat) : State :=
  let o : Word := BitVec.ofNat 64 old
  if w.pkt.fetches then s.finish e w.pkt (.fetched o) (w.pkt.dataAnswer o)
  else if w.acked then s else s.finish e w.pkt .written w.pkt.ack

/-- Queued requests of a channel that `p` names leave their queues. -/
def State.dropRequests (s : State) (c : Nat) (p : ChanReq → Bool) : State :=
  s.modChan c fun ch => { ch with queues := Tab.mapKeys [] (fun _ => true) (fun q => q.filter fun r => !p r) ch.queues }

/-- A combining entry ends with nothing written: the atomics that wait in it unanswered are refused (R318). -/
def State.failEntry (s : State) (e : Nat) (x : Combine) : State :=
  let s := s.modEnd e fun d => { d with combine := d.combine.erase x }
  x.waiting.foldl (fun s w => if w.acked then s else s.refuse e w.pkt 0x14) s

/-! Failure and marks of a channel (R314). -/

/-- A channel access of an engine fails (R486, R517). -/
def State.engineFails (s : State) : EngineAct → State
  | .save _ _ _ => { s with mod := { s.mod with ckpt := { s.mod.ckpt with bad := true } } }
  | .record _ _ => { s with mod := { s.mod with engine := { s.mod.engine with bad := true } } }

/-- A channel becomes failed: what waits in it is refused with cause 0x14, and engines that use it are told (R314, R460). -/
def State.failChannel (s : State) (c : Nat) : State :=
  let x := s.chan c
  if x.st = .failed then s
  else
    let e := 8 + c / 36
    let s := (s.modChan c fun x => { x with st := .failed, queues := [], work := [] }).event 0x1C c true
    let s := (x.queues.flatMap fun q => q.2.filterMap ChanReq.txn).foldl (fun s id => s.unitDone e id 0 [] none (some 0x14)) s
    let s := ((s.endp e).combine.filter fun y => decide (hashChannel (8 * y.word) = c)).foldl (fun s y => s.failEntry e y) s
    x.work.foldl (fun s w => s.engineFails w.act) s

/-- Corrections of a line note their pins; 16 lines in one second mark the pin, or with a mark in force fail the channel
(R314). -/
def State.notePin (s : State) (c line pin : Nat) : State :=
  let sec := s.now / 1000000000
  let s := s.modChan c fun x => if x.secondStart = sec then x else { x with secondStart := sec, pinLines := [], pinCounts := [] }
  let s := s.modChan c fun x => { x with pinCounts := x.pinCounts.modify 0 pin (· + 1) }
  let seen := (s.chan c).pinLines.get [] pin
  if seen.contains line then s
  else
    let s := s.modChan c fun x => { x with pinLines := x.pinLines.set [] pin (line :: seen) }
    if 16 ≤ seen.length + 1 then
      match s.markedPin c with
      | none => (((s.setKept (memChReg c) 52 52 1).setKept (memChReg c) 51 48 pin).modChan c fun x => { x with st := .marked })
      | some p => if p = pin then s else s.failChannel c
    else s

/-- Decode one unit in its slot: corrections, erasures and undecodable units are counted (R338, R510). -/
def State.decodeUnit (s : State) (c unit : Nat) : State :=
  let bad := errorsOf s.lpddrErr unit
  let marks := s.unitMarks c unit
  let s := s.chCount c 5 marks.length
  match bad with
  | [] => s
  | _ =>
    match readWord (s.lpddr.read (32 * unit) 32) bad marks with
    | (.corrected, some _) =>
      let fixed := bad.filter fun b => !marks.contains b.1
      fixed.foldl (fun s b => s.notePin c (unit / 8) (symbolPin (unit % 8) b.1)) (s.chCount c 4 fixed.length)
    | (_, some _) => s
    | (_, none) => s.count (memChReg c) 31 16 1

/-- An open entry that a plain store or a non-combinable atomic meets writes its value first and closes (R192). -/
def State.closeEntries (s : State) (e word : Nat) : State :=
  let xs := (s.endp e).combine.filter fun x => decide (x.word = word)
  if xs = [] then s
  else
    let v := s.wordValue e word
    let s := xs.foldl (fun (acc : State × Nat) x =>
      let (v', as') := applyWaiting (if x.fetched then x.value.toNat else acc.2) x.waiting
      (as'.foldl (fun s a => s.answerAtomic e a.1 a.2) acc.1, v')) (s, ofBytes (s.rawBytes (hashChannel (8 * word)) (8 * word) 8)) |>.1
    let s := s.mergeUnit (hashChannel (8 * word)) (word / 4)
    let s := { s with lpddr := s.lpddr.write (8 * word) (bytesOf 8 v) }.modEnd e fun d =>
      { d with combine := d.combine.filter fun x => decide (x.word ≠ word) }
    s.dropRequests (hashChannel (8 * word)) fun r => decide (r.act = .combineWrite word)

/-! Acceptance at a memory port (R173, R193, R318, R319). -/

/-- Does a request write bytes of a unit? -/
def ChanAct.writes (a : ChanAct) (u : Nat) : Bool :=
  match a with
  | .write off n => (unitsAt off n).contains u
  | .combineWrite w => decide (w / 4 = u)
  | .atomic off => decide (off / 32 = u)
  | _ => false

/-- A request joins its owner's queue; a write drops the scrub's write-back of its units (R319, R335). -/
def State.join (s : State) (c owner : Nat) (r : ChanReq) : State :=
  s.modChan c fun x => { x with
    queues := x.queues.set [] owner (x.queues.get [] owner ++ [r]), scrubFix := x.scrubFix.filter fun u => !r.act.writes u }

/-- Is the owner's queue full, or room in it promised to a combining write (R319, R321)? -/
def State.queueFull (s : State) (e c owner : Nat) : Bool :=
  decide (8 ≤ (s.ownerQueue c owner).length) ||
  (s.endp e).combine.any fun x => x.outside && decide (x.owner = owner) && decide (hashChannel (8 * x.word) = c)

/-- Open a transaction at an endpoint. -/
def State.openTxn (s : State) (e : Nat) (t : Transit) (units : Nat) (straight : Bool := false) : State × Nat :=
  let id := (s.endp e).nextTxn
  (s.modEnd e fun d => { d with
    nextTxn := id + 1
    txns := d.txns ++ [{ id := id, pkt := t.pkt, by' := t.by', left := units, got := [], old := 0, failure := none, straight := straight }] }, id)

/-- The offset of a request in the hashed region. -/
def hashedOff (p : Packet) : Nat := gaOffset p.addr % 2 ^ 41

/-- A plain write is accepted: memory holds it from now on for every reader, it is acknowledged, and a slot of its owner will
perform it. A partial write of a unit that cannot be decoded writes nothing (R173, R318, R319). -/
def State.acceptWrite (s : State) (e : Nat) (t : Transit) (bytes : List Byte) : State :=
  let off := hashedOff t.pkt
  let c := hashChannel off
  let whole := (unitsAt off bytes.length).filter fun u => decide (off ≤ 32 * u) && decide (32 * u + 32 ≤ off + bytes.length)
  let part := (unitsAt off bytes.length).filter fun u => !whole.contains u
  if part.any (s.unitBad c) then ((part.foldl (fun s u => s.decodeUnit c u) s).refuse e t.pkt 0x14)
  else
    let words := (List.range ((off + bytes.length + 7) / 8 - off / 8)).map (· + off / 8)
    let s := part.foldl (fun s u => s.mergeUnit c u) (words.foldl (fun s w => s.closeEntries e w) s)
    let s := ({ s with lpddr := s.lpddr.write off bytes }.healUnits whole).join c (ownerOf t.pkt t.by')
      ⟨.write off bytes.length, s.now, none⟩
    s.finish e t.pkt .written t.pkt.ack

/-- A read joins its owner's queue and is answered in its slot (R318, R319). -/
def State.acceptRead (s : State) (e : Nat) (t : Transit) (n : Nat) : State :=
  let off := hashedOff t.pkt
  let (s, id) := s.openTxn e t 1
  s.join (hashChannel off) (ownerOf t.pkt t.by') ⟨.read off n, s.now, some id⟩

/-- An atomic performed alone: its word's newest value decides it now, in the order of arrival, and its slot answers it
(R190 to R192). -/
def State.acceptAlone (s : State) (e : Nat) (t : Transit) : State :=
  let off := hashedOff t.pkt
  let c := hashChannel off
  let n := atomicSize t.pkt.func
  if s.unitBad c (off / 32) then (s.decodeUnit c (off / 32)).refuse e t.pkt 0x14
  else
    let s := (s.closeEntries e (off / 8)).mergeUnit c (off / 32)
    let old := s.lpddr.readNat off n
    let (s, id) := s.openTxn e t 1
    let s := s.modEnd e fun d => { d with txns := d.txns.map fun x => if x.id = id then { x with old := BitVec.ofNat 64 old } else x }
    { s with lpddr := s.lpddr.write off (bytesOf n (t.pkt.atomic old)) }.join c (ownerOf t.pkt t.by') ⟨.atomic off, s.now, some id⟩

/-- COMBINE_HIGH follows the entries open (R337). -/
def State.noteCombine (s : State) (e : Nat) : State :=
  if s.field (endBlock e) 15 8 < (s.endp e).combine.length then s.setField (endBlock e) 15 8 (min 64 (s.endp e).combine.length) else s

/-- An atomic arrives at its memory port (R190 to R192, R321): it is merged into an open entry, opens one, or is performed
alone. -/
def State.acceptAtomic (s : State) (e : Nat) (t : Transit) : State :=
  let off := hashedOff t.pkt
  let c := hashChannel off
  let word := off / 8
  let own := ownerOf t.pkt t.by'
  let ws := (s.endp e).combine
  let acked := !t.pkt.fetches
  if !combinable t.pkt.func then s.acceptAlone e t
  else match ws.find? fun x => decide (x.word = word) && !x.closing && decide (s.now < x.opened + 100) with
    | some x =>
      let w : Waiting := ⟨t.pkt, t.by', acked⟩
      if x.ready then
        let (v, as') := applyWaiting x.value.toNat [⟨t.pkt, t.by', false⟩]
        let s := s.modEnd e fun d => { d with combine := d.combine.map fun y => if y = x then { y with value := BitVec.ofNat 64 v } else y }
        as'.foldl (fun s a => s.answerAtomic e a.1 a.2) s
      else
        let s := s.modEnd e fun d => { d with combine := d.combine.map fun y => if y = x then { y with waiting := y.waiting ++ [w] } else y }
        if acked then s.finish e t.pkt .written t.pkt.ack else s
    | none =>
      if 64 ≤ ws.length then (s.endEvent e 10 1).acceptAlone e t
      else
        let behind := ws.any fun x => decide (x.word = word)
        let x : Combine := { word := word, opened := s.now, owner := own, fetched := false, ready := false, value := 0,
                             waiting := [⟨t.pkt, t.by', false⟩], closing := false, outside := false }
        let s := (s.modEnd e fun d => { d with combine := d.combine ++ [x] }).noteCombine e
        if behind then s else s.join c own ⟨.opening word, s.now, none⟩

/-- At a + 100 ns an entry merges nothing more, and its write joins the opener's queue, or waits for room outside it (R321). -/
def execCombineEntryWrite (m : Fin 8) (word : Nat) (s : State) : Host.Outcome State Fault Refusal :=
  let e := 8 + m.val
  let c := hashChannel (8 * word)
  match (s.endp e).combine.find? fun x => decide (x.word = word) && (!x.closing || x.outside) with
  | none => .next s
  | some x =>
    let s := s.reach (x.opened + 100)
    let full := decide (8 ≤ (s.ownerQueue c x.owner).length)
    let s := s.modEnd e fun d => { d with combine := d.combine.map fun y => if y = x then { y with closing := true, outside := full } else y }
    if full then .next s else .next (s.join c x.owner ⟨.combineWrite word, s.now, none⟩)

/-- What waited in an entry is applied in order to its starting value and answered (R191, R321). -/
def State.startEntry (s : State) (e : Nat) (x : Combine) : State :=
  let p := applyWaiting x.value.toNat x.waiting
  let s := s.modEnd e fun d => { d with combine := d.combine.map fun y =>
    if y = x then { y with value := BitVec.ofNat 64 p.1, ready := true, waiting := [] } else y }
  p.2.foldl (fun s a => s.answerAtomic e a.1 a.2) s

/-- The starting value of an entry has arrived: what waited is applied in order and answered (R191, R321). An undecodable word
fails what waited (R318). -/
def execCombineOpenReadDone (m : Fin 8) (word : Nat) (s : State) : Host.Outcome State Fault Refusal :=
  let e := 8 + m.val
  let c := hashChannel (8 * word)
  match (s.endp e).combine.find? fun x => decide (x.word = word) && x.fetched && !x.ready with
  | none => .next s
  | some x =>
    if s.unitBad c (word / 4) then .next ((s.dropRequests c fun r => decide (r.act = .combineWrite word)).failEntry e x)
    else .next (s.startEntry e x)

/-! Channel slots (R317, R318, R510). -/

/-- The bursts of a channel that an access touches (R312, R318). -/
def burstsOf (off n : Nat) (line : Bool) : List Nat :=
  let slot := (hashLine off).2.2
  if line then (List.range 9).map (· + 9 * slot)
  else ((unitsAt off n).map fun u => 9 * slot + u % 8) ++ [9 * slot + 8]

/-- Bank (rank x 16 + bank) and row of a burst (R312). -/
def burstBank (b : Nat) : Nat := b / 64 % 32
def burstRow (b : Nat) : Nat := b / 2048

/-- Row hits and the rows left open by a slot's bursts (R510). -/
def State.touchRows (s : State) (c : Nat) (bs : List Nat) : State :=
  let rows := (s.chan c).openRows
  let hit := bs.all fun b => decide (rows.get 0 (burstBank b) = burstRow b + 1)
  let s := if hit then s.chCount c 3 1 else s
  s.modChan c fun x => { x with openRows := bs.foldl (fun r b => r.set 0 (burstBank b) (burstRow b + 1)) x.openRows }

/-- The oldest request of a slot's owner that had joined when the slot began; a tower with no slot in one class is served from
both its queues (R216, R319). -/
def State.slotRequest (s : State) (c owner t : Nat) : Option (Nat × ChanReq) :=
  let pick := fun (o : Nat) => match s.ownerQueue c o with
    | r :: _ => if r.joined ≤ t then some (o, r) else none
    | [] => none
  let other := if owner < 8 then owner + 0x20 else owner - 0x20
  let tower := decide (owner < 8) || (decide (0x20 ≤ owner) && decide (owner < 0x28))
  let shared := tower && !((List.range 64).any fun i => decide (s.slotOwner c i = other))
  if shared then
    match pick owner, pick other with
    | some a, some b => if b.2.joined < a.2.joined then some b else some a
    | some a, none => some a
    | none, b => b
  else pick owner

/-- The entry of a word whose write is due. -/
def State.closingEntry (s : State) (e word : Nat) : Option Combine := (s.endp e).combine.find? fun x => decide (x.word = word) && x.closing

/-- The write of a combining entry, once its starting value is there: what still waits is applied first, and a new entry of the word takes
the value. Where its unit cannot be decoded nothing is written (R191, R318, R321). -/
def State.writeEntry (s : State) (e c word : Nat) : State :=
  match s.closingEntry e word with
  | none => s
  | some x =>
    if s.unitBad c (word / 4) then s.failEntry e x
    else
      let s := if x.ready then s else s.startEntry e x
      match s.closingEntry e word with
      | none => s
      | some x =>
        let s := (s.mergeUnit c (word / 4)).healUnits [word / 4]
        let s := { s with lpddr := s.lpddr.write (8 * word) (bytesOf 8 x.value.toNat) }
        let next := (s.endp e).combine.find? fun y => decide (y.word = word) && decide (y ≠ x) && !y.fetched
        let give := fun (y : Combine) => if some y = next then { y with fetched := true, value := x.value } else y
        s.modEnd e fun d => { d with combine := (d.combine.erase x).map give }

/-- May a request be performed in its slot? The write of an entry whose starting value has not arrived leaves the slot idle and keeps its
place (assumption 126). -/
def State.mayPerform (s : State) (e : Nat) (r : ChanReq) : Bool :=
  match r.act with
  | .combineWrite word => ((s.closingEntry e word).map fun x => x.fetched).getD true
  | _ => true

/-- Perform a request in its slot. -/
def State.performSlot (s : State) (c : Nat) (r : ChanReq) : State :=
  let e := 8 + c / 36
  match r.act with
  | .read off n =>
    let line := decide (32 ≤ n)
    let us := if line then (List.range 8).map (· + off / 256 * 8) else unitsAt off n
    let bad := (unitsAt off n).any (s.unitBad c)
    let s := (us.foldl (fun s u => s.decodeUnit c u) (s.chCount c 0 1)).touchRows c (burstsOf off n line)
    (match r.txn with
     | none => s
     | some id => s.unitDone e id 0 (s.hashedBytes off n) none (if bad then some 0x14 else none))
  | .opening word =>
    let s := ((s.chCount c 0 1).decodeUnit c (word / 4)).touchRows c (burstsOf (8 * word) 8 false)
    let v : Word := BitVec.ofNat 64 (ofBytes (s.rawBytes c (8 * word) 8))
    let first := (s.endp e).combine.find? fun x => decide (x.word = word) && !x.fetched
    s.modEnd e fun d => { d with combine := d.combine.map fun x => if some x = first then { x with fetched := true, value := v } else x }
  | .write off n =>
    let line := decide (n = 256)
    let part := decide (n < 32)
    let s := (if part then s.decodeUnit c (off / 32) else s).chCount c 1 1
    (s.healUnits (unitsAt off n)).touchRows c (burstsOf off n line)
  | .combineWrite word => (((s.decodeUnit c (word / 4)).chCount c 1 1).touchRows c (burstsOf (8 * word) 8 false)).writeEntry e c word
  | .atomic off =>
    let s := (((s.decodeUnit c (off / 32)).chCount c 1 1).touchRows c (burstsOf off 8 false)).healUnits [off / 32]
    (match r.txn with
     | none => s
     | some id => s.unitDone e id 0 [] none none)

/-- Lines of one channel (R315), and the time between two lines of the patrol scrub, in ns (R335, R522). -/
def channelLines : Nat := 29826161
def scrubGap : Nat := 86400000000000 / channelLines

/-- The offset of line slot `n` of a channel: the inverse of the hash (R315). -/
def lineOffset (c n : Nat) : Nat :=
  let fold := (List.range 5).foldl (fun f g => f ^^^ (n / 2 ^ (5 * g) % 32)) 0
  (9 * (32 * n + ((c % 32) ^^^ fold)) + c / 32) * 256

/-- A channel's scrub has reached its last line; once every channel in service has, the pass is complete (R523, R527). -/
def State.endLinePass (s : State) (c : Nat) : State :=
  let s := s.modChan c fun x => { x with passDone := true }
  let all := (List.range 288).all fun i =>
    let x := s.chan i
    x.passDone || decide (x.st = .untrained) || decide (x.st = .failed)
  if all then
    ((List.range 288).foldl (fun (s : State) i => s.modChan i fun x => { x with passDone := false }) s).setKept 0x10098 63 48
      ((s.field 0x10098 63 48 + 1) % 65536)
  else s

/-- A background slot writes back a corrected unit no newer write has reached, or scrubs the next line when one is due (R335, R522). -/
def State.background (s : State) (c : Nat) : State :=
  let x := s.chan c
  match x.scrubFix.filter fun u => !(errorsOf s.lpddrErr u).isEmpty with
  | u :: us =>
    let s := (s.modChan c fun x => { x with scrubFix := us }).healUnits [u]
    ((s.chCount c 1 1).chCount c 6 1).touchRows c (burstsOf (32 * u) 32 false)
  | [] =>
    if !bitOf (s.reg 0x10090) 0 || decide (s.now < x.scrubAt + scrubGap) then s.chCount c 2 1
    else
      let off := lineOffset c x.scrubLine
      let us := (List.range 8).map (· + off / 32)
      let fix := us.filter fun u => !(errorsOf s.lpddrErr u).isEmpty && !s.unitBad c u && !s.unitOpen c u
      let s := us.foldl (fun s u => s.decodeUnit c u) ((s.chCount c 0 1).chCount c 6 1)
      let s := (s.touchRows c (burstsOf off 256 true)).modChan c fun x => { x with
        scrubFix := fix, scrubLine := (x.scrubLine + 1) % channelLines, scrubAt := s.now }
      if (s.chan c).scrubLine = 0 then s.endLinePass c else s

/-- The bank accesses of a request. -/
def ChanAct.banks (a : ChanAct) : List Nat :=
  (match a with
   | .read off k => burstsOf off k (decide (32 ≤ k))
   | .opening w => burstsOf (8 * w) 8 false
   | .write off k => burstsOf off k (decide (k = 256))
   | .combineWrite w => burstsOf (8 * w) 8 false
   | .atomic off => burstsOf off 8 false).map burstBank

/-- The offset an engine's access lies at. -/
def EngineAct.off : EngineAct → Nat
  | .save off _ _ => off
  | .record off _ => off

/-- The bank accesses of a whole line. -/
def lineBanks (off : Nat) : List Nat := (burstsOf off 256 true).map burstBank

/-- The next work of an engine that owns a slot (R522). -/
def State.engineWork (s : State) (c owner : Nat) : Option EngineReq := (s.chan c).work.find? fun w => decide (w.owner = owner)

/-- The blocks of a counter record are written: its header follows them (R517). -/
def State.countHead (s : State) (owner : Nat) : State :=
  match s.mod.engine.header with
  | none => s
  | some (off, bs) =>
    if (List.range 288).all fun c => (s.chan c).work.all fun w => match w.act with
        | .record _ _ => false
        | _ => true then
      let s := { s with mod := { s.mod with engine := { s.mod.engine with header := none } } }
      (List.range ((bs.length + 255) / 256)).foldl (fun (s : State) i =>
        let act : EngineAct := .record (off + 256 * i) ((bs.drop (256 * i)).take 256)
        let c := hashChannel (off + 256 * i)
        if (s.chan c).st = .failed then s.engineFails act else s.modChan c fun x => { x with work := x.work ++ [⟨owner, act⟩] }) s
    else s

/-- What a checkpoint has read goes to the slot of pool memory that is being written (R486). -/
def State.saveBytes (s : State) (at' : Nat) (bs : List Byte) : State :=
  let k := s.mod.ckpt
  { s with mod := { s.mod with ckpt := if k.slot = 1 then { k with slotA := k.slotA.write at' bs } else { k with slotB := k.slotB.write at' bs } } }

/-- An engine's access in a slot: a line read for a checkpoint, or a write of a counter record (R485, R517, R522). -/
def State.performEngine (s : State) (c : Nat) (w : EngineReq) : State :=
  let e := 8 + c / 36
  let s := s.modChan c fun x => { x with work := x.work.erase w }
  match w.act with
  | .save off n at' =>
    let us := (List.range 8).map (· + off / 256 * 8)
    let bad := (unitsAt off n).any (s.unitBad c)
    let s := (us.foldl (fun s u => s.decodeUnit c u) (s.chCount c 0 1)).touchRows c (burstsOf off 256 true)
    if bad then s.engineFails w.act else s.saveBytes at' (s.hashedBytes off n)
  | .record off bs =>
    let words := (List.range (bs.length / 8)).map (· + off / 8)
    let s := words.foldl (fun s k => s.closeEntries e k) s
    let s := ({ s with lpddr := s.lpddr.write off bs }.healUnits (unitsAt off bs.length)).chCount c 1 1
    (s.touchRows c (burstsOf off bs.length (decide (bs.length = 256)))).countHead w.owner

/-- The banks that slot `m` of a channel addresses: of a slot performed, as it was; of a slot to come, its owner's oldest request (R320). -/
def State.slotAccess (s : State) (c m : Nat) : List Nat :=
  let x := s.chan c
  if m + 1 = x.slotDone then x.slotBanks
  else
    let owner := s.slotOwner c (m % 64)
    if owner = 0xFE then
      (match x.scrubFix.filter fun u => !(errorsOf s.lpddrErr u).isEmpty with
       | u :: _ => (burstsOf (32 * u) 32 false).map burstBank
       | [] => if bitOf (s.reg 0x10090) 0 && decide (x.scrubAt + scrubGap ≤ 16 * m) then lineBanks (lineOffset c x.scrubLine) else [])
    else match s.slotRequest c owner (16 * m), s.engineWork c owner with
      | some (_, r), _ => r.act.banks
      | none, some w => lineBanks w.act.off
      | none, none => []

/-- The banks of the present slot and of the next (R320). -/
def State.slotBanks (s : State) (c : Nat) : List Nat := s.slotAccess c (s.now / 16) ++ s.slotAccess c (s.now / 16 + 1)

/-- Slot `n` of a channel, at Constantan time 16n: exactly one access of its owner's oldest request, or none (R24, R317, R318). A device that
does not answer fails its channel (R314). -/
def execChannelSlot (c : Fin 288) (n : SlotTurn) (s : State) : Host.Outcome State Fault Refusal :=
  let silent := n.silent
  let n := n.number
  let e := 8 + c.val / 36
  if n < (s.chan c.val).slotDone ∨ (s.endp e).inReset then .next s
  else
    let s := s.reach (16 * n)
    let access := s.slotAccess c.val n
    let s := s.modChan c.val fun x => { x with slotDone := n + 1, slotBanks := access }
    let live := decide ((s.chan c.val).st = .ready) || decide ((s.chan c.val).st = .marked)
    let owner := s.slotOwner c.val (n % 64)
    if !live then .next (s.chCount c.val 2 1)
    else if silent then .next (if access = [] then s.chCount c.val 2 1 else s.failChannel c.val)
    else if owner = 0xFE then .next (s.background c.val)
    else match s.slotRequest c.val owner (16 * n) with
      | none => (match s.engineWork c.val owner with
        | none => .next (s.chCount c.val 2 1)
        | some w => .next (s.performEngine c.val w))
      | some (o, r) =>
        if s.mayPerform e r then
          .next ((s.modChan c.val fun x => { x with queues := x.queues.set [] o ((x.queues.get [] o).erase r) }).performSlot c.val r)
        else .next (s.chCount c.val 2 1)

/-- A per-bank refresh, only to a bank that neither the present slot nor the next addresses (R311, R320, R510). It closes the
bank's row. -/
def execRefreshCommand (c : Fin 288) (rank : Fin 2) (bank : Fin 16) (s : State) : Host.Outcome State Fault Refusal :=
  let b := rank.val * 16 + bank.val
  if (s.slotBanks c.val).contains b then .next s
  else .next ((s.chCount c.val 7 1).modChan c.val fun x => { x with openRows := x.openRows.set 0 b 0 })

/-- A management write of MEM_CHc marks or clears a pin (R314, R338). -/
def State.markWrite (s : State) (c : Nat) (valid : Bool) (pin : Nat) : State :=
  let s := (s.setKept (memChReg c) 52 52 (boolBit valid)).setKept (memChReg c) 51 48 (pin % 16)
  s.modChan c fun x => { x with st := match x.st, valid with
    | .ready, true => .marked
    | .marked, false => .ready
    | st, _ => st }

def execMemChMarkWrite (c : Fin 288) (valid : Bool) (pin : Fin 16) (s : State) : Host.Outcome State Fault Refusal :=
  .next (s.markWrite c.val valid pin.val)

end Sys2Proof.Machine
end

