-- ==== Sys2Proof/Machine/Vault.lean ====
section
/-!
DEFINITION. The vaults (R322 to R333, R335, R340 to R345): turns, the cache part and its fills, scrub, vertical bonds.
-/
namespace Sys2Proof.Machine
open Sys2Proof

/-! Lanes, marks and corrections. -/

/-- Bank of a vault address (R322). -/
def vaultBank (a : Nat) : Nat := a / 32 % 512

/-- Marked symbols of a vault lane: VLT_ERASE for its bank, and on a core-phase crossing the symbols of the bond group's marked
bonds (R332, R343). -/
def State.vaultMarks (s : State) (t lane group : Nat) (crosses : Bool) : List Nat :=
  let w := s.reg (endBlock t + 0x10)
  let b := lane % 512
  (if bitOf w 31 && decide (w.field 30 22 = b) then [w.field 21 16] else []) ++
  (if bitOf w 15 && decide (w.field 14 6 = b) then [w.field 5 0] else []) ++
  (if crosses then ((s.vault t).bonds.get BondGroup.intact group).marks.map (·.1 / 8) else [])

/-- Corrections at a (bank, symbol) in 16 lanes within one second take a free VLT_ERASE mark (R335). -/
def State.noteVaultSymbol (s : State) (t lane sym : Nat) : State :=
  let sec := s.now / 1000000000
  let key := lane % 512 * 64 + sym
  let s := s.modVault t fun v => if v.secondStart = sec then v else { v with secondStart := sec, marksSeen := [] }
  if (s.vault t).marksSeen.contains (key, lane) then s
  else
    let s := s.modVault t fun v => { v with marksSeen := (key, lane) :: v.marksSeen }
    if 16 ≤ ((s.vault t).marksSeen.filter fun p => decide (p.1 = key)).length then
      let off := endBlock t + 0x10
      let w := s.reg off
      let has := (bitOf w 31 && decide (w.field 30 16 = lane % 512 * 64 + sym)) || (bitOf w 15 && decide (w.field 14 0 = lane % 512 * 64 + sym))
      if has then s
      else if !bitOf w 15 then s.setKept off 15 0 (2 ^ 15 + lane % 512 * 64 + sym)
      else if !bitOf w 31 then s.setKept off 31 16 (2 ^ 15 + lane % 512 * 64 + sym)
      else s
    else s

/-- Symbol errors of a lane with the bits that its crossing of the bonds has turned (R332). -/
def withFlips (bad : List (Nat × Byte)) (flips : List Nat) : List (Nat × Byte) :=
  let all := flips.foldl (fun (t : Tab Byte) b => t.modify 0 (b / 8) fun x => x ^^^ BitVec.ofNat 8 (2 ^ (b % 8)))
    (bad.foldl (fun (t : Tab Byte) p => t.set 0 p.1 p.2) [])
  all.filter fun p => decide (p.2 ≠ 0)

/-- The bits of some symbols in error. -/
def errorBits (bad : List (Nat × Byte)) : List Nat :=
  bad.flatMap fun p => ((List.range 8).filter fun i => p.2.getLsbD i).map fun i => 8 * p.1 + i

/-- One more lane has crossed a group, with these bits corrected: the last 16 lanes are kept (R332). -/
def BondGroup.cross (g : BondGroup) (bits : List Nat) : BondGroup :=
  if bits = [] ∧ g.recent.all List.isEmpty then { g with recent := [] } else { g with recent := (bits :: g.recent).take 16 }

/-- Where an access of a vault lane comes from: through a bond group in a core turn, with the bits that its bonds turn; or from the base
or the background, through none. -/
structure Crossing where
  group : Nat
  flips : List Nat
  deriving DecidableEq, Repr

/-- Note a lane that has crossed a bond group. -/
def State.noteCrossing (s : State) (t : Nat) (x : Option Crossing) (bits : List Nat) : State :=
  match x with
  | none => s
  | some x => s.modVault t fun v => { v with bonds := v.bonds.modify BondGroup.intact x.group fun g => g.cross bits }

/-- A lane of a vault as an access finds it: corrections and uncorrectable lanes are counted (R344); a group that meets two
uncorrectable lanes within one rotation is to retire (R332). -/
def State.vaultLane (s : State) (t lane : Nat) (x : Option Crossing) (cyc : Nat) : State × Option (List Byte) :=
  let v := s.vault t
  let data := v.mem.read (32 * lane) 32
  let group := (x.map Crossing.group).getD 0
  match withFlips (errorsOf v.err lane) ((x.map Crossing.flips).getD []) with
  | [] => (s.noteCrossing t x [], some data)
  | bad =>
    let off := endBlock t + 0x18
    let marks := s.vaultMarks t lane group x.isSome
    match readWord data bad marks with
    | (.corrected, out) =>
      let fixed := bad.filter fun b => !marks.contains b.1
      let s := (s.count off 63 32 1).setField off 8 0 (lane % 512)
      ((fixed.foldl (fun s b => s.noteVaultSymbol t lane b.1) s).noteCrossing t x (errorBits fixed), out)
    | (_, none) =>
      let s := s.count off 31 16 1
      if x.isSome then
        let again := v.crossings.any fun p => decide (p.1 = group) && decide (p.2 / 256 = cyc / 256)
        ((s.modVault t fun v => { v with
          crossings := (group, cyc) :: v.crossings.filter fun p => decide (p.2 / 256 = cyc / 256)
          bonds := if again then v.bonds.modify BondGroup.intact group (fun g => { g with retiring := true }) else v.bonds }).noteCrossing t x [], none)
      else (s, none)
    | (_, some out) => (s.noteCrossing t x [], some out)

/-- Write bytes within one lane in vault cycle `cyc`; its check is made anew and, in the direct part, its block's dirty tag set (R330). -/
def State.putVault (s : State) (t a : Nat) (bs : List Byte) (cyc : Nat) : State :=
  let d := s.vaultDirect t
  s.modVault t fun v => { v with
    mem := v.mem.write a bs
    err := v.err.drop fun k => decide (k / 36 = a / 32)
    dirty := if a < d then v.dirty.set false (a / 65536) true else v.dirty
    wroteAt := if a < d then v.wroteAt.set 0 (a / 65536) (cyc + 1) else v.wroteAt
    scrubFix := v.scrubFix.filter fun l => decide (l ≠ a / 32) }

/-- Data of a whole lane on its way up the bonds: what the vault decodes there (R332). -/
def State.upLane (s : State) (t lane : Nat) (bs : List Byte) (x : Option Crossing) : State × Option (List Byte) :=
  match x with
  | none => (s, some bs)
  | some c => match withFlips [] c.flips with
    | [] => (s.noteCrossing t x [], some bs)
    | bad => match readWord bs bad (s.vaultMarks t lane c.group true) with
      | (.corrected, out) => (((s.count (endBlock t + 0x18) 63 32 1).setField (endBlock t + 0x18) 8 0 (lane % 512)).noteCrossing t x
          (errorBits (bad.filter fun b => !(s.vaultMarks t lane c.group true).contains b.1)), out)
      | (_, some out) => (s.noteCrossing t x [], some out)
      | (_, none) => ((s.count (endBlock t + 0x18) 31 16 1).noteCrossing t x [], none)

/-- Write part or all of a lane: a part is merged into the corrected lane, and nothing is written where that cannot be
corrected. -/
def State.writeVault (s : State) (t a : Nat) (bs : List Byte) (x : Option Crossing) (cyc : Nat) : State × Bool :=
  if bs.length = 32 then match s.upLane t (a / 32) bs x with
    | (s, some bs) => (s.putVault t a bs cyc, true)
    | (s, none) => (s, false)
  else match s.vaultLane t (a / 32) x cyc with
    | (s, some _) => (s.putVault t a bs cyc, true)
    | (s, none) => (s, false)

/-! The cache part (R327). -/

/-- The way that holds a line, as its place set x 16 + way. -/
def State.wayOf (s : State) (t line : Nat) : Option Nat :=
  let n := s.vaultSets t
  if n = 0 then none
  else ((List.range 16).map (· + line % n * 16)).find? fun k =>
    let w := (s.vault t).ways.get ⟨false, 0, 0⟩ k
    w.valid && decide (w.line = line)

/-- Vault byte address of a way. -/
def State.wayAddr (s : State) (t k : Nat) : Nat := s.vaultDirect t + 256 * k

/-- A read that misses joins the line's fill, takes a fill entry, or waits for one (R327). -/
def State.miss (s : State) (t line txn pos off n : Nat) : State :=
  let v := s.vault t
  match v.fills.find? fun f => decide (f.line = line) && !f.dropped with
  | some f => s.modVault t fun v => { v with
      fills := v.fills.map fun x => if x = f then { x with waiting := x.waiting ++ [(txn, pos, off, n)] } else x }
  | none =>
    if 256 ≤ v.fills.length then s.modVault t fun v => { v with fillWait := v.fillWait ++ [(line, txn, pos, off, n)] }
    else
      let ctx := match s.txnPkt t txn with
        | some p => p.srcCtx
        | none => t * 2048
      (s.modVault t fun v => { v with
        fills := v.fills ++ [{
          line := line, ctx := ctx, flight := none, waiting := [(txn, pos, off, n)]
          dropped := false, data := none, install := none }] }).sendFill t line

/-- A unit of a cached read whose line is in way `k`, or in none: it joins its core's queue, or misses (R327). -/
def State.cachedAt (s : State) (t core txn pos off n : Nat) : Option Nat → State
  | some k =>
    s.modVault t fun v => { v with
      coreReqs := v.coreReqs.set [] core (v.coreReqs.get [] core ++ [⟨txn, pos, .cached off (s.wayAddr t k + off % 256) n, s.now⟩]) }
  | none => s.miss t (off / 256) txn pos (off % 256) n

/-- A unit of a read in the cached view: a hit is served in the core's turns, a miss by a fill (R327). -/
def State.cachedUnit (s : State) (t core txn pos off n : Nat) : State :=
  s.cachedAt t core txn pos off n (s.wayOf t (off / 256))

/-- The core that a transaction of a tower's vault serves. -/
def State.txnCore (s : State) (t txn : Nat) : Nat := ((s.txnPkt t txn).map fun p => p.srcCtx / 8 % 256).getD 0

/-- Free fill entries go to the reads that have waited longest: one whose line has come in the meantime is a hit, and one whose line is
being filled joins that fill (R327). -/
def State.nextFills (s : State) (t : Nat) : State :=
  (List.range (s.vault t).fillWait.length).foldl (fun s _ =>
    match (s.vault t).fillWait with
    | [] => s
    | (line, txn, pos, off, n) :: rest =>
      if 256 ≤ (s.vault t).fills.length then s
      else (s.modVault t fun v => { v with fillWait := rest }).cachedUnit t (s.txnCore t txn) txn pos (256 * line + off) n) s

/-- Bytes for a read of the cached view that no way holds: those of a core's own GET go down to its scratchpad as a delivery (R324). -/
def State.deliver (s : State) (t core txn pos : Nat) (bs : List Byte) : State :=
  match s.ownUnit t txn pos bs with
  | some u => ((s.startOwn u).modVault t fun v => { v with down := v.down.set [] core (v.down.get [] core ++ [u]) }).unitDone t txn 0 [] none none
  | none => s.unitDone t txn pos bs none none

/-- Reads that waited on a fill are answered from its data, in the order in which they came (R328). -/
def State.answerFill (s : State) (t : Nat) (f : Fill) : State :=
  f.waiting.foldl (fun s w => s.deliver t (s.txnCore t w.1) w.1 w.2.1 (((f.data.getD []).drop w.2.2.1).take w.2.2.2)) s

/-- Every unit of a fill is written: its way is valid, unless a write or removal has met the fill, and the reads that waited are served
(R327, R328). -/
def State.endFill (s : State) (t : Nat) (f : Fill) (k : Nat) : State :=
  let s := s.modVault t fun v => { v with
    fills := v.fills.erase f
    ways := if f.dropped then v.ways else v.ways.set ⟨false, 0, 0⟩ k ⟨true, f.line, s.now⟩ }
  (if f.dropped then s.answerFill t f
   else f.waiting.foldl (fun s w => s.cachedUnit t (s.txnCore t w.1) w.1 w.2.1 (256 * f.line + w.2.2.1) w.2.2.2) s).nextFills t

/-- One unit of a fill has been written in an inbound turn. -/
def State.fillUnit (s : State) (t line : Nat) : State :=
  match (s.vault t).fills.find? fun f => decide (f.line = line) && f.install.isSome with
  | none => s
  | some f => match f.install with
    | none => s
    | some (k, n) =>
      if n ≤ 1 then s.endFill t f k
      else s.modVault t fun v => { v with fills := v.fills.map fun x => if x = f then { x with install := some (k, n - 1) } else x }

/-! Accesses of a bank (R323 to R326). -/

/-- Does an access need the down, and the up, direction of its turn (R324)? -/
def VaultAct.needsDown (a : VaultAct) (fetch : Bool) : Bool :=
  match a with
  | .read _ _ => true
  | .cached _ _ _ => true
  | .atomic _ => fetch
  | _ => false
def VaultAct.needsUp : VaultAct → Bool
  | .write _ _ => true
  | .atomic _ => true
  | _ => false

/-- What an own-vault access returns goes down in its own turn, into its group's FIFO; for the base it is the unit's answer at once (R324,
R350). -/
def State.returnUnit (s : State) (t core : Nat) (x : Option Crossing) (r : VaultReq) (bs : List Byte) (old : Option Word) : State :=
  match x with
  | none => s.unitDone t r.txn r.pos bs old none
  | some c => { s with cores := s.cores.modify Core.reset (t * 256 + core) fun k => { k with bond := k.bond ++ [(c.group, .data r.txn r.pos bs old)] } }

/-- A read of one unit: its bytes, or cause 0x14. -/
def State.readUnit (s : State) (t core a n : Nat) (x : Option Crossing) (cyc : Nat) (r : VaultReq) (lost : State → State) : State :=
  match s.vaultLane t (a / 32) x cyc with
  | (s, some bs) => s.returnUnit t core x r ((bs.drop (a % 32)).take n) none
  | (s, none) => lost s

/-- Perform one access of a bank, for a core through its bond group or for the base (R323, R325, R329). -/
def State.vaultAccess (s : State) (t : Nat) (x : Option Crossing) (cyc : Nat) (core : Nat) (r : VaultReq) : State :=
  match r.act with
  | .read a n => s.readUnit t core a n x cyc r fun s => s.unitDone t r.txn r.pos [] none (some 0x14)
  | .cached off a n =>
    if s.wayOf t (off / 256) = some ((a - s.vaultDirect t) / 256) then
      s.readUnit t core a n x cyc r fun s => ((s.removeLine t (off / 256)).endEvent t 11 1).cachedUnit t core r.txn r.pos off n
    else s.cachedUnit t core r.txn r.pos off n
  | .write a bs =>
    (match s.writeVault t a bs x cyc with
     | (s, true) => s.unitDone t r.txn 0 [] none none
     | (s, false) => s.unitDone t r.txn 0 [] none (some 0x14))
  | .atomic a =>
    (match s.vaultLane t (a / 32) x cyc, s.txnPkt t r.txn with
     | (s, some bs), some p =>
       let n := atomicSize p.func
       let old := ofBytes ((bs.drop (a % 32)).take n)
       let v : Word := BitVec.ofNat 64 old
       let s := s.putVault t a (bytesOf n (p.atomic old)) cyc
       if !p.fetches then s.unitDone t r.txn 0 [] (some v) none
       else if x.isSome then s.returnUnit t core x r [] (some v)
       else (s.modVault t fun v => { v with sideReqs := v.sideReqs.set [] 1 (v.sideReqs.get [] 1 ++ [⟨r.txn, 0, .answer a, s.now⟩]) }).unitDone
         t r.txn 0 [] (some v) none
     | (s, _), _ =>
       let more := match s.txnPkt t r.txn with
         | some p => x.isNone && p.fetches
         | none => false
       let s := s.unitDone t r.txn 0 [] none (some 0x14)
       if more then s.unitDone t r.txn 0 [] none (some 0x14) else s)
  | .answer _ => s.unitDone t r.txn 0 [] none none
  | .fill a bs line => (s.putVault t a bs cyc).fillUnit t line

/-- The bond group that serves a bank in a vault cycle: its own, or its partner where its own is retired, which then carries
the lower bank in even rotations and the higher in odd ones (R332). None: no service in this rotation. -/
def State.groupFor (s : State) (t b n : Nat) : Option Nat :=
  let bonds := (s.vault t).bonds
  let own := (bonds.get BondGroup.intact b).retired
  let pair := (bonds.get BondGroup.intact (b ^^^ 1)).retired
  let mine := decide (n / 256 % 2 = b % 2)
  if own && pair then none
  else if own then (if mine then some (b ^^^ 1) else none)
  else if pair then (if mine then some b else none)
  else some b

/-- The Constantan time at which vault cycle `n` begins, rounded up to a nanosecond (R322). -/
def vaultTime (n : Nat) : Nat := (4 * n + 4) / 5

/-- The vault cycle at the present moment. -/
def State.vaultNow (s : State) : Nat := s.now * 5 / 4

/-- Take a request out of a core's list. -/
def State.dropCoreReq (s : State) (t core : Nat) (r : VaultReq) : State :=
  s.modVault t fun v => { v with coreReqs := v.coreReqs.set [] core ((v.coreReqs.get [] core).erase r) }

/-- Has the down FIFO of a bond group room for one more unit of the core (R350)? -/
def Core.bondRoom (c : Core) (group : Nat) : Bool := decide ((c.bond.filter fun u => decide (u.1 = group)).length < 4)

/-- One core turn: down the oldest delivery, up the oldest outbound unit, and the core's own access where every direction it
needs is free; a unit goes down only where the group's FIFO has room for it (R323, R324, R350). -/
def State.coreTurn (s : State) (t b n core : Nat) (x : Crossing) : State :=
  let k := t * 256 + core
  let v := s.vault t
  let id : CoreId := ⟨⟨t % 8, Nat.mod_lt _ (by decide)⟩, ⟨core % 256, Nat.mod_lt _ (by decide)⟩⟩
  let downs := v.down.get [] core
  let ups := (s.coreAt k).up
  let room := (s.coreAt k).bondRoom x.group
  let s := match downs with
    | [] => s
    | u :: us => if room then
        (s.modVault t fun v => { v with down := v.down.set [] core us }).modCore id fun c => { c with bond := c.bond ++ [(x.group, DownUnit.unit u)] }
      else s
  let s := match ups with
    | [] => s
    | (u, bs) :: us =>
      let s := s.modCore id fun c => { c with up := us }
      (match u.owner, u.act with
       | .txn i, .read _ _ pos => s.unitDone t i pos bs none none
       | .put ctx op seq dest, .read _ _ pos => s.putUnit ctx op seq dest pos bs
       | _, _ => s)
  match ((s.vault t).coreReqs.get [] core).find? fun r => decide (vaultBank r.act.addr = b) && decide (r.ready ≤ vaultTime n) with
  | none => s
  | some r =>
    let fetch := match s.txnPkt t r.txn with
      | some p => p.fetches
      | none => false
    if (r.act.needsDown fetch && (!downs.isEmpty || !room)) || (r.act.needsUp && !ups.isEmpty) then s
    else (s.dropCoreReq t core r).vaultAccess t (some x) n core r

/-- The core phase of vault cycle `n` at one bank, which comes before its side phase (R323, R326). The turn of an absent, asleep or reset
core stays idle. -/
def execVaultCoreTurn (t : Fin 8) (bank : Fin 512) (n : CoreTurn) (s : State) : Host.Outcome State Fault Refusal :=
  let flips := n.flips
  let n := n.number
  let b := bank.val
  if n < (s.vault t.val).coreDone.get 0 b ∨ n < (s.vault t.val).sideDone.get 0 b ∨ (s.endp t.val).inReset ∨ (s.endp t.val).disabled then .next s
  else
    let s := (s.reach (vaultTime n)).modVault t.val fun v => { v with coreDone := v.coreDone.set 0 b (n + 1) }
    let core := (b + n) % 256
    let k : CoreId := ⟨t, ⟨core, Nat.mod_lt _ (by decide)⟩⟩
    if s.absent k || s.coreAsleep k || (s.core k).inReset then .next s
    else match s.groupFor t.val b n with
      | none => .next s
      | some g => .next (s.coreTurn t.val b n core ⟨g, flips.map Fin.val⟩)

/-! The side phase (R325, R335, R524). -/

/-- Time between two lanes of the vault's patrol scrub, in ns: every lane once per hour (R335, R522). -/
def vaultScrubGap : Nat := 3600000000000 / 67108864

/-- A vault's scrub has reached its last lane; once every enabled vault's has, the pass is complete (R523, R527). -/
def State.endLanePass (s : State) (t : Nat) : State :=
  let s := s.modVault t fun v => { v with passDone := true }
  if (List.range 8).all fun i => (s.vault i).passDone || (s.endp i).disabled || (s.endp i).inReset then
    ((List.range 8).foldl (fun (s : State) i => s.modVault i fun v => { v with passDone := false }) s).setKept 0x10098 47 32
      ((s.field 0x10098 47 32 + 1) % 65536)
  else s

/-- The background part of patrol scrub: a corrected lane is written back, or the next lane is read when one is due. In the
cache part an uncorrectable lane drops its line (R329, R335). -/
def State.vaultScrub (s : State) (t b n : Nat) : State :=
  let v := s.vault t
  match v.scrubFix.find? fun l => decide (l % 512 = b) with
  | some l => s.modVault t fun v => { v with scrubFix := v.scrubFix.erase l, err := v.err.drop fun k => decide (k / 36 = l) }
  | none =>
    if !bitOf (s.reg 0x10090) 1 || decide (v.scrubLane % 512 ≠ b) || decide (s.now < v.scrubAt + vaultScrubGap) then s
    else
      let l := v.scrubLane
      let bad := !(errorsOf v.err l).isEmpty
      let s := s.modVault t fun v => { v with scrubLane := (l + 1) % 67108864, scrubAt := s.now }
      let s := if (s.vault t).scrubLane = 0 then s.endLanePass t else s
      match s.vaultLane t l none n with
      | (s, some _) => if bad then s.modVault t fun v => { v with scrubFix := v.scrubFix ++ [l] } else s
      | (s, none) =>
        let d := s.vaultDirect t
        if 32 * l < d then s
        else
          let w := (s.vault t).ways.get ⟨false, 0, 0⟩ ((32 * l - d) / 256)
          if w.valid then (s.removeLine t w.line).endEvent t 11 1 else s

/-- The next write of the dump engine for a bank (R469, R524). -/
def State.dumpTurn (s : State) (t b n : Nat) : State :=
  match (s.vault t).dumpQ.find? fun w => decide (vaultBank w.1 = b) with
  | none => s
  | some w => ((s.modVault t fun v => { v with dumpQ := v.dumpQ.erase w }).writeVault t w.1 w.2 none n).1

/-- The lane of a bank that a checkpoint's read covers and has not read yet. -/
def Save.lane (x : Save) (b : Nat) : Option Nat :=
  let first := x.addr / 32
  let lane := first + (b + 512 - first % 512) % 512
  if 32 * lane < x.addr + x.len ∧ !x.done.get false b then some lane else none

/-- Lanes of a checkpoint's read. -/
def Save.lanes (x : Save) : Nat := (x.addr + x.len + 31) / 32 - x.addr / 32

/-- A read of a dirty block for a checkpoint: its bytes go to the slot being written. The spec gives no effect of a lane that cannot be
corrected: the checkpoint then fails, as it does where a write of it fails (R486, R524, assumption 128). -/
def State.saveTurn (s : State) (t b n : Nat) : State :=
  match (s.vault t).saves.find? fun x => (x.lane b).isSome with
  | none => s
  | some x => match x.lane b with
    | none => s
    | some l =>
      let x' := { x with done := x.done.set false b true }
      let s := s.modVault t fun v => { v with
        saves := if x'.done.length = x'.lanes then v.saves.erase x else v.saves.map fun y => if y = x then x' else y }
      match s.vaultLane t l none n with
      | (s, some bs) =>
        let a := max x.addr (32 * l)
        s.saveBytes (x.at' + (a - x.addr)) ((bs.drop (a % 32)).take (min (32 * l + 32) (x.addr + x.len) - a))
      | (s, none) => s.engineFails (.save 0 0 0)

/-- The background turn of a bank, divided by rotation number (R524). -/
def State.backgroundTurn (s : State) (t b n : Nat) : State :=
  match n / 256 % 4 with
  | 0 => s.vaultScrub t b n
  | 1 => s.dumpTurn t b n
  | _ => s.saveTurn t b n

/-- The side phase of vault cycle `n` at one bank: inbound, outbound or background by the rotation (R325). The vault serves
these while its compute die sleeps (R331). -/
def execVaultSideTurn (t : Fin 8) (bank : Fin 512) (n : Nat) (s : State) : Host.Outcome State Fault Refusal :=
  let b := bank.val
  if n < (s.vault t.val).sideDone.get 0 b ∨ (s.endp t.val).disabled then .next s
  else
    let s := (s.reach (vaultTime n)).modVault t.val fun v => { v with sideDone := v.sideDone.set 0 b (n + 1) }
    let cls := (b + n) % 8
    if cls = 7 then .next (s.backgroundTurn t.val b n)
    else
      let q := if cls < 4 then 0 else 1
      match ((s.vault t.val).sideReqs.get [] q).find? fun r => decide (vaultBank r.act.addr = b) && decide (r.ready ≤ vaultTime n) with
      | none => .next s
      | some r =>
        let s := s.modVault t.val fun v => { v with sideReqs := v.sideReqs.set [] q ((v.sideReqs.get [] q).erase r) }
        .next (s.vaultAccess t.val none n 0 r)

/-! Fills and invalidation (R327, R328, R341). -/

/-- The way a fill of a line takes, among those no other fill is being written into: an invalid one of its set, else the one whose fill
completed earliest. -/
def State.victim (s : State) (t line : Nat) : Option Nat :=
  let n := s.vaultSets t
  let taken := (s.vault t).fills.filterMap fun f => f.install.map Prod.fst
  let ks := ((List.range 16).map (· + line % n * 16)).filter fun k => !taken.contains k
  let w := fun k => (s.vault t).ways.get ⟨false, 0, 0⟩ k
  match ks.find? fun k => !(w k).valid with
  | some k => some k
  | none => match ks with
    | [] => none
    | k :: ks => some (ks.foldl (fun best k => if (w k).filledAt < (w best).filledAt then k else best) k)

/-- The data of a fill has come: its units take inbound turns into a way, unless a write or removal has met the fill (R325, R327, R328). -/
def execVaultFillInstall (t : Fin 8) (line : Nat) (s : State) : Host.Outcome State Fault Refusal :=
  match (s.vault t.val).fills.find? fun f => decide (f.line = line) && f.data.isSome && f.install.isNone with
  | none => .next s
  | some f =>
    if f.dropped ∨ s.vaultSets t.val = 0 then
      .next (((s.modVault t.val fun v => { v with fills := v.fills.erase f }).answerFill t.val f).nextFills t.val)
    else match s.victim t.val line with
      | none => .next s
      | some k =>
        let us := (unitsOf (s.wayAddr t.val k) (f.data.getD [])).map fun u => (⟨0, 0, .fill u.1 u.2 line, s.now⟩ : VaultReq)
        .next (s.modVault t.val fun v => { v with
          ways := v.ways.set ⟨false, 0, 0⟩ k ⟨false, 0, 0⟩
          fills := v.fills.map fun x => if x = f then { x with install := some (k, us.length) } else x
          sideReqs := v.sideReqs.set [] 0 (v.sideReqs.get [] 0 ++ us) })

/-- Empty the cache part of a vault; fills in flight are not installed. No vault line is written (R328). -/
def State.emptyCache (s : State) (t : Nat) : State :=
  s.modVault t fun v => { v with ways := [], fills := v.fills.map fun f => { f with dropped := true } }

/-- A write of VLT_CTRL.INVALIDATE: the cache part is empty from the next rotation boundary, and the bit reads 0 again (R328,
R341). A rotation is 204.8 ns (R322). -/
def execVaultInvalidate (t : Fin 8) (s : State) : Host.Outcome State Fault Refusal :=
  let m := (s.now * 5 + 1023) / 1024
  .next (((s.reach ((1024 * m + 4) / 5)).emptyCache t.val).setField (endBlock t.val) 0 0 0)

/-! Vertical bonds (R332, R333). -/

/-- One more bond of a group has failed. A bond whose mark stands is not counted twice; one that a spare carries can fail again. -/
def BondGroup.fail (g : BondGroup) (bond now : Nat) : BondGroup :=
  let g := { g with tested := g.tested.filter (· ≠ bond), recent := g.recent.map fun l => l.filter (· ≠ bond) }
  if g.retired || g.marks.any (fun m => decide (m.1 = bond)) then g
  else if 8 ≤ g.spares + g.marks.length ∨ 2 ≤ g.marks.length then { g with failed := bond :: g.failed, retiring := true }
  else { g with failed := bond :: g.failed, marks := g.marks ++ [(bond, now)] }

/-- Does a bond count as failed: its bit has been corrected in 8 of 16 consecutive lanes that crossed the group, or it has failed the bond
test of stage S3 (R332)? -/
def BondGroup.condemned (g : BondGroup) (bond : Nat) : Bool :=
  g.tested.contains bond || decide (8 ≤ (g.recent.filter fun l => l.contains bond).length)

/-- A spare takes the place of the bond marked first. -/
def BondGroup.steer (g : BondGroup) : BondGroup :=
  match g.marks with
  | [] => g
  | _ :: rest => if g.retired || decide (8 ≤ g.spares) then g else { g with marks := rest, spares := g.spares + 1 }

/-- A bond counts as failed: its symbol is an erasure for every lane that crosses the group, until a spare is steered in; with
no spare left, or as a third beside two marks, it retires the group (R332). -/
def execBondFailed (t : Fin 8) (group : Fin 512) (bond : Fin 288) (s : State) : Host.Outcome State Fault Refusal :=
  if ((s.vault t.val).bonds.get BondGroup.intact group.val).condemned bond.val then
    .next (s.modVault t.val fun v => { v with bonds := v.bonds.modify BondGroup.intact group.val fun g => g.fail bond.val s.now })
  else .next s

/-- Within 10 µs a spare takes the place of the bond marked first, and its mark is cleared (R332). -/
def execBondSpareSteered (t : Fin 8) (group : Fin 512) (s : State) : Host.Outcome State Fault Refusal :=
  let g := (s.vault t.val).bonds.get BondGroup.intact group.val
  .next ((s.mramWrite (.spares t.val group.val) [g.spares, boolBit g.retired]).modVault t.val fun v =>
    { v with bonds := v.bonds.modify BondGroup.intact group.val BondGroup.steer })

/-- A group that is to retire does so at the next rotation boundary; with both groups of a pair retired the tower is disabled
(R332). -/
def execBondGroupRetire (t : Fin 8) (group : Fin 512) (s : State) : Host.Outcome State Fault Refusal :=
  let g := (s.vault t.val).bonds.get BondGroup.intact group.val
  if g.retiring && !g.retired then
    let m := (s.now * 5 + 1023) / 1024
    let s := ((s.reach ((1024 * m + 4) / 5)).mramWrite (.spares t.val group.val) [g.spares, 0]).modVault t.val fun v =>
      { v with bonds := v.bonds.modify BondGroup.intact group.val fun g => { g with retired := true, retiring := false } }
    if ((s.vault t.val).bonds.get BondGroup.intact (group.val ^^^ 1)).retired then .next (s.disableTower t.val) else .next s
  else .next s

/-- A row's power-bond group fails: the row is disabled, now and at every later start (R333, R460). -/
def execPowerBondFailed (t : Fin 8) (row : Fin 16) (s : State) : Host.Outcome State Fault Refusal :=
  let off := endBlock t.val + 0x30
  if bitOf (s.reg off) row.val then .next s
  else
    let s := (s.setKept off row.val row.val 1).event 0x19 (16 * t.val + row.val) false
    .next (s.disableCores ((List.range 16).map fun i => ⟨t, ⟨(16 * row.val + i) % 256, Nat.mod_lt _ (by decide)⟩⟩))

end Sys2Proof.Machine
end

