-- ==== Sys2Proof/Machine/Power.lean ====
section
/-!
DEFINITION. Power feeds, the clock ladder, sleep and Constantan time (10_clocks_power_and_heat.md, R528 to R531).
-/
namespace Sys2Proof.Machine
open Sys2Proof

/-! Keys of the periodic events, for `State.periodic`. -/

def keyFrame : Nat := 1
def keySense : Nat := 2
def keyPmbus (b : Bool) : Nat := 3 + boolBit b
def keyBimetal : Nat := 5
def keySnap : Nat := 6
def keyHeartbeat : Nat := 7
def keyDue : Nat := 8
def keyProgress : Nat := 9
def keyPass : Nat := 10
def keyDiode (d : Nat) : Nat := 16 + d
def keyCompare (d : Nat) : Nat := 24 + d
def keyLedger (t : Nat) : Nat := 32 + t
def keyDaily (t : Nat) : Nat := 40 + t
def keyTimeFlit (p : Nat) : Nat := 64 + p
def keyWear (c : Nat) : Nat := 96 + c
def keyWindow (t r : Nat) : Nat := 128 + 16 * t + r

/-! The ladder table (R360). -/

/-- MHz and VCORE set point in mV of a point. -/
def pointMhz (n : Nat) : Nat := 500 + 50 * n
def pointMv (n : Nat) : Nat :=
  if n ≤ 7 then 720 else if n ≤ 15 then 730 + (n - 8) * 10 else if n ≤ 20 then 810 + (n - 16) * 10 else if n = 21 then 865 else 880

/-! Feeds (R364 to R369, R425, R426). -/

def State.feed (s : State) (b : Bool) : Feed := if b then s.power.feedB else s.power.feedA
def State.modFeed (s : State) (b : Bool) (f : Feed → Feed) : State :=
  s.modPower fun p => if b then { p with feedB := f p.feedB } else { p with feedA := f p.feedA }

def FeedMode.enabled : FeedMode → Bool
  | .active => true
  | .trial => true
  | _ => false

/-- VCORE_EN of a feed is high. -/
def Feed.on (f : Feed) : Bool := f.st.enabled || f.enabledAt.isSome

/-- VCORE feeds ACTIVE. -/
def State.activeFeeds (s : State) : Nat :=
  boolBit (decide (s.power.feedA.st = .active)) + boolBit (decide (s.power.feedB.st = .active))

/-- I_BASE and the feed ceiling (R368). -/
def State.iBase (s : State) : Nat := match s.activeFeeds with
  | 2 => 8000
  | 1 => 3800
  | _ => 0
def State.feedCeiling (s : State) : Option Nat := match s.activeFeeds with
  | 2 => some 22
  | 1 => some 11
  | _ => none

/-- I_EFF (R375). -/
def State.iEff (s : State) : Nat := s.iBase * (40 - s.power.thermal.steps) / 40

/-- SUSTAINED_W as it acts (R385). -/
def State.sustained (s : State) : Nat := max 1000 (min 7200 (s.field 0x19000 47 32))

/-- P_EFF: the job's POWER_CAP when it is not 0 and lower, while a job is loaded (R369). -/
def State.pEff (s : State) : Nat :=
  let cap := if 3 ≤ s.jobState then pkgPowerCap s.mod.job.live else 0
  if cap = 0 then s.sustained else min s.sustained cap

/-- A thermal shutdown, or the loss of every VCORE feed, ends a start that runs (R436). -/
def State.endStart (s : State) : State :=
  s.modStart fun x => { x with stopped := x.stopped || (decide (x.stage < 3) && !x.holding) }

/-- With no feed enabled the towers lose power; with none ACTIVE, and none that a start is
bringing up, the module signals its own failure (R365, R416, R436). -/
def State.feedsLost (s : State) : State :=
  let s := if s.activeFeeds = 0 ∧ s.power.feedA.enabledAt.isNone ∧ s.power.feedB.enabledAt.isNone then (s.decideFault 0x02).endStart else s
  if s.power.feedA.on || s.power.feedB.on then s else s.losePower

/-- Since when a condition has held without a break. -/
def since (old : Option Nat) (cond : Bool) (now : Nat) : Option Nat :=
  if cond then (match old with
    | some t => some t
    | none => some now) else none

def heldFor (t : Option Nat) (now d : Nat) : Bool := match t with
  | some t => decide (t + d ≤ now)
  | none => false

/-! The clock ladder (R360, R361). -/

/-- The ceilings: of the feeds (R368), and of the conservative mode (R374). -/
def State.ceilings (s : State) : List Nat := [s.feedCeiling.getD 0, if s.power.thermal.conservative then 13 else 22]

/-- The lower of them (R383). -/
def State.ceiling (s : State) : Nat := s.ceilings.foldl min 22

/-- Has a ceiling fallen since it was noted (R361)? -/
def State.ceilingFell (s : State) (at' : List Nat) : Bool := (s.ceilings.zip at').any fun x => decide (x.1 < x.2)

/-- The highest point whose predicted core current fits, and whose predicted power fits (R360). -/
def currentPoint (amps present iEff : Nat) : Option Nat :=
  ((List.range 23).filter fun n => decide (amps * pointMhz n * pointMv n ≤ iEff * (pointMhz present * pointMv present))).getLast?
def powerPoint (coreW auxW present pEff : Nat) : Option Nat :=
  ((List.range 23).filter fun n => decide (
    coreW * pointMhz n * (pointMv n * pointMv n) + auxW * (pointMhz present * (pointMv present * pointMv present)) ≤
      pEff * (pointMhz present * (pointMv present * pointMv present)))).getLast?

/-- The stretch limit as it stands at a moment: one point higher for each 10 ms with no request (R360). -/
def stretchNow (l : Option (Nat × Nat × Nat)) (now : Nat) : Option (Nat × Nat × Nat) :=
  match l with
  | none => none
  | some (p, req, rise) =>
    let n := (now - rise) / 10000000
    if 22 ≤ p + n then none else some (p + n, req, rise + n * 10000000)

/-- The limits in the order of LIMITER's codes (R383); `none` where even point 0 exceeds one. -/
def State.limits (s : State) (amps coreW auxW : Nat) : List (Nat × Option Nat) :=
  let l := s.power.ladder
  [(0, some (l.jobPoint.getD 15)), (1, some (s.feedCeiling.getD 0)), (2, some (if s.power.thermal.conservative then 13 else 22)),
   (3, currentPoint amps l.point s.iEff), (4, powerPoint coreW auxW l.point s.pEff),
   (5, some ((l.stretch.map fun x => x.1).getD 22))]

/-- The target and its limiter: the lowest limit, the lower code where limits tie; point 0 and code 6 where a limit is exceeded
even there (R360, R375). -/
def lowest (ls : List (Nat × Option Nat)) : Nat × Nat :=
  if ls.any fun x => x.2.isNone then (0, 6)
  else ls.foldl (fun best x => if x.2.getD 0 < best.1 then (x.2.getD 0, x.1) else best) (23, 0)

/-- A change is announced: E is the first multiple of 1,024 ns at least 10 µs on; a step up commands its voltage now (R361). -/
def State.announce (s : State) (m : Nat) : State :=
  let e := (s.now + 10000 + 1023) / 1024 * 1024
  let now := s.ceilings
  s.modLadder fun l => { l with
    change := some { point := m, epoch := e, checked := false, ceilings := now, fell := false }
    setMv := if l.point < m then pointMv m else l.setMv }

/-- The governor finds its target from the currents and powers last measured, and announces one step: down at once, up when every limit
has allowed it for `hold` ns (R360). While a change is pending it only notes that a ceiling has fallen (R361). -/
def State.govern (s : State) (hold : Nat) : State :=
  if s.feedCeiling.isNone then s
  else
    let s := s.modLadder fun l => { l with stretch := stretchNow l.stretch s.now }
    let m := s.power.ladder.seen
    let best := lowest (s.limits m.1 m.2.1 m.2.2)
    let s := s.modLadder fun l => { l with
      target := best.1, limiter := best.2, upSince := since l.upSince (decide (l.point < best.1)) s.now
      change := l.change.map fun c => { c with fell := c.fell || s.ceilingFell c.ceilings } }
    let l := s.power.ladder
    if l.change.isSome then s
    else if best.1 < l.point then s.announce (l.point - 1)
    else if heldFor l.upSince s.now hold then s.announce (l.point + 1)
    else s

/-! The feeds (R365 to R367). -/

/-- A feed fails (R366): FAILED, or LATCHED within 60 s of becoming ACTIVE from TRIAL; the governor evaluates at once. -/
def State.failFeed (s : State) (b : Bool) (cause : Nat) : State :=
  let f := s.feed b
  let latch : Bool := match f.readmitted with
    | some t => decide (f.st = .active) && decide (s.now ≤ t + 60000000000)
    | none => false
  let s := s.modFeed b fun f => { f with
    st := if latch then .latched else .failed
    cause := if f.st = .trial then 4 else cause
    fails := min 255 (f.fails + 1)
    voltSince := none, shareSince := none, trialSince := none, readmitted := none, enabledAt := none, offAt := s.now
    clearSince := if f.fault then none else some s.now }
  s.feedsLost.govern 1000000

def apart (a b : Nat) : Nat := (a - b) + (b - a)

/-- The median of three. -/
def median3 (a b c : Nat) : Nat := max (min a b) (min (max a b) c)

/-- What one sample says of a feed: its voltage, and its share, are out of bounds (R365). With one feed ACTIVE its voltage is
compared with the set point. -/
def State.feedVolt (s : State) (b : Bool) (mvA mvB : Nat) : Bool :=
  let v := if b then mvB else mvA
  let ref := if s.activeFeeds = 1 && decide ((s.feed b).st = .active) then s.power.ladder.setMv else median3 mvA mvB s.power.ladder.setMv
  (s.feed b).st.enabled && decide (25 < apart v ref)
def State.feedShare (s : State) (b : Bool) (ampsA ampsB : Nat) : Bool :=
  (s.feed b).st.enabled && !(s.activeFeeds = 1 && decide ((s.feed b).st = .active)) && decide (400 ≤ ampsA + ampsB) &&
  decide ((if b then ampsB else ampsA) * 100 < 30 * (ampsA + ampsB))

/-- A feed's sample noted. A starting feed is ACTIVE once its voltage stands at the set point (R436, R530); output above 0.1 V
10 ms after VCORE_EN fell counts as a fault (R530). -/
def State.noteFeed (s : State) (b : Bool) (mv amps : Nat) (volt share : Bool) : State :=
  s.modFeed b fun f =>
    let ok := f.enabledAt.isSome && decide (apart mv s.power.ladder.setMv ≤ 25)
    let stuck := !f.on && decide (100 < mv) && decide (f.offAt + 10000000 ≤ s.now)
    { f with
      mv := mv, amps := amps
      st := if ok then .active else f.st
      enabledAt := if ok then none else f.enabledAt
      voltSince := since f.voltSince volt s.now
      shareSince := since f.shareSince share s.now
      trialSince := if f.st = .trial && (volt || share) then some s.now else f.trialSince
      fault := f.fault || stuck
      clearSince := if stuck then none else f.clearSince }

/-- Is a VCORE feed coming up? -/
def State.feedsRising (s : State) : Bool := s.power.feedA.enabledAt.isSome || s.power.feedB.enabledAt.isSome

/-- A start that held begins S2 as its feeds have come up (R434, R438). -/
def State.beginS2 (s : State) (rising : Bool) : State :=
  if rising && !s.feedsRising && s.mod.start.released && decide (s.mod.start.stage = 1) then s.modStart fun x => { x with since := s.now } else s

/-- Once per Constantan µs each VCORE feed is sensed; a feed out of bounds for more than 20 µs fails (R365). -/
def execFeedSense (mvA mvB ampsA ampsB : Nat) (s : State) : Host.Outcome State Fault Refusal :=
  if 950 < mvA ∨ 950 < mvB then .fault .outsideAbsoluteMaximum
  else
    let s := s.periodic keySense 1000
    let vA := s.feedVolt false mvA mvB
    let vB := s.feedVolt true mvA mvB
    let hA := s.feedShare false ampsA ampsB
    let hB := s.feedShare true ampsA ampsB
    let s := ((s.noteFeed false mvA ampsA vA hA).noteFeed true mvB ampsB vB hB).beginS2 s.feedsRising
    let bad := fun (f : Feed) => if heldFor f.voltSince s.now 20000 then 1 else if heldFor f.shareSince s.now 20000 then 2 else 0
    let a := bad s.power.feedA
    let b := bad s.power.feedB
    let m := s.power.ladder.setMv
    let devA := apart mvA (median3 mvA mvB m)
    let devB := apart mvB (median3 mvA mvB m)
    if a ≠ 0 ∧ b ≠ 0 then .next (if devB < devA then s.failFeed false a else s.failFeed true b)
    else if a ≠ 0 then .next (s.failFeed false a)
    else if b ≠ 0 then .next (s.failFeed true b)
    else .next s

/-- A STATUS_WORD read, or a transaction without an answer: the stage reports a fault, or does not (R426). A reported fault fails
an enabled feed at once (R365). -/
def State.statusRead (s : State) (b : Bool) (r : StatusRead) : State :=
  let f := s.feed b
  let silent := if r.answered then 0 else min 3 (f.silent + 1)
  let fault := if r.answered then r.fault || (r.off && f.on) else f.fault || decide (silent = 3)
  let s := s.modFeed b fun f => { f with
    silent := silent, fault := fault
    clearSince := if fault || (r.answered && !r.input) then none else if f.st = .failed then since f.clearSince true s.now else f.clearSince }
  if fault && f.st.enabled then s.failFeed b 3 else s

/-- SMBALERT leads to a STATUS_WORD read within 20 µs (R426). -/
def execSmbalert (b : Bool) (r : StatusRead) (s : State) : Host.Outcome State Fault Refusal := .next (s.statusRead b r)

/-- The regulator is read every 10 ms (R425). -/
def execPmbusPeriodicRead (b : Bool) (r : StatusRead) (s : State) : Host.Outcome State Fault Refusal :=
  .next ((s.periodic (keyPmbus b) 10000000).statusRead b r)

/-- A feed FAILED for 10 s without a fault and with its input good is enabled in TRIAL, after CLEAR_FAULTS and one more
STATUS_WORD; never while a shutdown is latched (R366, R376, R426). -/
def execFeedTrialStart (b : Bool) (r : StatusRead) (s : State) : Host.Outcome State Fault Refusal :=
  let f := s.feed b
  match f.clearSince with
  | none => .next s
  | some t =>
    if f.st = .failed ∧ !s.power.thermal.shutdown then
      let s := s.reach (t + 10000000000)
      if r.answered && !r.fault && r.input then
        .next (s.modFeed b fun f => { f with st := .trial, trialSince := some s.now, fault := false, silent := 0, clearSince := none })
      else .next (s.modFeed b fun f => { f with fault := true, clearSince := none })
    else .next s

/-- A feed in TRIAL that has met R365 for 1 ms is ACTIVE, and I_BASE returns (R366). -/
def execFeedTrialPass (b : Bool) (s : State) : Host.Outcome State Fault Refusal :=
  match (s.feed b).trialSince with
  | none => .next s
  | some t =>
    if (s.feed b).st = .trial then
      let s := s.reach (t + 1000000)
      .next (s.modFeed b fun f => { f with st := .active, trialSince := none, readmitted := some s.now })
    else .next s

/-- FEED_CTRL.UNLATCH returns a LATCHED feed to FAILED (R385). -/
def State.unlatch (s : State) (b : Bool) : State :=
  if (s.feed b).st = .latched then
    s.modFeed b fun f => { f with st := .failed, clearSince := if f.fault then none else some s.now }
  else s

def execUnlatchA (s : State) : Host.Outcome State Fault Refusal := .next (s.unlatch false)
def execUnlatchB (s : State) : Host.Outcome State Fault Refusal := .next (s.unlatch true)

/-- VAUX feeds (R367, R531). -/
def State.vaux (s : State) (b : Bool) : Vaux := if b then s.power.vauxB else s.power.vauxA
def State.modVaux (s : State) (b : Bool) (f : Vaux → Vaux) : State :=
  s.modPower fun p => if b then { p with vauxB := f p.vauxB } else { p with vauxA := f p.vauxA }

def vauxInRange (mv : Nat) : Bool := decide (10800 ≤ mv) && decide (mv ≤ 13200)

/-- A VAUX input has lain out of range for more than 1 ms: it fails, and while the other feed is ACTIVE it is disconnected; when
both are FAILED both stay connected (R367, R531). Of a feed that has failed it notes when its input last lay out of range. -/
def execVauxFeedFail (b : Bool) (mv : Nat) (s : State) : Host.Outcome State Fault Refusal :=
  if 15000 < mv then .fault .outsideAbsoluteMaximum
  else if vauxInRange mv then .next (s.modVaux b fun v => { v with mv := mv })
  else if (s.vaux b).failed then .next (s.modVaux b fun v => { v with mv := mv, failedAt := s.now })
  else
    let other := (s.vaux (!b)).failed
    let s := s.modVaux b fun v => { v with failed := true, connected := other, mv := mv, failedAt := s.now }
    .next (if other then s.modVaux (!b) fun v => { v with connected := true } else s)

/-- A failed VAUX feed that has lain in range for 10 s is reconnected and ACTIVE; the other, where it is FAILED, is then disconnected (R367,
R531). -/
def execVauxFeedReconnect (b : Bool) (mv : Nat) (s : State) : Host.Outcome State Fault Refusal :=
  if 15000 < mv then .fault .outsideAbsoluteMaximum
  else if vauxInRange mv && (s.vaux b).failed then
    let s := s.reach ((s.vaux b).failedAt + 10000000000)
    let s := s.modVaux b fun v => { v with failed := false, connected := true, mv := mv }
    .next (s.modVaux (!b) fun v => { v with connected := v.connected && !v.failed })
  else .next (s.modVaux b fun v => { v with mv := mv })

/-- The ACTIVE feed falls below 10.0 V while the other is disconnected: the disconnected one is reconnected at once, when it lies at
or above 10.0 V (R531). -/
def execVauxInputBelow10v (b : Bool) (mv : Nat) (s : State) : Host.Outcome State Fault Refusal :=
  if 10000 ≤ mv then .next s
  else
    let s := s.modVaux b fun v => { v with mv := mv, failedAt := if v.failed then s.now else v.failedAt }
    if !(s.vaux (!b)).connected && decide (10000 ≤ (s.vaux (!b)).mv) then .next (s.modVaux (!b) fun v => { v with connected := true })
    else .next s

/-! The governor's commands (R360, R361). -/

/-- The governor evaluates with the core current, core power and auxiliary power as measured now (R360). -/
def execGovernorEvaluate (amps coreW auxW : Nat) (s : State) : Host.Outcome State Fault Refusal :=
  if s.feedCeiling.isNone then .next s
  else .next ((s.modLadder fun l => { l with seen := (amps, coreW, auxW) }).govern 1000000)

/-- The check at E − 2 µs (R361): every PLL locked; for a step up every ACTIVE feed within 5 mV, and no ceiling that has fallen since A. -/
def execFreqChangeCheck (locked : Bool) (s : State) : Host.Outcome State Fault Refusal :=
  match s.power.ladder.change with
  | none => .next s
  | some c =>
    if c.checked then .next s
    else
      let s := s.reach (c.epoch - 2000)
      let near := fun (f : Feed) => decide (f.st ≠ .active) || decide (apart f.mv (pointMv c.point) ≤ 5)
      let up := decide (s.power.ladder.point < c.point)
      let ok := locked && (!up || (near s.power.feedA && near s.power.feedB && !c.fell && !s.ceilingFell c.ceilings))
      if ok then .next (s.modLadder fun l => { l with change := some { c with checked := true } })
      else .next (s.modLadder fun l => { l with change := none, setMv := pointMv l.point })

/-- At E every region moves; a step down commands its voltage (R361). -/
def execFreqChangeEpoch (s : State) : Host.Outcome State Fault Refusal :=
  match s.power.ladder.change with
  | none => .next s
  | some c =>
    if c.checked then
      let s := s.reach c.epoch
      .next (s.modLadder fun l => { l with point := c.point, change := none, before := l.point, lastEpoch := c.epoch, setMv := pointMv c.point })
    else .next s

/-! Droop and stretch (R351, R352). -/

/-- The mask of the neighbours of the rows of a mask, on one die. -/
def neighbours (m : Nat) : Nat := ((m * 2) ||| (m / 2)) % 65536

/-- One core cycle of a die in which the rows of `rows` see a droop: they stretch, and so do the rows to which the last cycle's
requests now arrive, each once (R351). -/
def execDroopStretch (t : Fin 8) (rows : BitVec 16) (s : State) : Host.Outcome State Fault Refusal :=
  let asleep := s.reg (endBlock t.val + 0x208)
  let awake := fun (m : Nat) => ((List.range 16).map fun r => if m / 2 ^ r % 2 = 1 ∧ !bitOf asleep r ∧ !bitOf asleep 32 then 2 ^ r else 0).sum
  let own := awake rows.toNat
  let hit := awake (own ||| s.power.ladder.asked.get 0 t.val)
  let s := s.modLadder fun l => { l with
    asked := l.asked.set 0 t.val (neighbours own)
    stretched := (List.range 16).foldl (fun tab r =>
      if hit / 2 ^ r % 2 = 1 then tab.modify 0 (t.val * 16 + r) (· + 1) else tab) l.stretched }
  .next (coreNos.foldl (fun s c =>
    let k : CoreId := ⟨t, c⟩
    if hit / 2 ^ (c.val / 16) % 2 = 1 ∧ !s.coreAsleep k ∧ !s.absent k then
      (s.modCore k fun c => { c with stretched := true }).toCycle k ((s.core k).cycle + 1)
    else s) s)

/-- Periods of the core clock in the window of 1 µs that ends now, the point having changed inside it or not. -/
def State.windowPeriods (s : State) : Nat :=
  let l := s.power.ladder
  let late := min 1000 (s.now - l.lastEpoch)
  (pointMhz l.point * late + pointMhz l.before * (1000 - late)) / 1000

/-- A 1 µs window of a region ends: above 1 in 16 stretched cycles it asks for a throttle, and the governor evaluates at once (R352, R360). A stretched cycle lasts two
periods. -/
def execStretchWindowEnd (t : Fin 8) (row : Fin 16) (s : State) : Host.Outcome State Fault Refusal :=
  let s := s.periodic (keyWindow t.val row.val) 1000
  let key := t.val * 16 + row.val
  let n := s.power.ladder.stretched.get 0 key
  let s := s.modLadder fun l => { l with stretched := l.stretched.set 0 key 0 }
  if s.windowPeriods - n < 16 * n then
    .next (((s.setField (endBlock t.val + 0x208) (48 + row.val) (48 + row.val) 1).modLadder fun l =>
      { l with stretch := some (l.point - 1, s.now, s.now) }).govern 1000000)
  else .next s

/-! Sleep (R67, R69, R362). -/

/-- Is every thread of these cores STOPPED or FAULTED? -/
def State.allStopped (s : State) (t : Fin 8) (cs : List (Fin 256)) : Bool :=
  cs.all fun c => threadNos.all fun u =>
    let st := ((s.core ⟨t, c⟩).th u).st
    decide (st = .stopped) || decide (st = .faulted)

def towerCtrl (t : Fin 8) : Nat := endBlock t.val + 0x200
def towerStatus (t : Fin 8) : Nat := endBlock t.val + 0x208

/-- 1 written to a ROW_SLEEP bit (R362). -/
def State.rowSleep (s : State) (t : Fin 8) (row : Nat) : State :=
  if s.allStopped t (rowCores row) then ((s.setField (towerCtrl t) row row 1).setField (towerStatus t) row row 1).modLadder fun l =>
      { l with waking := l.waking.set none (17 * t.val + row) none }
  else (s.setField (towerCtrl t) row row 0).setField (towerStatus t) (16 + row) (16 + row) 1

/-- 0 written to a ROW_SLEEP bit: the row wakes in 20 µs (R362). -/
def State.rowWake (s : State) (t : Fin 8) (row : Nat) : State :=
  let s := s.setField (towerCtrl t) row row 0
  if bitOf (s.reg (towerStatus t)) row ∧ s.power.ladder.waking.get none (17 * t.val + row) = none then
    s.modLadder fun l => { l with waking := l.waking.set none (17 * t.val + row) (some s.now) }
  else s

/-- 1 written to DEEP (R362): the die keeps nothing (R67). -/
def State.towerDeep (s : State) (t : Fin 8) : State :=
  if s.allStopped t coreNos then
    ((s.loseDie t).setField (towerCtrl t) 16 16 1).setField (towerStatus t) 32 32 1 |>.modLadder fun l =>
      { l with waking := l.waking.set none (17 * t.val + 16) none }
  else (s.setField (towerCtrl t) 16 16 0).setField (towerStatus t) 31 16 0xFFFF

/-- 0 written to DEEP: the die wakes in 200 µs (R362). -/
def State.deepWake (s : State) (t : Fin 8) : State :=
  let s := s.setField (towerCtrl t) 16 16 0
  if bitOf (s.reg (towerStatus t)) 32 ∧ s.power.ladder.waking.get none (17 * t.val + 16) = none then
    s.modLadder fun l => { l with waking := l.waking.set none (17 * t.val + 16) (some s.now) }
  else s

def execRowSleepRequest (t : Fin 8) (row : Fin 16) (s : State) : Host.Outcome State Fault Refusal := .next (s.rowSleep t row.val)
def execRowWakeRequest (t : Fin 8) (row : Fin 16) (s : State) : Host.Outcome State Fault Refusal := .next (s.rowWake t row.val)
def execTowerDeepRequest (t : Fin 8) (s : State) : Host.Outcome State Fault Refusal := .next (s.towerDeep t)
def execTowerDeepWakeRequest (t : Fin 8) (s : State) : Host.Outcome State Fault Refusal := .next (s.deepWake t)

/-- The wake of a row, or of a die (`i` = 16), is done after `d` ns. -/
def State.wakeDone (s : State) (t : Fin 8) (i bit d : Nat) : State :=
  match s.power.ladder.waking.get none (17 * t.val + i) with
  | none => s
  | some w =>
    ((s.reach (w + d)).setField (towerStatus t) bit bit 0).modLadder fun l => { l with waking := l.waking.set none (17 * t.val + i) none }

/-- 20 µs after its wake began a row is awake (R67, R362). -/
def execRowWakeDone (t : Fin 8) (row : Fin 16) (s : State) : Host.Outcome State Fault Refusal := .next (s.wakeDone t row.val row.val 20000)
/-- 200 µs after its wake began the die has written its scratchpads and serves again (R69, R362). -/
def execTowerDeepWakeDone (t : Fin 8) (s : State) : Host.Outcome State Fault Refusal := .next (s.wakeDone t 16 32 200000)

/-! Constantan time (R353 to R359). -/

/-- ROLE as it acts: 0 solitary, 1 master, 2 follower (R381). -/
def State.timeRole (s : State) : Nat := if s.field 0x10410 1 0 = 3 then 0 else s.field 0x10410 1 0

/-- TIME_STATUS.LOCKED (R359). -/
def State.timeLocked (s : State) : Bool := if s.timeRole = 2 then s.power.time.locked else s.power.time.s2Done

/-- Does an endpoint receive λ24 on a plane (R354)? -/
def State.hears (s : State) (e p : Nat) : Bool := s.lit p && !s.power.time.lost24.get false (24 * p + e)

/-- Note for each endpoint since when it has received λ24 on no plane (R354, R468). -/
def State.noteBlind (s : State) : State :=
  let note := fun (tab : Tab (Option Nat)) (e : Nat) =>
    tab.set none e (since (tab.get none e) ((List.range 16).all fun p => !s.hears e p) s.now)
  s.modTime fun t => { t with blind := (List.range 24).foldl note t.blind }

/-- At each multiple of 1,024 ns a time frame goes out on λ24 of every plane; `lost` are the endpoints and planes where it does not
arrive, and a plane that an endpoint loses is retired at once (R259, R353, R354). -/
def execTimeFrame (lost : List LostLine) (s : State) : Host.Outcome State Fault Refusal :=
  let s := s.periodic keyFrame 1024
  let note := fun (tab : Tab Bool) (x : LostLine) => tab.set false (24 * x.plane.val + x.endpoint.val) true
  let s := s.modTime fun t => { t with lost24 := lost.foldl note [] }
  let s := lost.foldl (fun s x => if s.lit x.plane.val then s.forceRetire x.plane.val 0x03 else s) s
  .next s.noteBlind

/-- The lane a time flit goes out on: the lowest usable one of a pair, which a pair that carries no packets has too (R293, R356). -/
def State.timeLane (s : State) (pair : Nat) : Option Nat :=
  (pairLanes 0 (24 + pair)).find? fun k =>
    let l := s.ln k
    !l.failed && !l.down && !l.halted && decide (l.init = .idle)

/-- The time flit an X-chiplet sends at a moment (R356). -/
def State.timeFlit (s : State) (pair : Fin 24) : TimeFlit :=
  let h := s.power.time.heard.get none pair.val
  { src := ⟨pair.val / 4, Nat.div_lt_of_lt_mul pair.isLt⟩, fibre := ⟨pair.val % 4, Nat.mod_lt _ (by decide)⟩, locked := s.timeLocked
    stratum := if s.timeRole = 2 then s.power.time.stratum else 0, srcModule := s.moduleId
    tTx := s.clock, echoTx := (h.map fun x => x.sent).getD 0, echoRx := (h.map fun x => x.arrived).getD 0 }

/-- Every 10 µs each X-chiplet sends a time flit on each lit fibre pair, between packets of its lowest usable lane (R356). -/
def execTimeFlitSend (pair : Fin 24) (s : State) : Host.Outcome State Fault Refusal :=
  if !s.lit (16 + pair.val) then .next s
  else match s.timeLane pair.val with
  | none => .next s
  | some k =>
    let s := s.periodic (keyTimeFlit pair.val) 10000
    let s := s.linkOut k (max (100 * s.now) (s.ln k).busyUntil) false
    .next (s.modTime fun t => { t with sent := t.sent.set none pair.val (some (s.timeFlit pair)), sentOn := t.sentOn.set 0 pair.val (k + 1) })

/-- The upstream of a follower: the pair whose latest flit shows LOCKED and the lowest STRATUM below 14, the lowest index of
equals (R357). -/
def upstream (heard : Tab (Option HeardTime)) : Option (Nat × Nat) :=
  (List.range 24).foldl (fun best p =>
    match heard.get none p with
    | none => best
    | some h =>
      if h.locked && decide (h.stratum < 14) then (match best with
        | none => some (p, h.stratum)
        | some (_, st) => if h.stratum < st then some (p, h.stratum) else best)
      else best) none

/-- A step of the count by `d` ns (R358): STEPS rises, and the dump boundary that follows is skipped (R513). What comes at multiples of a period
comes at those that follow on the stepped count. -/
def State.stepTime (s : State) (d : Int) : State :=
  let n := ((s.now : Int) + d).toNat
  ({ s with now := n, marks := s.marks.map fun (m : Nat × Nat) => (m.1, min m.2 n) }.countWrap 0x10418 47 32 1).modTime fun t => { t with skipDump := true }

/-- A time flit arrives (R355 to R359): a follower takes θ from its upstream, steps or steers, and is locked after 16 measurements
within 4 ns. `ppm` is the size of the rate correction, at most 50, which R358 leaves open. -/
def execTimeFlitReceived (pair : Fin 24) (f : TimeFlit) (ppm : Fin 51) (s : State) : Host.Outcome State Fault Refusal :=
  let h : HeardTime := { locked := f.locked, stratum := f.stratum, sent := f.tTx, arrived := s.clock }
  let s := s.modTime fun t => { t with heard := t.heard.set none pair.val (some h) }
  if s.timeRole ≠ 2 then .next s
  else
    match upstream s.power.time.heard with
    | none => .next (s.modTime fun t => { t with source := 31, stratum := 15 })
    | some (p, st) =>
      let s := s.modTime fun t => { t with source := p, stratum := st + 1 }
      if p ≠ pair.val ∨ f.echoTx = 0 then .next s
      else
        let theta : Int := (((s.clock : Int) - f.tTx) - ((f.echoRx : Int) - f.echoTx)) / 2
        let s := s.modTime fun t =>
          let good := if theta.natAbs ≤ 4 then min 16 (t.good + 1) else 0
          { t with
            theta := theta, good := good, lastMeasure := some s.now
            locked := if 5 < theta.natAbs then false else t.locked || decide (good = 16)
            steer := if theta = 0 then 0 else if 0 < theta then -(ppm.val : Int) else ppm.val }
        if s.jobState = 0 ∧ 1000 < theta.natAbs then
          let s := s.stepTime (-theta)
          .next (s.modTime fun t => { t with lastMeasure := some s.now, steer := 0 })
        else .next s

/-- 100 ms without a measurement clear a follower's LOCKED (R359). -/
def execFollowerLockTimeout (s : State) : Host.Outcome State Fault Refusal :=
  match s.power.time.lastMeasure with
  | none => .next s
  | some t =>
    if s.timeRole = 2 then .next ((s.reach (t + 100000000)).modTime fun x => { x with locked := false, good := 0, lastMeasure := none })
    else .next s

/-- A 64-bit write of TIME_SET (R358). -/
def State.timeSet (s : State) (v : Word) : State :=
  if s.timeRole ≠ 2 ∧ s.jobState = 0 then s.stepTime ((v.toNat : Int) - s.clock) else s.setField 0x10418 62 62 1

def execTimeSet (value : Word) (s : State) : Host.Outcome State Fault Refusal := .next (s.timeSet value)

/-! REFCLK (R539). -/

/-- REFCLK stops: every PLL holds its last frequency, and no fault decision is taken. -/
def execRefclkLost (s : State) : Host.Outcome State Fault Refusal :=
  if s.power.refLost.isNone ∧ s.power.refSeen then
    .next ((s.count 0x100A0 23 16 1).modPower fun p => { p with refLost := some s.now })
  else .next s

/-- REFCLK returns: the PLLs relock by steering, with no step of any count. -/
def execRefclkRestored (s : State) : Host.Outcome State Fault Refusal :=
  .next (s.modPower fun p => { p with refLost := none, refSeen := true })

/-! The bond ledger (R334). -/

/-- Rainflow counting, newest point first: the inner range of four points closes when both its neighbours are at least as wide;
the damage, in 1/800 of a unit, is twice the square of the range in 1/16 °C, and ranges below 2 °C add nothing. -/
def rainflow (fuel : Nat) (pts : List Int) (damage : Nat) : List Int × Nat :=
  match fuel, pts with
  | fuel + 1, d :: c :: b :: a :: rest =>
    let r := (b - c).natAbs
    if r ≤ (d - c).natAbs ∧ r ≤ (b - a).natAbs then
      rainflow fuel (d :: a :: rest) (damage + if 32 ≤ r then 2 * r * r else 0)
    else (pts, damage)
  | _, _ => (pts, damage)

/-- One modelled temperature of a bond layer: turning points with a hysteresis of 1 °C. -/
def turnPoint (pts : List Int) (t : Int) : List Int :=
  match pts with
  | [] => [t]
  | [a] => if 16 ≤ (t - a).natAbs then [t, a] else [a]
  | a :: b :: rest =>
    if (b < a ∧ a ≤ t) ∨ (a < b ∧ t ≤ a) then t :: b :: rest
    else if 16 ≤ (t - a).natAbs then t :: a :: b :: rest
    else a :: b :: rest

def State.ledger (s : State) (t : Nat) (temp : Int) : State :=
  s.modVault t fun v =>
    let r := rainflow v.turning.length (turnPoint v.turning temp) v.damage
    { v with turning := r.1, damage := r.2 }

/-- Half cycles of the ranges left open. -/
def openRanges : List Int → Nat
  | a :: b :: rest => (let r := (a - b).natAbs; if 32 ≤ r then r * r else 0) + openRanges (b :: rest)
  | _ => 0

/-- Once every 24 h the ranges left open count as half cycles and the residue clears (R334). -/
def execLedgerDailyClose (t : Fin 8) (s : State) : Host.Outcome State Fault Refusal :=
  let s := s.periodic (keyDaily t.val) 86400000000000
  .next (s.modVault t.val fun v => { v with damage := v.damage + openRanges v.turning, turning := [] })

/-- Once per second DAMAGE takes what has been added, and ALERT is set at 35,000 reference cycles (R334, R346). -/
def execLedgerDamageUpdate (t : Fin 8) (s : State) : Host.Outcome State Fault Refusal :=
  let s := s.periodic (keyLedger t.val) 1000000000
  let off := endBlock t.val + 0x100
  let sum := min (s.field off 39 0 + (s.vault t.val).damage / 800) (2 ^ 40 - 1)
  let s := (s.setKept off 39 0 sum).modVault t.val fun v => { v with damage := v.damage % 800 }
  .next (if 35840000 ≤ sum then s.setKept off 63 63 1 else s)

end Sys2Proof.Machine
end

