-- ==== Sys2Proof/Machine/Security.lean ====
section
/-!
DEFINITION. The security engine: signature state (R445, R446) and signed records (R450, R451).
-/
namespace Sys2Proof.Machine
open Sys2Proof

def State.ots (s : State) (c1 : Bool) : Ots := if c1 then s.mod.start.ots1 else s.mod.start.ots0
def State.modOts (s : State) (c1 : Bool) (f : Ots → Ots) : State :=
  s.modStart fun x => if c1 then { x with ots1 := f x.ots1 } else { x with ots0 := f x.ots0 }

/-- A chiplet's MRAM write window (R377). -/
def State.chipWindow (s : State) (c1 : Bool) : Bool := if c1 then s.power.thermal.window1 else s.power.thermal.window0

/-- The last index, kept for the successor (R445). -/
def lastIndex : Nat := 2 ^ 30 - 1

/-- Bytes common to every record (R451), before KEY_OR_DIGEST. -/
def State.recordHead (s : State) (kind : Nat) (c1 : Bool) (generation time : Nat) (nonce : List Byte) (tag : Nat) : List Byte :=
  let st := s.mod.start
  let img := fun (i : Nat) => st.running.get none i
  let hash := fun (i : Nat) => match img i with
    | some r => sha256 r.header
    | none => List.replicate 32 0
  let ver := fun (i : Nat) => bytesOf 4 (match img i with
    | some r => r.version
    | none => 0)
  let m := boolBit c1
  bytesOf 4 0x5A455631 ++ bytesOf 2 kind ++ bytesOf 1 m ++ bytesOf 1 generation ++ bytesOf 8 s.serial ++ bytesOf 2 s.moduleId ++
  bytesOf 1 st.stage ++ bytesOf 1 s.mod.pair.role ++ bytesOf 4 0 ++ bytesOf 8 time ++ nonce ++
  (hash m ++ hash 2 ++ hash 3) ++ (ver m ++ ver 2 ++ ver 3) ++
  ((List.range 3).flatMap fun k => bytesOf 2 (s.field (0x1B010 + 8 * k) 31 16)) ++ bytesOf 6 0 ++ bytesOf 8 tag

/-- The engine reserves 1,024 more indexes, at once and only while its window is open (R445). -/
def State.otsReserve (s : State) (c1 : Bool) : State :=
  if s.chipWindow c1 && decide ((s.ots c1).reserved - (s.ots c1).next ≤ 128) && !(s.ots c1).replacing then
    s.modOts c1 fun o => { o with reserved := o.next + 1024 }
  else s

/-- The identity key is replaced by a successor signed with the last index (R446). -/
def State.otsReplace (s : State) (c1 : Bool) : State :=
  let o := s.ots c1
  if s.chipWindow c1 && o.replacing then
    let g := o.generation + 1
    let rec' := s.recordHead 4 c1 g s.now (List.replicate 32 0) 0 ++ identityKey c1 g
    s.modOts c1 fun o => { o with
      next := 0, reserved := 1024, generation := g % 256, replacing := false
      successors := o.successors ++ [rec' ++ identitySignature c1 o.generation lastIndex rec'] }
  else s

/-- What waits for a window is tried again at every Bimetal evaluation (R445, R446). -/
def State.otsRetry (s : State) : State :=
  (((s.otsReplace false).otsReserve false).otsReplace true).otsReserve true

/-- Can the engine sign now? -/
def State.canSign (s : State) (c1 : Bool) : Bool := !(s.ots c1).replacing && decide ((s.ots c1).next < (s.ots c1).reserved)

/-- A signature with the next index, or a refusal, which is counted (R445). -/
def State.otsSign (s : State) (c1 : Bool) (message : List Byte) : State × Option (List Byte) :=
  let o := s.ots c1
  if s.canSign c1 then
    let s := s.modOts c1 fun o => { o with next := o.next + 1, replacing := decide (lastIndex ≤ o.next + 1) }
    ((s.otsReplace c1).otsReserve c1, some (identitySignature c1 o.generation o.next message))
  else (s.count 0x1B008 23 16 1, none)

/-- At every start NEXT takes the stored RESERVED_END, and the engine makes its first reservation, or replaces a key whose indexes are used up
(R445, R446). -/
def State.otsStart (s : State) (c1 : Bool) : State :=
  ((s.modOts c1 fun o => { o with next := o.reserved, replacing := o.replacing || decide (lastIndex ≤ o.reserved) }).otsReplace c1).otsReserve c1

/-- The digest of the package of the running or enabled job; 0 if none (R451). -/
def State.jobDigest (s : State) : List Byte :=
  if 3 ≤ s.jobState then sha256 s.mod.job.live else List.replicate 32 0

end Sys2Proof.Machine
end

