-- ==== Sys2Proof/Machine/Thermal.lean ====
section
/-!
DEFINITION. The Bimetal thermal model, the diodes, throttle, shutdown and the MRAM write windows (R370 to R378).
-/
namespace Sys2Proof.Machine
open Sys2Proof

/-! Diodes (R373). -/

/-- The four readings of a die. -/
def Thermal.readings (t : Thermal) (die : Nat) : List (Option Int) := (List.range 4).map fun i => t.diodes.get none (4 * die + i)

def insertSorted (x : Int) : List Int → List Int
  | [] => [x]
  | y :: ys => if x ≤ y then x :: y :: ys else y :: insertSorted x ys

/-- Twice the median of a die's readings: of four, the mean of the middle two. -/
def median2 (xs : List Int) : Int :=
  let s := xs.foldl (fun acc x => insertSorted x acc) []
  s.getD ((s.length - 1) / 2) 0 + s.getD (s.length / 2) 0

/-- A diode is invalid outside −20 °C to 150 °C, or more than 15 °C from the median of its die (R373). -/
def Thermal.valid (t : Thermal) (die i : Nat) : Bool :=
  match t.diodes.get none (4 * die + i) with
  | none => false
  | some x =>
    let all := (t.readings die).filterMap id
    decide (-320 ≤ x) && decide (x ≤ 2400) && decide ((2 * x - median2 all).natAbs ≤ 480)

/-- The valid readings of a die. -/
def Thermal.validReadings (t : Thermal) (die : Nat) : List Int :=
  ((List.range 4).filter fun i => t.valid die i).filterMap fun i => t.diodes.get none (4 * die + i)

def maxInt : List Int → Option Int
  | [] => none
  | x :: xs => some (xs.foldl max x)

/-! Nodes. -/

/-- The compute rows and vault dies (R370). -/
def hotNodes : List Nat := List.range 136

def nodeDie (n : Nat) : Nat := if n < 128 then n / 16 else n - 128

/-- The temperature that drives throttle and shutdown: the model's, or in conservative mode the highest valid diode plus 5 °C, or the
model plus 10 °C where fewer than two are valid (R374). -/
def Thermal.drive (t : Thermal) (n : Nat) : Int :=
  if t.conservative then
    let vs := t.validReadings (nodeDie n)
    match maxInt vs with
    | some m => if 2 ≤ vs.length then m + 80 else t.temp n + 160
    | none => t.temp n + 160
  else t.temp n

def Thermal.anyHot (t : Thermal) (limit : Int) : Bool := hotNodes.any fun n => decide (limit ≤ t.drive n)
def Thermal.allCool (t : Thermal) (limit : Int) : Bool := hotNodes.all fun n => decide (t.drive n ≤ limit)

/-- The hottest row or vault node, the lowest index of equals (R389). -/
def Thermal.hottest (t : Thermal) : Nat := hotNodes.foldl (fun b n => if t.drive b < t.drive n then n else b) 0

/-- The warning temperature of a node in 1/16 °C (R370). -/
def warnTemp (n : Nat) : Option Int :=
  if n < 144 then none
  else if n ≤ 152 then some (85 * 16)
  else if n ≤ 160 then some (100 * 16)
  else if n ≤ 232 then some (95 * 16)
  else if n ≤ 238 then some (90 * 16)
  else if n ≤ 240 then none
  else if n ≤ 247 then some (70 * 16)
  else if n ≤ 283 then none
  else if n ≤ 291 then some (105 * 16)
  else none

def Thermal.warns (t : Thermal) (n : Nat) : Bool := match warnTemp n with
  | some w => decide (w ≤ t.temp n)
  | none => false

/-! Shutdown, throttle, windows. -/

/-- Thermal shutdown: both enables fall, and the cause is kept (R376, R416). -/
def State.shutdown (s : State) (cause : Nat) : State :=
  if s.power.thermal.shutdown then s
  else
    let off := fun (f : Feed) => { Feed.off with mv := f.mv, amps := f.amps, fails := f.fails, cause := f.cause, offAt := s.now }
    let s := (s.modFeed false off).modFeed true off
    let s := (s.modThermal fun t => { t with shutdown := true }).setKept 0x1A008 62 61 cause
    (s.decideFault 0x01).endStart.losePower

/-- k of R375 at an evaluation. -/
def Thermal.throttle (t : Thermal) (now : Nat) : Thermal :=
  let calm := fun (o : Option Nat) (d : Nat) => match o with
    | some x => decide (x + d ≤ now)
    | none => true
  if t.anyHot 1600 && calm t.rose 100000 then
    (if t.steps < 32 then { t with steps := t.steps + 1, rose := some now, changed := some now } else t)
  else if t.allCool 1552 && calm t.changed 1000000 && decide (0 < t.steps) then { t with steps := t.steps - 1, changed := some now }
  else t

/-- A window closes above 90 °C or below 0 °C, and opens between 2 °C and 88 °C (R377). -/
def windowNext (w : Bool) (t : Int) : Bool :=
  if t < 0 ∨ 1440 < t then false else if 32 ≤ t ∧ t ≤ 1408 then true else w

/-- Both windows follow their nodes; a window that opens applies its queue (R377, R378). -/
def State.windows (s : State) : State :=
  let t := s.power.thermal
  let w0 := windowNext t.window0 (t.temp 239)
  let w1 := windowNext t.window1 (t.temp 240)
  let s := s.modThermal fun t => { t with window0 := w0, window1 := w1 }
  let s := if w0 then s.openWindow false else s
  if w1 then s.openWindow true else s

/-- The inlet temperature the model uses, in °C (R372, R388). -/
def State.inlet (s : State) : Nat := if bitOf (s.reg 0x1A000) 47 then min 100 (s.field 0x1A000 39 32) else 50

/-- An evaluation of the Bimetal model, at every 100 µs, or 10 µs while a row or vault node is hot (R371): the modelled temperatures
are its inputs' doing and come as operands, but for the coolant inlet, an input only (R370, R372). -/
def execBimetalEvaluation (temps : List NodeTemp) (s : State) : Host.Outcome State Fault Refusal :=
  let s := s.periodic keyBimetal (if s.power.thermal.fast then 10000 else 100000)
  let put := fun (tab : Tab Int) (x : NodeTemp) => if x.node ≤ 292 then tab.set 320 x.node x.temp else tab
  let s := s.modThermal fun t => { t with temps := (temps.foldl put t.temps).set 320 292 (16 * (s.inlet : Int)) }
  let s := s.modThermal fun t => { t with fast := if t.anyHot 1472 then true else if t.allCool 1456 then false else t.fast }
  let s := s.modThermal fun t => t.throttle s.now
  let s := if s.power.thermal.anyHot 1840 then s.shutdown 1 else s
  let s := s.windows.otsRetry
  let s := if s.light.feed.isSome then s.setCodes else s
  .next ((List.range 8).foldl (fun s i => s.ledger i (s.power.thermal.temp (136 + i))) s)

/-- Every 10 µs the diodes of a die are sampled: a valid reading of 118 °C shuts the module down, and in conservative mode the
values they drive are renewed (R373, R374, R376). -/
def execDiodeSample (die : Fin 8) (a b c d : Int) (s : State) : Host.Outcome State Fault Refusal :=
  let s := s.periodic (keyDiode die.val) 10000
  let put := fun (tab : Tab (Option Int)) (x : Nat × Int) => tab.set none (4 * die.val + x.1) (some x.2)
  let s := s.modThermal fun t => { t with diodes := [(0, a), (1, b), (2, c), (3, d)].foldl put t.diodes }
  let t := s.power.thermal
  if (t.validReadings die.val).any fun x => decide (1888 ≤ x) then .next (s.shutdown 2)
  else if t.conservative && t.anyHot 1840 then .next (s.shutdown 1)
  else .next s

/-- THM_DIEt, for the counts it holds. -/
def dieReg (die : Nat) : Nat := 0x1A100 + 8 * die

/-- Once per second each valid diode of a die is compared with the model's estimate at its position (R373). In
conservative mode, whose ceiling is lower, the governor evaluates at once (R360, R374). -/
def execModelValidation (die : Fin 8) (a b c d : Int) (s : State) : Host.Outcome State Fault Refusal :=
  let s := s.periodic (keyCompare die.val) 1000000000
  let t := s.power.thermal
  let errs := ((List.range 4).filter fun i => t.valid die.val i).filterMap fun i =>
    (t.diodes.get none (4 * die.val + i)).map fun x => [a, b, c, d].getD i 0 - x
  let worst := errs.foldl (fun m e => if m.natAbs < e.natAbs then e else m) 0
  let s := s.modThermal fun t => { t with errMax := t.errMax.set 0 die.val worst.natAbs }
  let bad := decide (errs.length < 2) || decide (160 < worst.natAbs)
  let big := bad || decide (64 < worst.natAbs)
  let small := !big && (List.range 8).all fun i => decide (s.power.thermal.errMax.get 0 i ≤ 64)
  let s := s.modThermal fun t => { t with smallSince := if big then none else if small then since t.smallSince true s.now else t.smallSince }
  if bad then .next (((s.count 0x1A008 7 0 1).modThermal fun t => { t with conservative := true }).govern 1000000)
  else if 64 < worst.natAbs then
    let s := (s.count (dieReg die.val) 15 8 1).mramWrite (.coefficient die.val) [t.coefUp.get 0 die.val, t.coefDown.get 0 die.val]
    .next (s.modThermal fun t =>
      if 0 < worst then { t with coefUp := t.coefUp.modify 0 die.val (· + 1) } else { t with coefDown := t.coefDown.modify 0 die.val (· + 1) })
  else .next s

/-- After 60 s of small errors on every die the model leaves conservative mode, unless it is held there (R374). -/
def execConservativeExit (s : State) : Host.Outcome State Fault Refusal :=
  match s.power.thermal.smallSince with
  | none => .next s
  | some t =>
    if s.power.thermal.conservative ∧ !bitOf (s.reg 0x1A000) 0 then
      .next ((s.reach (t + 60000000000)).modThermal fun x => { x with conservative := false })
    else .next s

/-- A write of THM_CTRL.INLET sets INLET_VALID (R372, R388, R423). -/
def State.setInlet (s : State) (v : Nat) : State :=
  ((s.setField 0x1A000 39 32 v).setField 0x1A000 47 47 1).modThermal fun t => { t with inletAt := some s.now }

/-- 10 s without a write clear INLET_VALID (R372). -/
def execInletTimeout (s : State) : Host.Outcome State Fault Refusal :=
  match s.power.thermal.inletAt with
  | none => .next s
  | some t => .next (((s.reach (t + 10000000000)).setField 0x1A000 47 47 0).modThermal fun x => { x with inletAt := none })

end Sys2Proof.Machine
end

