-- ==== Sys2Proof/Machine/JobCheck.lean ====
section
/-!
DEFINITION. The enable check (R222): the rows of its table in order, each finding the first entry for which it holds.
-/
namespace Sys2Proof.Machine
open Sys2Proof

/-- Where a row holds: the section and entry that JOB_DETAIL gives. -/
structure Finding where
  sect : Nat
  entry : Nat
  deriving DecidableEq, Repr

def hdr (off : Nat) : Finding := { sect := 0xFF, entry := off }
def none0 : Finding := { sect := 0, entry := 0 }

/-- The first finding of a list of conditions. -/
def firstOf (xs : List (Bool × Finding)) : Option Finding := (xs.find? fun x => x.1).map fun x => x.2

/-- The first entry below `n` for which `p` holds. -/
def firstEntry (sect n : Nat) (p : Nat → Bool) : Option Finding :=
  ((List.range n).find? p).map fun i => { sect := sect, entry := i }

def orElse (a : Option Finding) (b : Unit → Option Finding) : Option Finding := match a with
  | some x => some x
  | none => b ()

/-! Row 0x30: form. -/

def zeros (p : List Byte) (off n : Nat) : Bool := decide (pkgNat p off n = 0)

/-- Sizes of R208: entry size, and the count a type must have; none where it varies. -/
def entrySize (type : Nat) : Option Nat :=
  match type with
  | 2 => some 32 | 3 => some 64 | 4 => some 3072 | 5 => some 64 | 6 => some 16 | 8 => some 16 | 9 => some 8 | _ => none
def countOk (type n : Nat) : Bool :=
  match type with
  | 1 => decide (1 ≤ n) && decide (n ≤ 2048)
  | 2 => decide (n = 2048) | 3 => decide (n ≤ 65536) | 4 => decide (n = 24) | 5 => decide (n = 288) | 6 => decide (n = 32)
  | 7 => decide (n ≤ 64) | 8 => decide (n ≤ 4096) | 9 => decide (n = 1024) | _ => false
def lengthOk (x : Section) : Bool :=
  match entrySize x.type with
  | some k => decide (x.length = x.count * k)
  | none => x.type != 7 || decide (x.length = 8 + 4 * x.count)

/-- One entry of the section table, in use or not. -/
def tableFinding (p : List Byte) (i : Nat) : Option Finding :=
  let x := pkgEntry p i
  let b := 0x40 + 16 * i
  if pkgSections p ≤ i then firstOf [(!zeros p b 16, hdr b)]
  else firstOf
    [(x.type = 0 || decide (9 < x.type) || ((pkgTable p).take i).any (fun y => decide (y.type = x.type)), hdr b),
     (!countOk x.type x.count, hdr (b + 4)),
     (decide (x.offset % 32 ≠ 0), hdr (b + 8)),
     (decide (p.length < x.offset + x.length) || !lengthOk x, hdr (b + 12))]

def headerFinding (p : List Byte) : Option Finding :=
  orElse (firstOf
    [(decide (pkgNat p 0 4 ≠ 0x4A374C4F), hdr 0), (decide (pkgNat p 4 2 ≠ 1), hdr 4), (decide (4 ≤ pkgFlags p), hdr 6),
     (decide (pkgNat p 8 4 ≠ p.length), hdr 8), (pkgSections p = 0 || decide (16 < pkgSections p), hdr 0xC),
     (decide (pkgPstat p % 32 ≠ 0), hdr 0x24), (!zeros p 0x2D 1, hdr 0x2D), (!zeros p 0x38 8, hdr 0x38)]) fun _ =>
  orElse ((List.range 16).findSome? (tableFinding p)) fun _ =>
  orElse (firstOf [(!zeros p 0x140 0xC0, hdr 0x140)]) fun _ =>
  ([1, 2, 4, 5].find? fun t => (pkgSection p t).isNone).map fun t => { sect := t, entry := 0xFFFFFFFF }

/-- An image of the programs section whose bytes 4 to 7 are not 0 or that leaves its section; an image with N out of range is left to
row 0x25. -/
def imageBad (p : List Byte) (x : Section) (off : Nat) : Bool :=
  !zeros p (off + 4) 4 || decide (x.offset + x.length < off + 8) ||
  (decide (pkgNat p off 4 ≤ 8192) && decide (x.offset + x.length < off + 8 + 8 * pkgNat p off 4))

def imageFinding (p : List Byte) : Option Finding :=
  match pkgSection p 1 with
  | none => none
  | some x =>
    let offs := pkgImages p
    let bad := fun (off : Nat) => pkgNat p off 4 = 0 || decide (8192 < pkgNat p off 4)
    let upTo := match (List.range offs.length).find? fun i => bad (offs.getD i 0) with
      | some i => i + 1
      | none => offs.length
    firstEntry 1 upTo fun i => imageBad p x (offs.getD i 0)

/-- The bounds of a section hold in bytes of the section. -/
def sectionFinding (p : List Byte) : Option Finding :=
  orElse (imageFinding p) fun _ =>
  orElse (firstEntry 2 (secCount p 2) fun i =>
    (List.range 8).any (fun t => decide (32 ≤ coreOwn p i t)) || decide (secNat p 2 (32 * i + 11) 5 ≠ 0) ||
    (List.range 8).any (fun t => decide (8192 ≤ corePc p i t))) fun _ =>
  orElse (firstEntry 3 (secCount p 3) fun i =>
    let g := fun off n => secNat p 3 (64 * i + off) n
    decide (1024 ≤ g 4 2) || decide (1024 ≤ g 8 2) || decide (g 12 4 % 32 ≠ 0) || decide (g 20 4 % 32 ≠ 0) || decide (g 26 2 ≠ 0) ||
    decide (g 44 20 ≠ 0)) fun _ =>
  orElse (firstEntry 6 (secCount p 6) fun i =>
    let g := fun off n => secNat p 6 (16 * i + off) n
    decide (g 1 3 ≠ 0) || decide (2 ^ 20 ≤ g 4 4)) fun _ =>
  orElse (if (pkgSection p 7).isSome && decide (secNat p 7 4 4 ≠ 0) then some { sect := 7, entry := 0 } else none) fun _ =>
  orElse (firstEntry 7 (secCount p 7) fun i => decide (secNat p 7 (8 + 4 * i + 3) 1 ≠ 0)) fun _ =>
  firstEntry 8 (secCount p 8) fun i =>
    let g := fun off n => secNat p 8 (16 * i + off) n
    decide (g 2 2 ≠ 0) || g 1 1 = 0 || decide (5 < g 1 1) || (decide (8 ≤ g 0 1) && decide (g 0 1 ≠ 31)) || g 4 4 = 0 ||
    decide (g 4 4 % 32 ≠ 0) || decide (g 8 8 % 32 ≠ 0)

def row30 (p : List Byte) : Option Finding := orElse (headerFinding p) fun _ => sectionFinding p

/-! Rows 0x31 and 0x32: areas (R202, R219). -/

/-- Row length in bytes (R142). -/
def rowBytes (units : Nat) : Nat := 32 * (if units % 2048 = 0 then 2048 else units % 2048)

/-- A: the length of a landing area. -/
def Place'.areaLen (e : Place') : Nat := rowBytes e.rowUnits * e.caps.sum

/-- A landing area on a tower of this module: what R202 shares by, and its spans. -/
structure Area where
  tower : Nat
  base : Nat
  half : Nat
  rowUnits : Nat
  caps : List Nat
  deriving DecidableEq, Repr

def Area.len (a : Area) : Nat := rowBytes a.rowUnits * a.caps.sum
def Area.spans (a : Area) : List (Nat × Nat) := [(a.base, a.len)] ++ if a.half = 0 then [] else [(a.base + a.half, a.len)]

/-- The areas of an entry that lie on this module in towers 0 to 7: home first. -/
def Place'.areas (e : Place') (module : Nat) : List Area :=
  (if e.homeModule = module ∧ e.homeTower < 8 then [⟨e.homeTower, e.base, e.half, e.rowUnits, e.caps⟩] else []) ++
  (if e.hasAlt ∧ e.altModule = module ∧ e.altTower < 8 then [⟨e.altTower, e.altBase, e.half, e.rowUnits, e.caps⟩] else [])

def spanEnd (a : Area) : Nat := a.base + a.half + a.len

/-- A region (R219): endpoint, offset, length. Of an offset in the hashed region bits 48:41 are ignored. -/
def regionAt (p : List Byte) (i : Nat) : Nat × Nat × Nat :=
  let e := secNat p 8 (16 * i) 1
  let off := secNat p 8 (16 * i + 8) 8
  (e, if e = 31 then off / 2 ^ 49 * 2 ^ 49 + off % 2 ^ 41 else off, secNat p 8 (16 * i + 4) 4)

def pstatLen (p : List Byte) : Nat := 8 * secCount p 3

def row31 (p : List Byte) (module : Nat) : Option Finding :=
  let d := pkgVaultDirect p
  orElse (firstOf [(decide (2 ^ 31 < d) || decide (d % 2 ^ 26 ≠ 0), hdr 0x20)]) fun _ =>
  orElse (firstEntry 3 (secCount p 3) fun i => ((placeAt p i).areas module).any fun a => decide (d < spanEnd a)) fun _ =>
  orElse (firstOf [(decide (d < pkgPstat p + pstatLen p), hdr 0x24), (decide (d < pkgDump p + 2 ^ 24), hdr 0x30)]) fun _ =>
  firstEntry 8 (secCount p 8) fun i =>
    let (e, off, len) := regionAt p i
    decide ((if e = 31 then hashedLimit else d) < off + len)

def overlap (a b : Nat × Nat) : Bool := decide (0 < a.2) && decide (0 < b.2) && decide (a.1 < b.1 + b.2) && decide (b.1 < a.1 + a.2)

/-- Do two areas clash: they overlap, and are not one area of entries that may share it (R202)? -/
def areasClash (a b : Area) (share : Bool) : Bool :=
  !(share && decide (a = b)) && decide (a.tower = b.tower) && a.spans.any fun x => b.spans.any fun y => overlap x y

/-- May two entries share an area: of different layers, with the same home tower, BASE, HALF, ROW_UNITS and capacities (R202)? -/
def mayShare (e f : Place') : Bool :=
  decide (e.layer ≠ f.layer) && decide (e.homeModule = f.homeModule) && decide (e.homeTower = f.homeTower) && decide (e.base = f.base) &&
  decide (e.half = f.half) && decide (e.rowUnits = f.rowUnits) && decide (e.caps = f.caps)

/-- Entry `i` against itself and the entries before it. Nothing is tested of an entry with no area on this module (R211). -/
def placeClash (p : List Byte) (module i : Nat) : Bool :=
  let e := placeAt p i
  let mine := e.areas module
  (!mine.isEmpty && decide (e.half ≠ 0) && decide (e.half < e.areaLen)) ||
  (match mine with
   | [a, b] => areasClash a b false
   | _ => false) ||
  (List.range i).any fun j =>
    let f := placeAt p j
    (f.areas module).any fun b => mine.any fun a => areasClash a b (mayShare e f)

/-- Every span of the landing areas, by tower. -/
def landingSpans (p : List Byte) (module : Nat) : List (Nat × Nat × Nat) :=
  (List.range (secCount p 3)).flatMap fun i => ((placeAt p i).areas module).flatMap fun a => a.spans.map fun x => (a.tower, x)

def row32 (p : List Byte) (module : Nat) : Option Finding :=
  let land := landingSpans p module
  let status := (pkgPstat p, pstatLen p)
  let dump := (pkgDump p, 2 ^ 24)
  orElse (firstEntry 3 (secCount p 3) (placeClash p module)) fun _ =>
  orElse (firstOf
    [(land.any fun x => overlap x.2 status, hdr 0x24), ((land.any fun x => overlap x.2 dump) || overlap status dump, hdr 0x30)]) fun _ =>
  firstEntry 8 (secCount p 8) fun i =>
    let (e, span) := regionAt p i
    (decide (e < 8) && ((land.any fun x => decide (x.1 = e) && overlap x.2 span) || overlap status span || overlap dump span)) ||
    (List.range i).any fun j => decide ((regionAt p j).1 = e) && overlap (regionAt p j).2 span

/-! Routes, cores, placement, keepers, witnesses. -/

/-- An endpoint takes part in a job: neither disabled nor held in reset. -/
def State.endEnabled (s : State) (e : Nat) : Bool := !(s.endp e).disabled

def pkgRoute (p : List Byte) (m : Nat) : Nat := secNat p 9 (8 * m) 8

def row35 (s : State) (p : List Byte) : Option Finding :=
  let bad := fun (m : Nat) =>
    let r := pkgRoute p m
    decide (2 ^ 63 ≤ r) && decide (m ≠ s.moduleId) && (decide (r % 2 ^ 24 = 0) ||
      (List.range 24).any fun f => decide (r / 2 ^ f % 2 = 1) && !s.endEnabled (16 + f / 4))
  let unrouted := fun (m : Nat) => decide (m ≠ s.moduleId) && decide (pkgRoute p m < 2 ^ 63)
  orElse (firstEntry 9 (secCount p 9) bad) fun _ =>
  firstEntry 3 (secCount p 3) fun i =>
    let e := placeAt p i
    unrouted e.homeModule || (e.hasAlt && unrouted e.altModule)

def row25 (p : List Byte) : Option Finding :=
  let offs := pkgImages p
  firstEntry 1 offs.length fun i => pkgNat p (offs.getD i 0) 4 = 0 || decide (8192 < pkgNat p (offs.getD i 0) 4)

def row26 (s : State) (p : List Byte) : Option Finding :=
  firstEntry 2 (secCount p 2) fun i =>
    (!s.coreEnabled (i / 256) (i % 256) && ((coreImage p i).isSome || (List.range 8).any fun t => decide (coreOwn p i t ≠ 0))) ||
    (match coreImage p i with
     | some n => decide (secCount p 1 ≤ n)
     | none => false)

def row29 (p : List Byte) : Option Finding :=
  firstEntry 2 (secCount p 2) fun i => (List.range 8).any fun t =>
    coreStart p i t && ((coreImage p i).isNone || decide (coreLength p i ≤ corePc p i t))

/-- Two threads of a core claim unit bit `b`. -/
def twice (p : List Byte) (i b : Nat) : Bool :=
  decide (2 ≤ ((List.range 8).filter fun t => decide (coreOwn p i t / 2 ^ b % 2 = 1)).length)

def row22 (p : List Byte) : Option Finding := firstEntry 2 (secCount p 2) fun i => [0, 1, 2, 3].any fun b => twice p i b
def row23 (p : List Byte) : Option Finding := firstEntry 2 (secCount p 2) fun i => twice p i 4

def row21 (s : State) (p : List Byte) : Option Finding :=
  firstEntry 3 (secCount p 3) fun i =>
    let e := placeAt p i
    decide (e.homeModule = s.moduleId) && !s.coreEnabled e.homeTower e.homeCore

def row24 (s : State) (p : List Byte) : Option Finding :=
  firstEntry 3 (secCount p 3) fun i =>
    let e := placeAt p i
    e.hasAlt && ((decide (e.altModule = s.moduleId) && !s.coreEnabled e.altTower e.altCore) ||
      (decide (e.altModule = e.homeModule) && decide (e.altTower = e.homeTower) && decide (e.altCore = e.homeCore)))

/-- A keeper entry breaks R217: a window too long, not aligned or past the end of the scratchpad, whether or not a core is named; or a
core that is absent or disabled or has no program. -/
def row27 (s : State) (p : List Byte) : Option Finding :=
  firstEntry 6 (secCount p 6) fun i =>
    let g := fun off n => secNat p 6 (16 * i + off) n
    let core := g 0 1
    let win := fun (off len : Nat) => decide (2048 < len) || decide (off % 32 ≠ 0) || (decide (0 < len) && decide (2 ^ 20 < off + 32 * len))
    win (g 4 4) (g 8 2) || win (g 12 4) (g 10 2) ||
    (decide (core ≠ 0xFF) && (!s.coreEnabled (i / 4) core || (coreImage p (i / 4 * 256 + core)).isNone))

def witPeriod (p : List Byte) : Nat := secNat p 7 0 2
def witCount (p : List Byte) : Nat := secNat p 7 2 2
def witEntry (p : List Byte) (i : Nat) : Nat × Nat × Nat :=
  (secNat p 7 (8 + 4 * i) 1, secNat p 7 (8 + 4 * i + 1) 1, secNat p 7 (8 + 4 * i + 2) 1)

/-- The witness schedule breaks R218; its entries are tested whatever PERIOD is. -/
def row28 (s : State) (p : List Byte) : Option Finding :=
  if (pkgSection p 7).isNone then none
  else
    orElse (firstOf [(decide (witCount p ≠ secCount p 7) || (decide (witPeriod p ≠ 0) && witCount p = 0), { sect := 7, entry := 0 })]) fun _ =>
    firstEntry 7 (secCount p 7) fun i =>
      let (e, c, t) := witEntry p i
      let own := coreOwn p (e * 256 + c) t
      !s.coreEnabled e c || decide (8 ≤ t) || (coreImage p (e * 256 + c)).isNone || own / 16 % 2 = 0 || own % 16 = 0

/-! Landing and channel tables (R212 to R216). -/

/-- Is lane (src, p) granted slot `slot` of endpoint `e` by the package? -/
def pkgGrants (p : List Byte) (e slot lane : Nat) : Bool := decide (secNat p 4 (3072 * e + 48 * slot + lane / 8) 1 / 2 ^ (lane % 8) % 2 = 1)

def landingWidth (e : Nat) : Nat := if e < 8 then 192 else if e < 16 then 46 else if e < 22 then 128 else 8

def row13 (p : List Byte) : Option Finding :=
  firstEntry 4 1536 fun i => (List.range 16).any fun l => pkgGrants p (i / 64) (i % 64) (16 * (i / 64) + l)

def row14 (p : List Byte) : Option Finding :=
  (List.range 24).findSome? fun e => ((List.range 384).find? fun l =>
    decide (l / 16 ≠ e) && !(decide (8 ≤ e) && decide (e < 16) && decide (8 ≤ l / 16) && decide (l / 16 < 16)) &&
    !(List.range 64).any fun slot => pkgGrants p e slot l).map fun l => { sect := 4, entry := 0x80000000 + e * 0x10000 + l }

def row11 (p : List Byte) : Option Finding :=
  firstEntry 4 1536 fun i => decide (landingWidth (i / 64) < ((List.range 384).filter fun l => pkgGrants p (i / 64) (i % 64) l).length)

def ownerOk (v : Nat) : Bool :=
  decide (v < 8) || (decide (0x10 ≤ v) && decide (v ≤ 0x17)) || (decide (0x20 ≤ v) && decide (v ≤ 0x27)) || decide (v = 0xFE) || decide (v = 0xFF)

def row15 (p : List Byte) : Option Finding := firstEntry 5 18432 fun i => !ownerOk (secNat p 5 i 1)

/-- The owners of a channel's table. -/
def chanOwners (p : List Byte) (c : Nat) : List Nat := (List.range 64).map fun i => secNat p 5 (64 * c + i) 1

def row12 (p : List Byte) : Option Finding :=
  ((List.range 288).find? fun c => !(chanOwners p c).contains 0xFE).map fun c => { sect := 5, entry := 0x80000000 + c * 0x10000 + 0xFE }

/-- The owners that R216 requires, in rising order. -/
def State.neededOwners (s : State) (p : List Byte) : List Nat :=
  ((List.range 8).filter fun t => s.endEnabled t) ++ (if pkgDomain p then ((List.range 6).filter fun x => s.endEnabled (16 + x)).map (· + 0x10) else []) ++
  [0x16, 0x17]

def row16 (s : State) (p : List Byte) : Option Finding :=
  (List.range 288).findSome? fun c =>
    let has := chanOwners p c
    ((s.neededOwners p).find? fun o => !has.contains o && !(decide (o < 8) && has.contains (o + 0x20))).map fun o =>
      { sect := 5, entry := 0x80000000 + c * 0x10000 + o }

/-! The table (R222), from row 0x51 on. -/

/-- The rows in order, each with its code. -/
def State.checkRows (s : State) (p : List Byte) (digest : List Byte) : List (Nat × (Unit → Option Finding)) :=
  let m := s.moduleId
  let on := fun (b : Bool) (f : Finding) => fun (_ : Unit) => if b then some f else none
  let point := pkgClockPoint p
  [(0x51, on (decide (sha256 p ≠ digest)) none0), (0x30, fun _ => row30 p), (0x31, fun _ => row31 p m), (0x32, fun _ => row32 p m),
   (0x33, on (decide (pkgDump p % 2 ^ 24 ≠ 0)) (hdr 0x30)), (0x34, on (decide (31 < pkgHdm p)) (hdr 0x34)),
   (0x35, fun _ => row35 s p), (0x25, fun _ => row25 p), (0x26, fun _ => row26 s p), (0x29, fun _ => row29 p), (0x22, fun _ => row22 p),
   (0x23, fun _ => row23 p), (0x21, fun _ => row21 s p), (0x24, fun _ => row24 s p), (0x27, fun _ => row27 s p),
   (0x28, fun _ => row28 s p), (0x13, fun _ => row13 p), (0x14, fun _ => row14 p), (0x11, fun _ => row11 p), (0x15, fun _ => row15 p),
   (0x12, fun _ => row12 p), (0x16, fun _ => row16 s p), (0x42, on (decide (22 < point)) (hdr 0x2C)),
   (0x45, on (s.power.thermal.conservative && decide (13 < point)) (hdr 0x2C)), (0x44, on (!s.timeLocked) none0),
   (0x41, on (match s.feedCeiling with
     | some c => decide (c < point)
     | none => true) (hdr 0x2C)),
   (0x43, on (decide (s.sustained < pkgPowerCap p)) (hdr 0x2E)),
   (0x53, on (pkgSign p && !s.canSign s.mod.start.primary1) none0)]

/-- The first row that holds, with its code. -/
def firstRow : List (Nat × (Unit → Option Finding)) → Option (Nat × Finding)
  | [] => none
  | (code, f) :: rest => match f () with
    | some x => some (code, x)
    | none => firstRow rest

def State.jobCheck (s : State) (p : List Byte) (digest : List Byte) : Option (Nat × Finding) := firstRow (s.checkRows p digest)

end Sys2Proof.Machine
end

