-- ==== Sys2Proof/Machine/Words.lean ====
section
/-!
DEFINITION. The instruction words of a program (R114 to R118 and the class tables of the chapter): the word of each instruction, and the
instruction a word stands for. A word that stands for none raises cause 0x01 (R117).
-/
namespace Sys2Proof.Machine
open Sys2Proof

/-- A word from its fields: MAJOR, FUNC, A, B, C, D and LOW (R115). -/
def instrWord (major func a b c d low : Nat) : Word :=
  BitVec.ofNat 64 (major * 2 ^ 58 + func * 2 ^ 52 + a * 2 ^ 47 + b * 2 ^ 42 + c * 2 ^ 37 + d * 2 ^ 32 + low)

/-- The condition codes of R127. -/
def condCode : Cond → Nat
  | .eq => 0
  | .ne => 1
  | .lt => 2
  | .le => 3
  | .gt => 4
  | .ge => 5
  | .un => 6
  | .ord => 7

/-- The condition of a code. -/
def condOf (n : Nat) : Cond :=
  match n with
  | 0 => .eq
  | 1 => .ne
  | 2 => .lt
  | 3 => .le
  | 4 => .gt
  | 5 => .ge
  | 6 => .un
  | _ => .ord

/-- The word of an instruction. `none` for operands that no legal word holds (a reserved code, a deadline selector of 0b11, an `xt` with no
deadline, a mask register that is not used: R117, R133, R134, R140, R146, R147, R150), and for a command that is no instruction. -/
def encodeWord : Instr → Option Word
  | .add _ xd xs1 xs2 => some (instrWord 0x01 0x00 xd.val xs1.val xs2.val 0 0)
  | .sub _ xd xs1 xs2 => some (instrWord 0x01 0x01 xd.val xs1.val xs2.val 0 0)
  | .and _ xd xs1 xs2 => some (instrWord 0x01 0x02 xd.val xs1.val xs2.val 0 0)
  | .or _ xd xs1 xs2 => some (instrWord 0x01 0x03 xd.val xs1.val xs2.val 0 0)
  | .xor _ xd xs1 xs2 => some (instrWord 0x01 0x04 xd.val xs1.val xs2.val 0 0)
  | .shl _ xd xs1 xs2 => some (instrWord 0x01 0x05 xd.val xs1.val xs2.val 0 0)
  | .shr _ xd xs1 xs2 => some (instrWord 0x01 0x06 xd.val xs1.val xs2.val 0 0)
  | .sra _ xd xs1 xs2 => some (instrWord 0x01 0x07 xd.val xs1.val xs2.val 0 0)
  | .slt _ xd xs1 xs2 => some (instrWord 0x01 0x08 xd.val xs1.val xs2.val 0 0)
  | .sltu _ xd xs1 xs2 => some (instrWord 0x01 0x09 xd.val xs1.val xs2.val 0 0)
  | .min _ xd xs1 xs2 => some (instrWord 0x01 0x0A xd.val xs1.val xs2.val 0 0)
  | .max _ xd xs1 xs2 => some (instrWord 0x01 0x0B xd.val xs1.val xs2.val 0 0)
  | .minu _ xd xs1 xs2 => some (instrWord 0x01 0x0C xd.val xs1.val xs2.val 0 0)
  | .maxu _ xd xs1 xs2 => some (instrWord 0x01 0x0D xd.val xs1.val xs2.val 0 0)
  | .clz _ xd xs1 => some (instrWord 0x01 0x0E xd.val xs1.val 0 0 0)
  | .popc _ xd xs1 => some (instrWord 0x01 0x0F xd.val xs1.val 0 0 0)
  | .addi _ xd xs1 imm => some (instrWord 0x02 0x00 xd.val xs1.val 0 0 imm.toNat)
  | .subi _ xd xs1 imm => some (instrWord 0x02 0x01 xd.val xs1.val 0 0 imm.toNat)
  | .andi _ xd xs1 imm => some (instrWord 0x02 0x02 xd.val xs1.val 0 0 imm.toNat)
  | .ori _ xd xs1 imm => some (instrWord 0x02 0x03 xd.val xs1.val 0 0 imm.toNat)
  | .xori _ xd xs1 imm => some (instrWord 0x02 0x04 xd.val xs1.val 0 0 imm.toNat)
  | .shli _ xd xs1 imm => some (instrWord 0x02 0x05 xd.val xs1.val 0 0 imm.toNat)
  | .shri _ xd xs1 imm => some (instrWord 0x02 0x06 xd.val xs1.val 0 0 imm.toNat)
  | .srai _ xd xs1 imm => some (instrWord 0x02 0x07 xd.val xs1.val 0 0 imm.toNat)
  | .slti _ xd xs1 imm => some (instrWord 0x02 0x08 xd.val xs1.val 0 0 imm.toNat)
  | .sltui _ xd xs1 imm => some (instrWord 0x02 0x09 xd.val xs1.val 0 0 imm.toNat)
  | .mini _ xd xs1 imm => some (instrWord 0x02 0x0A xd.val xs1.val 0 0 imm.toNat)
  | .maxi _ xd xs1 imm => some (instrWord 0x02 0x0B xd.val xs1.val 0 0 imm.toNat)
  | .minui _ xd xs1 imm => some (instrWord 0x02 0x0C xd.val xs1.val 0 0 imm.toNat)
  | .maxui _ xd xs1 imm => some (instrWord 0x02 0x0D xd.val xs1.val 0 0 imm.toNat)
  | .mul _ xd xs1 xs2 => some (instrWord 0x03 0x00 xd.val xs1.val xs2.val 0 0)
  | .mulh _ xd xs1 xs2 => some (instrWord 0x03 0x01 xd.val xs1.val xs2.val 0 0)
  | .mulhu _ xd xs1 xs2 => some (instrWord 0x03 0x02 xd.val xs1.val xs2.val 0 0)
  | .div _ xd xs1 xs2 => some (instrWord 0x03 0x04 xd.val xs1.val xs2.val 0 0)
  | .divu _ xd xs1 xs2 => some (instrWord 0x03 0x05 xd.val xs1.val xs2.val 0 0)
  | .rem _ xd xs1 xs2 => some (instrWord 0x03 0x06 xd.val xs1.val xs2.val 0 0)
  | .remu _ xd xs1 xs2 => some (instrWord 0x03 0x07 xd.val xs1.val xs2.val 0 0)
  | .li _ xd imm => some (instrWord 0x04 0x00 xd.val 0 0 0 imm.toNat)
  | .lih _ xd imm => some (instrWord 0x04 0x01 xd.val 0 0 0 imm.toNat)
  | .beq _ xs1 xs2 target => some (instrWord 0x05 0x00 0 xs1.val xs2.val 0 target.toNat)
  | .bne _ xs1 xs2 target => some (instrWord 0x05 0x01 0 xs1.val xs2.val 0 target.toNat)
  | .blt _ xs1 xs2 target => some (instrWord 0x05 0x02 0 xs1.val xs2.val 0 target.toNat)
  | .bge _ xs1 xs2 target => some (instrWord 0x05 0x03 0 xs1.val xs2.val 0 target.toNat)
  | .bltu _ xs1 xs2 target => some (instrWord 0x05 0x04 0 xs1.val xs2.val 0 target.toNat)
  | .bgeu _ xs1 xs2 target => some (instrWord 0x05 0x05 0 xs1.val xs2.val 0 target.toNat)
  | .bpany _ p target => some (instrWord 0x05 0x08 0 0 p.val 0 target.toNat)
  | .bpall _ p target => some (instrWord 0x05 0x09 0 0 p.val 0 target.toNat)
  | .bpnone _ p target => some (instrWord 0x05 0x0A 0 0 p.val 0 target.toNat)
  | .jal _ xd target => some (instrWord 0x06 0x00 xd.val 0 0 0 target.toNat)
  | .jr _ xs => some (instrWord 0x06 0x01 0 xs.val 0 0 0)
  | .ld1u _ xd xs imm => some (instrWord 0x08 0x00 xd.val xs.val 0 0 imm.toNat)
  | .ld2u _ xd xs imm => some (instrWord 0x08 0x01 xd.val xs.val 0 0 imm.toNat)
  | .ld4u _ xd xs imm => some (instrWord 0x08 0x02 xd.val xs.val 0 0 imm.toNat)
  | .ld8 _ xd xs imm => some (instrWord 0x08 0x03 xd.val xs.val 0 0 imm.toNat)
  | .ld1s _ xd xs imm => some (instrWord 0x08 0x04 xd.val xs.val 0 0 imm.toNat)
  | .ld2s _ xd xs imm => some (instrWord 0x08 0x05 xd.val xs.val 0 0 imm.toNat)
  | .ld4s _ xd xs imm => some (instrWord 0x08 0x06 xd.val xs.val 0 0 imm.toNat)
  | .st1 _ xv xs imm => some (instrWord 0x09 0x00 xv.val xs.val 0 0 imm.toNat)
  | .st2 _ xv xs imm => some (instrWord 0x09 0x01 xv.val xs.val 0 0 imm.toNat)
  | .st4 _ xv xs imm => some (instrWord 0x09 0x02 xv.val xs.val 0 0 imm.toNat)
  | .st8 _ xv xs imm => some (instrWord 0x09 0x03 xv.val xs.val 0 0 imm.toNat)
  | .vld _ pg vd xs imm => some (instrWord 0x0A 0x00 vd.val xs.val pg.val 0 imm.toNat)
  | .vldbf _ pg vd xs imm => some (instrWord 0x0A 0x01 vd.val xs.val pg.val 0 imm.toNat)
  | .vldh _ pg vd xs imm => some (instrWord 0x0A 0x02 vd.val xs.val pg.val 0 imm.toNat)
  | .vst _ pg vs xs imm => some (instrWord 0x0B 0x00 vs.val xs.val pg.val 0 imm.toNat)
  | .vstbf _ pg vs xs imm => some (instrWord 0x0B 0x01 vs.val xs.val pg.val 0 imm.toNat)
  | .vsth _ pg vs xs imm => some (instrWord 0x0B 0x02 vs.val xs.val pg.val 0 imm.toNat)
  | .vstp _ vs xs off lenM1 =>
    if off.toNat + lenM1.toNat + 1 ≤ 256 then
      some (instrWord 0x0B 0x03 vs.val xs.val 0 0 (off.toNat * 256 + lenM1.toNat))
    else none
  | .vadd _ pg vd va vb => some (instrWord 0x10 0x00 vd.val va.val vb.val 0 (pg.val * 2 ^ 29))
  | .vsub _ pg vd va vb => some (instrWord 0x10 0x01 vd.val va.val vb.val 0 (pg.val * 2 ^ 29))
  | .vmul _ pg vd va vb => some (instrWord 0x10 0x02 vd.val va.val vb.val 0 (pg.val * 2 ^ 29))
  | .vmin _ pg vd va vb => some (instrWord 0x10 0x04 vd.val va.val vb.val 0 (pg.val * 2 ^ 29))
  | .vmax _ pg vd va vb => some (instrWord 0x10 0x05 vd.val va.val vb.val 0 (pg.val * 2 ^ 29))
  | .vsel _ pg vd va vb => some (instrWord 0x10 0x09 vd.val va.val vb.val 0 (pg.val * 2 ^ 29))
  | .vfma _ pg vd va vb vc => some (instrWord 0x10 0x03 vd.val va.val vb.val vc.val (pg.val * 2 ^ 29))
  | .vabs _ pg vd va => some (instrWord 0x10 0x06 vd.val va.val 0 0 (pg.val * 2 ^ 29))
  | .vneg _ pg vd va => some (instrWord 0x10 0x07 vd.val va.val 0 0 (pg.val * 2 ^ 29))
  | .vredsum _ pg vd va => some (instrWord 0x10 0x0A vd.val va.val 0 0 (pg.val * 2 ^ 29))
  | .vredmax _ pg vd va => some (instrWord 0x10 0x0B vd.val va.val 0 0 (pg.val * 2 ^ 29))
  | .vredmin _ pg vd va => some (instrWord 0x10 0x0C vd.val va.val 0 0 (pg.val * 2 ^ 29))
  | .vcmp _ pg cc pd va vb => some (instrWord 0x10 0x08 pd.val va.val vb.val 0 (pg.val * 2 ^ 29 + condCode cc))
  | .viadd _ pg vd va vb => some (instrWord 0x11 0x00 vd.val va.val vb.val 0 (pg.val * 2 ^ 29))
  | .visub _ pg vd va vb => some (instrWord 0x11 0x01 vd.val va.val vb.val 0 (pg.val * 2 ^ 29))
  | .viand _ pg vd va vb => some (instrWord 0x11 0x02 vd.val va.val vb.val 0 (pg.val * 2 ^ 29))
  | .vior _ pg vd va vb => some (instrWord 0x11 0x03 vd.val va.val vb.val 0 (pg.val * 2 ^ 29))
  | .vixor _ pg vd va vb => some (instrWord 0x11 0x04 vd.val va.val vb.val 0 (pg.val * 2 ^ 29))
  | .vishl _ pg vd va vb => some (instrWord 0x11 0x05 vd.val va.val vb.val 0 (pg.val * 2 ^ 29))
  | .vishr _ pg vd va vb => some (instrWord 0x11 0x06 vd.val va.val vb.val 0 (pg.val * 2 ^ 29))
  | .visra _ pg vd va vb => some (instrWord 0x11 0x07 vd.val va.val vb.val 0 (pg.val * 2 ^ 29))
  | .vimin _ pg vd va vb => some (instrWord 0x11 0x08 vd.val va.val vb.val 0 (pg.val * 2 ^ 29))
  | .vimax _ pg vd va vb => some (instrWord 0x11 0x09 vd.val va.val vb.val 0 (pg.val * 2 ^ 29))
  | .viminu _ pg vd va vb => some (instrWord 0x11 0x0A vd.val va.val vb.val 0 (pg.val * 2 ^ 29))
  | .vimaxu _ pg vd va vb => some (instrWord 0x11 0x0B vd.val va.val vb.val 0 (pg.val * 2 ^ 29))
  | .vcvtfi _ pg vd va => some (instrWord 0x11 0x0C vd.val va.val 0 0 (pg.val * 2 ^ 29))
  | .vcvtif _ pg vd va => some (instrWord 0x11 0x0D vd.val va.val 0 0 (pg.val * 2 ^ 29))
  | .vmov _ pg vd va => some (instrWord 0x12 0x00 vd.val va.val 0 0 (pg.val * 2 ^ 29))
  | .vbcast _ pg vd xs => some (instrWord 0x12 0x01 vd.val xs.val 0 0 (pg.val * 2 ^ 29))
  | .vidx _ pg vd => some (instrWord 0x12 0x02 vd.val 0 0 0 (pg.val * 2 ^ 29))
  | .vext _ xd va lane => some (instrWord 0x12 0x03 xd.val va.val 0 0 lane.val)
  | .vins _ vd xs lane => some (instrWord 0x12 0x04 vd.val xs.val 0 0 lane.val)
  | .pand _ pd pa pb => some (instrWord 0x13 0x00 pd.val pa.val pb.val 0 0)
  | .por _ pd pa pb => some (instrWord 0x13 0x01 pd.val pa.val pb.val 0 0)
  | .pxor _ pd pa pb => some (instrWord 0x13 0x02 pd.val pa.val pb.val 0 0)
  | .pandn _ pd pa pb => some (instrWord 0x13 0x03 pd.val pa.val pb.val 0 0)
  | .pnot _ pd pa => some (instrWord 0x13 0x04 pd.val pa.val 0 0 0)
  | .pmovx _ pd xs => some (instrWord 0x13 0x05 pd.val xs.val 0 0 0)
  | .pmovp _ xd pa => some (instrWord 0x13 0x06 xd.val pa.val 0 0 0)
  | .vsfExp _ pg vd va => some (instrWord 0x14 0x00 vd.val va.val 0 0 (pg.val * 2 ^ 29))
  | .vsfLog _ pg vd va => some (instrWord 0x14 0x01 vd.val va.val 0 0 (pg.val * 2 ^ 29))
  | .vsfRsqrt _ pg vd va => some (instrWord 0x14 0x02 vd.val va.val 0 0 (pg.val * 2 ^ 29))
  | .vsfSigmoid _ pg vd va => some (instrWord 0x14 0x03 vd.val va.val 0 0 (pg.val * 2 ^ 29))
  | .vsfErf _ pg vd va => some (instrWord 0x14 0x04 vd.val va.val 0 0 (pg.val * 2 ^ 29))
  | .topk _ vd xa xn => some (instrWord 0x16 0x00 vd.val xa.val xn.val 0 0)
  | .vpk _ vd va xd code => if code.toNat ≤ 5 then some (instrWord 0x15 0x00 vd.val va.val xd.val 0 code.toNat) else none
  | .vpk24 _ vd va xd code => if 8 ≤ code.toNat ∧ code.toNat ≤ 10 then some (instrWord 0x15 0x01 vd.val va.val xd.val 0 code.toNat) else none
  | .vupk _ vd va code => if code.toNat ≤ 5 then some (instrWord 0x15 0x02 vd.val va.val 0 0 code.toNat) else none
  | .vupk24 _ vd va code => if 8 ≤ code.toNat ∧ code.toNat ≤ 10 then some (instrWord 0x15 0x03 vd.val va.val 0 0 code.toNat) else none
  | .tmma _ t xa xb xm xs afmt bfmt kb me se we =>
    if (me = true ∨ xm = 0) ∧ (se = true ∨ we = true ∨ xs = 0) then
      some (instrWord 0x18 0x00 xa.val xb.val xm.val xs.val
        (t.val * 2 ^ 30 + afmt.toNat * 2 ^ 26 + bfmt.toNat * 2 ^ 22 + kb.toNat * 2 ^ 14 + me.toNat * 2 ^ 13 + se.toNat * 2 ^ 12 + we.toNat * 2 ^ 11))
    else none
  | .tld _ t xa => some (instrWord 0x19 0x00 0 xa.val 0 0 (t.val * 2 ^ 30))
  | .tst _ t xa => some (instrWord 0x19 0x01 0 xa.val 0 0 (t.val * 2 ^ 30))
  | .tstbf _ t xa => some (instrWord 0x19 0x02 0 xa.val 0 0 (t.val * 2 ^ 30))
  | .tclr _ t => some (instrWord 0x19 0x03 0 0 0 0 (t.val * 2 ^ 30))
  | .tmov _ vd t xr => some (instrWord 0x19 0x04 vd.val 0 xr.val 0 (t.val * 2 ^ 30))
  | .rld1u _ xd xa => some (instrWord 0x20 0x00 xd.val xa.val 0 0 0)
  | .rld2u _ xd xa => some (instrWord 0x20 0x01 xd.val xa.val 0 0 0)
  | .rld4u _ xd xa => some (instrWord 0x20 0x02 xd.val xa.val 0 0 0)
  | .rld8 _ xd xa => some (instrWord 0x20 0x03 xd.val xa.val 0 0 0)
  | .rld1s _ xd xa => some (instrWord 0x20 0x04 xd.val xa.val 0 0 0)
  | .rld2s _ xd xa => some (instrWord 0x20 0x05 xd.val xa.val 0 0 0)
  | .rld4s _ xd xa => some (instrWord 0x20 0x06 xd.val xa.val 0 0 0)
  | .rst1 _ xv xa => some (instrWord 0x21 0x00 xv.val xa.val 0 0 0)
  | .rst2 _ xv xa => some (instrWord 0x21 0x01 xv.val xa.val 0 0 0)
  | .rst4 _ xv xa => some (instrWord 0x21 0x02 xv.val xa.val 0 0 0)
  | .rst8 _ xv xa => some (instrWord 0x21 0x03 xv.val xa.val 0 0 0)
  | .rst1Db _ xv xa => some (instrWord 0x21 0x08 xv.val xa.val 0 0 0)
  | .rst2Db _ xv xa => some (instrWord 0x21 0x09 xv.val xa.val 0 0 0)
  | .rst4Db _ xv xa => some (instrWord 0x21 0x0A xv.val xa.val 0 0 0)
  | .rst8Db _ xv xa => some (instrWord 0x21 0x0B xv.val xa.val 0 0 0)
  | .radd4 _ xa xs => some (instrWord 0x22 0x00 0 xa.val xs.val 0 0)
  | .radd4F _ xd xa xs => some (instrWord 0x22 0x00 xd.val xa.val xs.val 0 (2 ^ 31))
  | .radd8 _ xa xs => some (instrWord 0x22 0x01 0 xa.val xs.val 0 0)
  | .radd8F _ xd xa xs => some (instrWord 0x22 0x01 xd.val xa.val xs.val 0 (2 ^ 31))
  | .rfadd _ xa xs => some (instrWord 0x22 0x02 0 xa.val xs.val 0 0)
  | .rfaddF _ xd xa xs => some (instrWord 0x22 0x02 xd.val xa.val xs.val 0 (2 ^ 31))
  | .rbfadd _ xa xs => some (instrWord 0x22 0x03 0 xa.val xs.val 0 0)
  | .rbfaddF _ xd xa xs => some (instrWord 0x22 0x03 xd.val xa.val xs.val 0 (2 ^ 31))
  | .rfmin _ xa xs => some (instrWord 0x22 0x04 0 xa.val xs.val 0 0)
  | .rfminF _ xd xa xs => some (instrWord 0x22 0x04 xd.val xa.val xs.val 0 (2 ^ 31))
  | .rfmax _ xa xs => some (instrWord 0x22 0x05 0 xa.val xs.val 0 0)
  | .rfmaxF _ xd xa xs => some (instrWord 0x22 0x05 xd.val xa.val xs.val 0 (2 ^ 31))
  | .rmin4 _ xa xs => some (instrWord 0x22 0x06 0 xa.val xs.val 0 0)
  | .rmin4F _ xd xa xs => some (instrWord 0x22 0x06 xd.val xa.val xs.val 0 (2 ^ 31))
  | .rmin8 _ xa xs => some (instrWord 0x22 0x07 0 xa.val xs.val 0 0)
  | .rmin8F _ xd xa xs => some (instrWord 0x22 0x07 xd.val xa.val xs.val 0 (2 ^ 31))
  | .rmax4 _ xa xs => some (instrWord 0x22 0x08 0 xa.val xs.val 0 0)
  | .rmax4F _ xd xa xs => some (instrWord 0x22 0x08 xd.val xa.val xs.val 0 (2 ^ 31))
  | .rmax8 _ xa xs => some (instrWord 0x22 0x09 0 xa.val xs.val 0 0)
  | .rmax8F _ xd xa xs => some (instrWord 0x22 0x09 xd.val xa.val xs.val 0 (2 ^ 31))
  | .rminu4 _ xa xs => some (instrWord 0x22 0x0A 0 xa.val xs.val 0 0)
  | .rminu4F _ xd xa xs => some (instrWord 0x22 0x0A xd.val xa.val xs.val 0 (2 ^ 31))
  | .rminu8 _ xa xs => some (instrWord 0x22 0x0B 0 xa.val xs.val 0 0)
  | .rminu8F _ xd xa xs => some (instrWord 0x22 0x0B xd.val xa.val xs.val 0 (2 ^ 31))
  | .rmaxu4 _ xa xs => some (instrWord 0x22 0x0C 0 xa.val xs.val 0 0)
  | .rmaxu4F _ xd xa xs => some (instrWord 0x22 0x0C xd.val xa.val xs.val 0 (2 ^ 31))
  | .rmaxu8 _ xa xs => some (instrWord 0x22 0x0D 0 xa.val xs.val 0 0)
  | .rmaxu8F _ xd xa xs => some (instrWord 0x22 0x0D xd.val xa.val xs.val 0 (2 ^ 31))
  | .rand8 _ xa xs => some (instrWord 0x22 0x0E 0 xa.val xs.val 0 0)
  | .rand8F _ xd xa xs => some (instrWord 0x22 0x0E xd.val xa.val xs.val 0 (2 ^ 31))
  | .ror8 _ xa xs => some (instrWord 0x22 0x0F 0 xa.val xs.val 0 0)
  | .ror8F _ xd xa xs => some (instrWord 0x22 0x0F xd.val xa.val xs.val 0 (2 ^ 31))
  | .rxor8 _ xa xs => some (instrWord 0x22 0x10 0 xa.val xs.val 0 0)
  | .rxor8F _ xd xa xs => some (instrWord 0x22 0x10 xd.val xa.val xs.val 0 (2 ^ 31))
  | .rswap8F _ xd xa xs => some (instrWord 0x22 0x11 xd.val xa.val xs.val 0 (2 ^ 31))
  | .rcas8F _ xd xa xs xc => some (instrWord 0x22 0x12 xd.val xa.val xs.val xc.val (2 ^ 31))
  | .rput _ xa xl xn k ken => some (instrWord 0x23 0x00 0 xa.val xl.val xn.val (k.val + ken.toNat * 64))
  | .rget _ xa xl xn k ken => some (instrWord 0x23 0x01 0 xa.val xl.val xn.val (k.val + ken.toNat * 64))
  | .rscat _ pg xd vi xl xdesc => some (instrWord 0x24 0x00 xd.val vi.val xl.val xdesc.val (pg.val * 2 ^ 29))
  | .rgath _ pg xd vi xl xdesc => some (instrWord 0x24 0x01 xd.val vi.val xl.val xdesc.val (pg.val * 2 ^ 29))
  | .fence _ => some (instrWord 0x25 0x00 0 0 0 0 0)
  | .yield _ => some (instrWord 0x28 0x00 0 0 0 0 0)
  | .ywait _ mask => if mask ≠ 0 then some (instrWord 0x28 0x01 0 0 0 0 mask.toNat) else none
  | .kwait _ k xv xt dl => if dl ≠ 3 ∧ (dl ≠ 0 ∨ xt = 0) then some (instrWord 0x28 0x02 0 xv.val xt.val 0 (k.val + dl.toNat * 2 ^ 30)) else none
  | .dbarm _ xa => some (instrWord 0x28 0x03 0 xa.val 0 0 0)
  | .dbwait _ xt dl => if dl ≠ 3 ∧ (dl ≠ 0 ∨ xt = 0) then some (instrWord 0x28 0x04 0 0 xt.val 0 (dl.toNat * 2 ^ 30)) else none
  | .stop _ => some (instrWord 0x28 0x05 0 0 0 0 0)
  | .krd _ xd k => some (instrWord 0x29 0x00 xd.val 0 0 0 k.val)
  | .kset _ k xs => some (instrWord 0x29 0x01 0 xs.val 0 0 k.val)
  | .csrr _ xd sr => if sr.toNat ∈ [0, 1, 2, 3, 0x10, 0x11, 0x12] then some (instrWord 0x30 0x00 xd.val 0 0 0 sr.toNat) else none
  | .csrw _ sr xs => if sr.toNat ∈ [1, 0x10, 0x11] then some (instrWord 0x30 0x01 0 xs.val 0 0 sr.toNat) else none
  | .hret _ => some (instrWord 0x30 0x02 0 0 0 0 0)
  | _ => none

/-- A register field of a word, by its lowest bit (R115). -/
def regAt (w : Word) (lo : Nat) : Fin 32 := ⟨w.toNat / 2 ^ lo % 32, Nat.mod_lt _ (by decide)⟩
/-- A predicate or a governing predicate. -/
def predAt (w : Word) (lo : Nat) : Fin 8 := ⟨w.toNat / 2 ^ lo % 8, Nat.mod_lt _ (by decide)⟩
/-- A counter number or a lane, LOW [5:0]. -/
def sixAt (w : Word) : Fin 64 := ⟨w.toNat % 64, Nat.mod_lt _ (by decide)⟩
/-- A tile, LOW [31:30]. -/
def tileAt (w : Word) : Fin 4 := ⟨w.toNat / 2 ^ 30 % 4, Nat.mod_lt _ (by decide)⟩
/-- Bits of the LOW word. -/
def lowBits (w : Word) (n lo : Nat) : BitVec n := BitVec.ofNat n (w.toNat / 2 ^ lo)

/-- The instructions of MAJOR 0x01, by FUNC. -/
def major01 (c : Ctx) (w : Word) (f : Nat) : Option Instr :=
  match f with
  | 0x00 => some (.add c (regAt w 47) (regAt w 42) (regAt w 37))
  | 0x01 => some (.sub c (regAt w 47) (regAt w 42) (regAt w 37))
  | 0x02 => some (.and c (regAt w 47) (regAt w 42) (regAt w 37))
  | 0x03 => some (.or c (regAt w 47) (regAt w 42) (regAt w 37))
  | 0x04 => some (.xor c (regAt w 47) (regAt w 42) (regAt w 37))
  | 0x05 => some (.shl c (regAt w 47) (regAt w 42) (regAt w 37))
  | 0x06 => some (.shr c (regAt w 47) (regAt w 42) (regAt w 37))
  | 0x07 => some (.sra c (regAt w 47) (regAt w 42) (regAt w 37))
  | 0x08 => some (.slt c (regAt w 47) (regAt w 42) (regAt w 37))
  | 0x09 => some (.sltu c (regAt w 47) (regAt w 42) (regAt w 37))
  | 0x0A => some (.min c (regAt w 47) (regAt w 42) (regAt w 37))
  | 0x0B => some (.max c (regAt w 47) (regAt w 42) (regAt w 37))
  | 0x0C => some (.minu c (regAt w 47) (regAt w 42) (regAt w 37))
  | 0x0D => some (.maxu c (regAt w 47) (regAt w 42) (regAt w 37))
  | 0x0E => some (.clz c (regAt w 47) (regAt w 42))
  | 0x0F => some (.popc c (regAt w 47) (regAt w 42))
  | _ => none

/-- The instructions of MAJOR 0x02, by FUNC. -/
def major02 (c : Ctx) (w : Word) (f : Nat) : Option Instr :=
  match f with
  | 0x00 => some (.addi c (regAt w 47) (regAt w 42) (lowBits w 32 0))
  | 0x01 => some (.subi c (regAt w 47) (regAt w 42) (lowBits w 32 0))
  | 0x02 => some (.andi c (regAt w 47) (regAt w 42) (lowBits w 32 0))
  | 0x03 => some (.ori c (regAt w 47) (regAt w 42) (lowBits w 32 0))
  | 0x04 => some (.xori c (regAt w 47) (regAt w 42) (lowBits w 32 0))
  | 0x05 => some (.shli c (regAt w 47) (regAt w 42) (lowBits w 32 0))
  | 0x06 => some (.shri c (regAt w 47) (regAt w 42) (lowBits w 32 0))
  | 0x07 => some (.srai c (regAt w 47) (regAt w 42) (lowBits w 32 0))
  | 0x08 => some (.slti c (regAt w 47) (regAt w 42) (lowBits w 32 0))
  | 0x09 => some (.sltui c (regAt w 47) (regAt w 42) (lowBits w 32 0))
  | 0x0A => some (.mini c (regAt w 47) (regAt w 42) (lowBits w 32 0))
  | 0x0B => some (.maxi c (regAt w 47) (regAt w 42) (lowBits w 32 0))
  | 0x0C => some (.minui c (regAt w 47) (regAt w 42) (lowBits w 32 0))
  | 0x0D => some (.maxui c (regAt w 47) (regAt w 42) (lowBits w 32 0))
  | _ => none

/-- The instructions of MAJOR 0x03, by FUNC. -/
def major03 (c : Ctx) (w : Word) (f : Nat) : Option Instr :=
  match f with
  | 0x00 => some (.mul c (regAt w 47) (regAt w 42) (regAt w 37))
  | 0x01 => some (.mulh c (regAt w 47) (regAt w 42) (regAt w 37))
  | 0x02 => some (.mulhu c (regAt w 47) (regAt w 42) (regAt w 37))
  | 0x04 => some (.div c (regAt w 47) (regAt w 42) (regAt w 37))
  | 0x05 => some (.divu c (regAt w 47) (regAt w 42) (regAt w 37))
  | 0x06 => some (.rem c (regAt w 47) (regAt w 42) (regAt w 37))
  | 0x07 => some (.remu c (regAt w 47) (regAt w 42) (regAt w 37))
  | _ => none

/-- The instructions of MAJOR 0x04, by FUNC. -/
def major04 (c : Ctx) (w : Word) (f : Nat) : Option Instr :=
  match f with
  | 0x00 => some (.li c (regAt w 47) (lowBits w 32 0))
  | 0x01 => some (.lih c (regAt w 47) (lowBits w 32 0))
  | _ => none

/-- The instructions of MAJOR 0x05, by FUNC. -/
def major05 (c : Ctx) (w : Word) (f : Nat) : Option Instr :=
  match f with
  | 0x00 => some (.beq c (regAt w 42) (regAt w 37) (lowBits w 13 0))
  | 0x01 => some (.bne c (regAt w 42) (regAt w 37) (lowBits w 13 0))
  | 0x02 => some (.blt c (regAt w 42) (regAt w 37) (lowBits w 13 0))
  | 0x03 => some (.bge c (regAt w 42) (regAt w 37) (lowBits w 13 0))
  | 0x04 => some (.bltu c (regAt w 42) (regAt w 37) (lowBits w 13 0))
  | 0x05 => some (.bgeu c (regAt w 42) (regAt w 37) (lowBits w 13 0))
  | 0x08 => some (.bpany c (predAt w 37) (lowBits w 13 0))
  | 0x09 => some (.bpall c (predAt w 37) (lowBits w 13 0))
  | 0x0A => some (.bpnone c (predAt w 37) (lowBits w 13 0))
  | _ => none

/-- The instructions of MAJOR 0x06, by FUNC. -/
def major06 (c : Ctx) (w : Word) (f : Nat) : Option Instr :=
  match f with
  | 0x00 => some (.jal c (regAt w 47) (lowBits w 13 0))
  | 0x01 => some (.jr c (regAt w 42))
  | _ => none

/-- The instructions of MAJOR 0x08, by FUNC. -/
def major08 (c : Ctx) (w : Word) (f : Nat) : Option Instr :=
  match f with
  | 0x00 => some (.ld1u c (regAt w 47) (regAt w 42) (lowBits w 32 0))
  | 0x01 => some (.ld2u c (regAt w 47) (regAt w 42) (lowBits w 32 0))
  | 0x02 => some (.ld4u c (regAt w 47) (regAt w 42) (lowBits w 32 0))
  | 0x03 => some (.ld8 c (regAt w 47) (regAt w 42) (lowBits w 32 0))
  | 0x04 => some (.ld1s c (regAt w 47) (regAt w 42) (lowBits w 32 0))
  | 0x05 => some (.ld2s c (regAt w 47) (regAt w 42) (lowBits w 32 0))
  | 0x06 => some (.ld4s c (regAt w 47) (regAt w 42) (lowBits w 32 0))
  | _ => none

/-- The instructions of MAJOR 0x09, by FUNC. -/
def major09 (c : Ctx) (w : Word) (f : Nat) : Option Instr :=
  match f with
  | 0x00 => some (.st1 c (regAt w 47) (regAt w 42) (lowBits w 32 0))
  | 0x01 => some (.st2 c (regAt w 47) (regAt w 42) (lowBits w 32 0))
  | 0x02 => some (.st4 c (regAt w 47) (regAt w 42) (lowBits w 32 0))
  | 0x03 => some (.st8 c (regAt w 47) (regAt w 42) (lowBits w 32 0))
  | _ => none

/-- The instructions of MAJOR 0x0A, by FUNC. -/
def major0A (c : Ctx) (w : Word) (f : Nat) : Option Instr :=
  match f with
  | 0x00 => some (.vld c (predAt w 37) (regAt w 47) (regAt w 42) (lowBits w 32 0))
  | 0x01 => some (.vldbf c (predAt w 37) (regAt w 47) (regAt w 42) (lowBits w 32 0))
  | 0x02 => some (.vldh c (predAt w 37) (regAt w 47) (regAt w 42) (lowBits w 32 0))
  | _ => none

/-- The instructions of MAJOR 0x0B, by FUNC. -/
def major0B (c : Ctx) (w : Word) (f : Nat) : Option Instr :=
  match f with
  | 0x00 => some (.vst c (predAt w 37) (regAt w 47) (regAt w 42) (lowBits w 32 0))
  | 0x01 => some (.vstbf c (predAt w 37) (regAt w 47) (regAt w 42) (lowBits w 32 0))
  | 0x02 => some (.vsth c (predAt w 37) (regAt w 47) (regAt w 42) (lowBits w 32 0))
  | 0x03 => some (.vstp c (regAt w 47) (regAt w 42) (lowBits w 8 8) (lowBits w 8 0))
  | _ => none

/-- The instructions of MAJOR 0x10, by FUNC. -/
def major10 (c : Ctx) (w : Word) (f : Nat) : Option Instr :=
  match f with
  | 0x00 => some (.vadd c (predAt w 29) (regAt w 47) (regAt w 42) (regAt w 37))
  | 0x01 => some (.vsub c (predAt w 29) (regAt w 47) (regAt w 42) (regAt w 37))
  | 0x02 => some (.vmul c (predAt w 29) (regAt w 47) (regAt w 42) (regAt w 37))
  | 0x04 => some (.vmin c (predAt w 29) (regAt w 47) (regAt w 42) (regAt w 37))
  | 0x05 => some (.vmax c (predAt w 29) (regAt w 47) (regAt w 42) (regAt w 37))
  | 0x09 => some (.vsel c (predAt w 29) (regAt w 47) (regAt w 42) (regAt w 37))
  | 0x03 => some (.vfma c (predAt w 29) (regAt w 47) (regAt w 42) (regAt w 37) (regAt w 32))
  | 0x06 => some (.vabs c (predAt w 29) (regAt w 47) (regAt w 42))
  | 0x07 => some (.vneg c (predAt w 29) (regAt w 47) (regAt w 42))
  | 0x0A => some (.vredsum c (predAt w 29) (regAt w 47) (regAt w 42))
  | 0x0B => some (.vredmax c (predAt w 29) (regAt w 47) (regAt w 42))
  | 0x0C => some (.vredmin c (predAt w 29) (regAt w 47) (regAt w 42))
  | 0x08 => some (.vcmp c (predAt w 29) (condOf (w.toNat % 16)) (predAt w 47) (regAt w 42) (regAt w 37))
  | _ => none

/-- The instructions of MAJOR 0x11, by FUNC. -/
def major11 (c : Ctx) (w : Word) (f : Nat) : Option Instr :=
  match f with
  | 0x00 => some (.viadd c (predAt w 29) (regAt w 47) (regAt w 42) (regAt w 37))
  | 0x01 => some (.visub c (predAt w 29) (regAt w 47) (regAt w 42) (regAt w 37))
  | 0x02 => some (.viand c (predAt w 29) (regAt w 47) (regAt w 42) (regAt w 37))
  | 0x03 => some (.vior c (predAt w 29) (regAt w 47) (regAt w 42) (regAt w 37))
  | 0x04 => some (.vixor c (predAt w 29) (regAt w 47) (regAt w 42) (regAt w 37))
  | 0x05 => some (.vishl c (predAt w 29) (regAt w 47) (regAt w 42) (regAt w 37))
  | 0x06 => some (.vishr c (predAt w 29) (regAt w 47) (regAt w 42) (regAt w 37))
  | 0x07 => some (.visra c (predAt w 29) (regAt w 47) (regAt w 42) (regAt w 37))
  | 0x08 => some (.vimin c (predAt w 29) (regAt w 47) (regAt w 42) (regAt w 37))
  | 0x09 => some (.vimax c (predAt w 29) (regAt w 47) (regAt w 42) (regAt w 37))
  | 0x0A => some (.viminu c (predAt w 29) (regAt w 47) (regAt w 42) (regAt w 37))
  | 0x0B => some (.vimaxu c (predAt w 29) (regAt w 47) (regAt w 42) (regAt w 37))
  | 0x0C => some (.vcvtfi c (predAt w 29) (regAt w 47) (regAt w 42))
  | 0x0D => some (.vcvtif c (predAt w 29) (regAt w 47) (regAt w 42))
  | _ => none

/-- The instructions of MAJOR 0x12, by FUNC. -/
def major12 (c : Ctx) (w : Word) (f : Nat) : Option Instr :=
  match f with
  | 0x00 => some (.vmov c (predAt w 29) (regAt w 47) (regAt w 42))
  | 0x01 => some (.vbcast c (predAt w 29) (regAt w 47) (regAt w 42))
  | 0x02 => some (.vidx c (predAt w 29) (regAt w 47))
  | 0x03 => some (.vext c (regAt w 47) (regAt w 42) (sixAt w))
  | 0x04 => some (.vins c (regAt w 47) (regAt w 42) (sixAt w))
  | _ => none

/-- The instructions of MAJOR 0x13, by FUNC. -/
def major13 (c : Ctx) (w : Word) (f : Nat) : Option Instr :=
  match f with
  | 0x00 => some (.pand c (predAt w 47) (predAt w 42) (predAt w 37))
  | 0x01 => some (.por c (predAt w 47) (predAt w 42) (predAt w 37))
  | 0x02 => some (.pxor c (predAt w 47) (predAt w 42) (predAt w 37))
  | 0x03 => some (.pandn c (predAt w 47) (predAt w 42) (predAt w 37))
  | 0x04 => some (.pnot c (predAt w 47) (predAt w 42))
  | 0x05 => some (.pmovx c (predAt w 47) (regAt w 42))
  | 0x06 => some (.pmovp c (regAt w 47) (predAt w 42))
  | _ => none

/-- The instructions of MAJOR 0x14, by FUNC. -/
def major14 (c : Ctx) (w : Word) (f : Nat) : Option Instr :=
  match f with
  | 0x00 => some (.vsfExp c (predAt w 29) (regAt w 47) (regAt w 42))
  | 0x01 => some (.vsfLog c (predAt w 29) (regAt w 47) (regAt w 42))
  | 0x02 => some (.vsfRsqrt c (predAt w 29) (regAt w 47) (regAt w 42))
  | 0x03 => some (.vsfSigmoid c (predAt w 29) (regAt w 47) (regAt w 42))
  | 0x04 => some (.vsfErf c (predAt w 29) (regAt w 47) (regAt w 42))
  | _ => none

/-- The instructions of MAJOR 0x16, by FUNC. -/
def major16 (c : Ctx) (w : Word) (f : Nat) : Option Instr :=
  match f with
  | 0x00 => some (.topk c (regAt w 47) (regAt w 42) (regAt w 37))
  | _ => none

/-- The instructions of MAJOR 0x15, by FUNC. -/
def major15 (c : Ctx) (w : Word) (f : Nat) : Option Instr :=
  match f with
  | 0x00 => some (.vpk c (regAt w 47) (regAt w 42) (regAt w 37) (lowBits w 4 0))
  | 0x01 => some (.vpk24 c (regAt w 47) (regAt w 42) (regAt w 37) (lowBits w 4 0))
  | 0x02 => some (.vupk c (regAt w 47) (regAt w 42) (lowBits w 4 0))
  | 0x03 => some (.vupk24 c (regAt w 47) (regAt w 42) (lowBits w 4 0))
  | _ => none

/-- The instructions of MAJOR 0x18, by FUNC. -/
def major18 (c : Ctx) (w : Word) (f : Nat) : Option Instr :=
  match f with
  | 0x00 => some (.tmma c (tileAt w) (regAt w 47) (regAt w 42) (regAt w 37) (regAt w 32)
      (lowBits w 4 26) (lowBits w 4 22) (lowBits w 8 14) (w.getLsbD 13) (w.getLsbD 12) (w.getLsbD 11))
  | _ => none

/-- The instructions of MAJOR 0x19, by FUNC. -/
def major19 (c : Ctx) (w : Word) (f : Nat) : Option Instr :=
  match f with
  | 0x00 => some (.tld c (tileAt w) (regAt w 42))
  | 0x01 => some (.tst c (tileAt w) (regAt w 42))
  | 0x02 => some (.tstbf c (tileAt w) (regAt w 42))
  | 0x03 => some (.tclr c (tileAt w))
  | 0x04 => some (.tmov c (regAt w 47) (tileAt w) (regAt w 37))
  | _ => none

/-- The instructions of MAJOR 0x20, by FUNC. -/
def major20 (c : Ctx) (w : Word) (f : Nat) : Option Instr :=
  match f with
  | 0x00 => some (.rld1u c (regAt w 47) (regAt w 42))
  | 0x01 => some (.rld2u c (regAt w 47) (regAt w 42))
  | 0x02 => some (.rld4u c (regAt w 47) (regAt w 42))
  | 0x03 => some (.rld8 c (regAt w 47) (regAt w 42))
  | 0x04 => some (.rld1s c (regAt w 47) (regAt w 42))
  | 0x05 => some (.rld2s c (regAt w 47) (regAt w 42))
  | 0x06 => some (.rld4s c (regAt w 47) (regAt w 42))
  | _ => none

/-- The instructions of MAJOR 0x21, by FUNC. -/
def major21 (c : Ctx) (w : Word) (f : Nat) : Option Instr :=
  match f with
  | 0x00 => some (.rst1 c (regAt w 47) (regAt w 42))
  | 0x01 => some (.rst2 c (regAt w 47) (regAt w 42))
  | 0x02 => some (.rst4 c (regAt w 47) (regAt w 42))
  | 0x03 => some (.rst8 c (regAt w 47) (regAt w 42))
  | 0x08 => some (.rst1Db c (regAt w 47) (regAt w 42))
  | 0x09 => some (.rst2Db c (regAt w 47) (regAt w 42))
  | 0x0A => some (.rst4Db c (regAt w 47) (regAt w 42))
  | 0x0B => some (.rst8Db c (regAt w 47) (regAt w 42))
  | _ => none

/-- The instructions of MAJOR 0x22 with F = 0. -/
def major22 (c : Ctx) (w : Word) (f : Nat) : Option Instr :=
  match f with
  | 0x00 => some (.radd4 c (regAt w 42) (regAt w 37))
  | 0x01 => some (.radd8 c (regAt w 42) (regAt w 37))
  | 0x02 => some (.rfadd c (regAt w 42) (regAt w 37))
  | 0x03 => some (.rbfadd c (regAt w 42) (regAt w 37))
  | 0x04 => some (.rfmin c (regAt w 42) (regAt w 37))
  | 0x05 => some (.rfmax c (regAt w 42) (regAt w 37))
  | 0x06 => some (.rmin4 c (regAt w 42) (regAt w 37))
  | 0x07 => some (.rmin8 c (regAt w 42) (regAt w 37))
  | 0x08 => some (.rmax4 c (regAt w 42) (regAt w 37))
  | 0x09 => some (.rmax8 c (regAt w 42) (regAt w 37))
  | 0x0A => some (.rminu4 c (regAt w 42) (regAt w 37))
  | 0x0B => some (.rminu8 c (regAt w 42) (regAt w 37))
  | 0x0C => some (.rmaxu4 c (regAt w 42) (regAt w 37))
  | 0x0D => some (.rmaxu8 c (regAt w 42) (regAt w 37))
  | 0x0E => some (.rand8 c (regAt w 42) (regAt w 37))
  | 0x0F => some (.ror8 c (regAt w 42) (regAt w 37))
  | 0x10 => some (.rxor8 c (regAt w 42) (regAt w 37))
  | _ => none

/-- The instructions of MAJOR 0x22 with F = 1. -/
def major22f (c : Ctx) (w : Word) (f : Nat) : Option Instr :=
  match f with
  | 0x00 => some (.radd4F c (regAt w 47) (regAt w 42) (regAt w 37))
  | 0x01 => some (.radd8F c (regAt w 47) (regAt w 42) (regAt w 37))
  | 0x02 => some (.rfaddF c (regAt w 47) (regAt w 42) (regAt w 37))
  | 0x03 => some (.rbfaddF c (regAt w 47) (regAt w 42) (regAt w 37))
  | 0x04 => some (.rfminF c (regAt w 47) (regAt w 42) (regAt w 37))
  | 0x05 => some (.rfmaxF c (regAt w 47) (regAt w 42) (regAt w 37))
  | 0x06 => some (.rmin4F c (regAt w 47) (regAt w 42) (regAt w 37))
  | 0x07 => some (.rmin8F c (regAt w 47) (regAt w 42) (regAt w 37))
  | 0x08 => some (.rmax4F c (regAt w 47) (regAt w 42) (regAt w 37))
  | 0x09 => some (.rmax8F c (regAt w 47) (regAt w 42) (regAt w 37))
  | 0x0A => some (.rminu4F c (regAt w 47) (regAt w 42) (regAt w 37))
  | 0x0B => some (.rminu8F c (regAt w 47) (regAt w 42) (regAt w 37))
  | 0x0C => some (.rmaxu4F c (regAt w 47) (regAt w 42) (regAt w 37))
  | 0x0D => some (.rmaxu8F c (regAt w 47) (regAt w 42) (regAt w 37))
  | 0x0E => some (.rand8F c (regAt w 47) (regAt w 42) (regAt w 37))
  | 0x0F => some (.ror8F c (regAt w 47) (regAt w 42) (regAt w 37))
  | 0x10 => some (.rxor8F c (regAt w 47) (regAt w 42) (regAt w 37))
  | 0x11 => some (.rswap8F c (regAt w 47) (regAt w 42) (regAt w 37))
  | 0x12 => some (.rcas8F c (regAt w 47) (regAt w 42) (regAt w 37) (regAt w 32))
  | _ => none

/-- The instructions of MAJOR 0x23, by FUNC. -/
def major23 (c : Ctx) (w : Word) (f : Nat) : Option Instr :=
  match f with
  | 0x00 => some (.rput c (regAt w 42) (regAt w 37) (regAt w 32) (sixAt w) (w.getLsbD 6))
  | 0x01 => some (.rget c (regAt w 42) (regAt w 37) (regAt w 32) (sixAt w) (w.getLsbD 6))
  | _ => none

/-- The instructions of MAJOR 0x24, by FUNC. -/
def major24 (c : Ctx) (w : Word) (f : Nat) : Option Instr :=
  match f with
  | 0x00 => some (.rscat c (predAt w 29) (regAt w 47) (regAt w 42) (regAt w 37) (regAt w 32))
  | 0x01 => some (.rgath c (predAt w 29) (regAt w 47) (regAt w 42) (regAt w 37) (regAt w 32))
  | _ => none

/-- The instructions of MAJOR 0x25, by FUNC. -/
def major25 (c : Ctx) (_ : Word) (f : Nat) : Option Instr :=
  match f with
  | 0x00 => some (.fence c)
  | _ => none

/-- The instructions of MAJOR 0x28, by FUNC. -/
def major28 (c : Ctx) (w : Word) (f : Nat) : Option Instr :=
  match f with
  | 0x00 => some (.yield c)
  | 0x01 => some (.ywait c (lowBits w 8 0))
  | 0x02 => some (.kwait c (sixAt w) (regAt w 42) (regAt w 37) (lowBits w 2 30))
  | 0x03 => some (.dbarm c (regAt w 42))
  | 0x04 => some (.dbwait c (regAt w 37) (lowBits w 2 30))
  | 0x05 => some (.stop c)
  | _ => none

/-- The instructions of MAJOR 0x29, by FUNC. -/
def major29 (c : Ctx) (w : Word) (f : Nat) : Option Instr :=
  match f with
  | 0x00 => some (.krd c (regAt w 47) (sixAt w))
  | 0x01 => some (.kset c (sixAt w) (regAt w 42))
  | _ => none

/-- The instructions of MAJOR 0x30, by FUNC. -/
def major30 (c : Ctx) (w : Word) (f : Nat) : Option Instr :=
  match f with
  | 0x00 => some (.csrr c (regAt w 47) (lowBits w 12 0))
  | 0x01 => some (.csrw c (lowBits w 12 0) (regAt w 42))
  | 0x02 => some (.hret c)
  | _ => none

/-- The instruction that MAJOR and FUNC name, with the operands its fields hold; the fields it does not use are not looked at (R118). -/
def wordInstr (c : Ctx) (w : Word) : Option Instr :=
  let f := w.toNat / 2 ^ 52 % 64
  match w.toNat / 2 ^ 58 with
  | 0x01 => major01 c w f
  | 0x02 => major02 c w f
  | 0x03 => major03 c w f
  | 0x04 => major04 c w f
  | 0x05 => major05 c w f
  | 0x06 => major06 c w f
  | 0x08 => major08 c w f
  | 0x09 => major09 c w f
  | 0x0A => major0A c w f
  | 0x0B => major0B c w f
  | 0x10 => major10 c w f
  | 0x11 => major11 c w f
  | 0x12 => major12 c w f
  | 0x13 => major13 c w f
  | 0x14 => major14 c w f
  | 0x16 => major16 c w f
  | 0x15 => major15 c w f
  | 0x18 => major18 c w f
  | 0x19 => major19 c w f
  | 0x20 => major20 c w f
  | 0x21 => major21 c w f
  | 0x22 => if w.getLsbD 31 then major22f c w f else major22 c w f
  | 0x23 => major23 c w f
  | 0x24 => major24 c w f
  | 0x25 => major25 c w f
  | 0x28 => major28 c w f
  | 0x29 => major29 c w f
  | 0x30 => major30 c w f
  | _ => none

/-- The instruction a word stands for when context `c` issues it: the one its fields name, where the word is exactly that instruction's, every
unused field and bit 0 (R117). -/
def decodeWord (c : Ctx) (w : Word) : Option Instr :=
  match wordInstr c w with
  | some i => if encodeWord i = some w then some i else none
  | none => none

/-- Is the word a legal encoding: an assigned MAJOR and FUNC, every unused field and bit 0, no reserved modifier (R117)? -/
def legalWord (w : Word) : Bool := (decodeWord ⟨0, 0, 0⟩ w).isSome

end Sys2Proof.Machine
end

