-- ==== Sys2Proof/Machine/Remote.lean ====
section
/-!
DEFINITION. Remote instructions at issue, waits, counters, system registers and the events of a thread (R36 to R42, R138 to
R158).
-/
namespace Sys2Proof.Machine
open Sys2Proof

/-- What `rscat` and `rgath` do at the core itself once their operation has its entries: xd receives the count of spilled lanes with
latency 10, and the spilled rows are counted (R72, R143, R503, R509). -/
def State.noteSpills (s : State) (c : Ctx) : Option (Nat × Nat) → State
  | none => s
  | some (xd, n) => ((s.startLong c 10 (.x xd (BitVec.ofNat 64 n))).pulse c.coreId 0x0C5 (some c.thread.val) n).endEvent c.tower.val 9 n

/-- A remote instruction takes its tracking entry and its queue entry, and the thread's next instruction is the one after it; `wait` is
what its thread then waits for (R37). -/
def State.enterRemote (s : State) (c : Ctx) (op : RemoteOp) : State :=
  let id := (s.req c.id).nextOp
  (((s.noteSpills c op.spills).enterOp c.id op).modTh c Thread.step).modTh c fun t =>
    { t with wait := if op.kind.waits then .answer id else .none }

/-- A remote instruction gives up the core: its operation enters, or waits in WAIT_REMOTE for an entry with its program
counter still at it (R33, R37, R72). -/
def State.startRemote (s : State) (c : Ctx) (op : RemoteOp) : State :=
  let s := s.pulse c.coreId 0x0C0 (some c.thread.val) 1
  if s.entriesFree c then (s.enterRemote c op).giveUp c (if op.kind.waits then .waitRemote else .ready)
  else
    let no := (s.core c.coreId).heldNo
    ((s.modCore c.coreId fun k => { k with heldNo := no + 1 }).modTh c fun t => { t with wait := .held op no }).giveUp c .waitRemote

/-- The code of a size: 1, 2, 4, 8 bytes as 0 to 3 (R169). -/
def sizeCode (n : Nat) : Nat := Nat.log2 n

/-- Cause 0x10 where an address is refused, with the global address (R76, R138). -/
def addressFault (ok : Bool) (a : Word) : Option (Nat × Word) := if ok then none else some (0x10, a)

/-- A remote load (R139). -/
def rloadOp (size : Nat) (signed : Bool) (c : Ctx) (xd xa : XReg) (s : State) : Host.Outcome State Fault Refusal :=
  let s := s.arrive c
  let a := (s.th c).xr xa
  .next (s.issue c { needs [.x xd, .x xa] with
      early := [.x xa], fault := addressFault (s.addressOk a .load size size c.tower.val false) a } fun s =>
    s.startRemote c (oneOp c (s.th c).pc (.load xd.val size signed) (onePiece 0x01 (sizeCode size) a size 0 0 false)))

/-- A remote store, with or without the doorbell attribute (R139). -/
def rstoreOp (size : Nat) (db : Bool) (c : Ctx) (xv xa : XReg) (s : State) : Host.Outcome State Fault Refusal :=
  let s := s.arrive c
  let a := (s.th c).xr xa
  .next (s.issue c { needs [.x xv, .x xa] with
      early := [.x xa], fault := addressFault (s.addressOk a .store size size c.tower.val false) a } fun s =>
    s.startRemote c (oneOp c (s.th c).pc .write
      (onePiece 0x02 (sizeCode size) a size (BitVec.ofNat 64 (((s.th c).xr xv).toNat % 2 ^ (8 * size))) 0 db)))

/-- A non-fetch atomic (R140). -/
def atomicOp (func size : Nat) (c : Ctx) (xa xs : XReg) (s : State) : Host.Outcome State Fault Refusal :=
  let s := s.arrive c
  let a := (s.th c).xr xa
  .next (s.issue c { needs [.x xa, .x xs] with
      early := [.x xa], fault := addressFault (s.addressOk a .atomic size size c.tower.val false) a } fun s =>
    s.startRemote c (oneOp c (s.th c).pc .write
      (onePiece 0x03 func a size (BitVec.ofNat 64 (((s.th c).xr xs).toNat % 2 ^ (8 * size))) 0 false)))

/-- A fetch atomic; `xc` is the comparand of `rcas8` (R140). -/
def fetchOp (func size : Nat) (xc : Option XReg) (c : Ctx) (xd xa xs : XReg) (s : State) : Host.Outcome State Fault Refusal :=
  let s := s.arrive c
  let a := (s.th c).xr xa
  let cdep := match xc with
    | none => []
    | some r => [Dep.x r]
  .next (s.issue c { needs ([.x xd, .x xa, .x xs] ++ cdep) with
      early := [.x xa], fault := addressFault (s.addressOk a .atomic size size c.tower.val false) a } fun s =>
    let cmp := match xc with
      | none => 0
      | some r => (s.th c).xr r
    s.startRemote c (oneOp c (s.th c).pc (.fetch xd.val size)
      (onePiece 0x03 (func + 128) a size (BitVec.ofNat 64 (((s.th c).xr xs).toNat % 2 ^ (8 * size))) cmp false)))

/-! Bulk transfers (R141, R170). -/

/-- The pieces of a transfer between `far` and local offset `loc`. A PUT carries its length in its data flits; a GET asks
for its units in SUB and carries the local offset (R168, R169). -/
def bulkPieces (put : Bool) (far : Word) (loc len : Nat) (ken : Bool) (knum kctx : Nat) : List Piece :=
  (cutPieces (decide (gaEndpoint far = 31)) (gaOffset far) len).map fun (at', n) =>
    { op := if put then 0x04 else 0x05, sub := if put then 0 else n / 32 - 1, far := far + BitVec.ofNat 64 at', loc := loc + at',
      len := n, operand := if put then 0 else BitVec.ofNat 64 (loc + at'), comparand := 0, ken := ken,
      knum := if ken then knum else 0, kctx := if ken then kctx else 0, db := false }

/-- `rput` and `rget` (R141): xl is checked (0x02, 0x03), then the far address and the counter target (0x10). A length of 0
moves nothing and is acknowledged at issue. -/
def bulkOp (put : Bool) (c : Ctx) (xa xl xn : XReg) (k : KReg) (ken : Bool) (s : State) : Host.Outcome State Fault Refusal :=
  let s := s.arrive c
  let t := s.th c
  let far := t.xr xa
  let loc := low20 (t.xr xl)
  let units := (t.xr xn).field 15 0
  let len := 32 * units
  let kctx := if put then (t.xr xn).field 47 32 else c.id
  let farOk := s.addressOk far .bulk len 32 c.tower.val false && (!put || !ken || s.counterOk far kctx)
  let fault := match localFault loc 32 len with
    | some f => some f
    | none => addressFault farOk far
  .next (s.issue c { needs [.x xa, .x xl, .x xn] with early := [.x xa, .x xl, .x xn], fault := fault } fun s =>
    if units = 0 then ((s.pulse c.coreId 0x0C0 (some c.thread.val) 1).modTh c Thread.step).giveUp c .ready
    else s.startRemote c
      { id := 0, thread := c.thread.val, pc := (s.th c).pc, kind := if put then .put else .get,
        unsent := bulkPieces put far loc len ken k.val kctx, flights := [], failure := none, value := none, bytes := [], spills := none })

/-- `rput` (R141). -/
def execRput (c : Ctx) (xa xl xn : XReg) (k : KReg) (ken : Bool) (s : State) := bulkOp true c xa xl xn k ken s
/-- `rget` (R141). -/
def execRget (c : Ctx) (xa xl xn : XReg) (k : KReg) (ken : Bool) (s : State) := bulkOp false c xa xl xn k ken s

/-! Scatter and gather (R142, R143). -/

/-- The fields of a descriptor (R142). -/
structure Desc where
  base : Word
  spill : Word
  rowBytes : Nat
  capacity : Nat
  spillRows : Nat
  ctx : Nat
  knum : Nat
  ken : Bool
  deriving DecidableEq, Repr

def descOf (bs : List Byte) : Desc :=
  let n := fun (at' len : Nat) => ofBytes ((bs.drop at').take len)
  let u := n 16 2 % 2048
  { base := BitVec.ofNat 64 (n 0 8), spill := BitVec.ofNat 64 (n 8 8), rowBytes := 32 * (if u = 0 then 2048 else u),
    capacity := n 20 4, spillRows := if n 24 4 = 0 then 1 else n 24 4, ctx := n 28 2, knum := n 30 1 % 64,
    ken := n 30 1 / 64 % 2 = 1 }

/-- The rows of one scatter or gather, in increasing lane: local offset, far address, spilled (R143). -/
def descRows (d : Desc) (loc : Nat) (lanes : List (Nat × Lane)) : List (Nat × Word × Bool) :=
  lanes.map fun (i, v) =>
    let idx := v.toNat
    if idx < d.capacity then (loc + i * d.rowBytes, d.base + BitVec.ofNat 64 (idx * d.rowBytes), false)
    else (loc + i * d.rowBytes, d.spill + BitVec.ofNat 64 ((idx - d.capacity) % d.spillRows * d.rowBytes), true)

/-- The bytes of the scratchpad a descriptor is read from, with the core's own pending stores laid over them. -/
def State.descBytes (s : State) (k : CoreId) (off : Nat) : Option (List Byte) :=
  match (s.spadTry k off 32).2 with
  | .ok bs => some (overlay (s.core k).stores (s.core k).accessNo off bs)
  | .error _ => none

/-- The checks of `rscat` and `rgath` (R143), in the order of R119: the descriptor's offset, the rows' local offset, every governed row,
every far address, and a counter target. Of several that fail one check the first in this order, and the lowest lane, is the one whose
address is saved (assumption 120). A counter target is checked where a row carries one: with every governed row at the spill address the
spec asks for no check in so many words (assumption 121). -/
def rowsFault (ok : Word → Bool) (counterOk : Bool) (counter : Bool) (d : Desc) (doff loc : Nat) (rows : List (Nat × Word × Bool)) :
    Option (Nat × Word) :=
  if doff % 32 ≠ 0 then some (2, BitVec.ofNat 64 doff)
  else if loc % 32 ≠ 0 then some (2, BitVec.ofNat 64 loc)
  else match rows.find? fun r => decide (2 ^ 20 < r.1 + d.rowBytes) with
    | some r => some (3, BitVec.ofNat 64 r.1)
    | none => match rows.find? fun r => !ok r.2.1 with
      | some r => some (0x10, r.2.1)
      | none => if counter && !counterOk then some (0x10, d.base) else none

/-- The operation of all the rows of one `rscat` or `rgath` (R143, R179). -/
def rowsRemote (scatter : Bool) (c : Ctx) (pc : BitVec 13) (xd : XReg) (d : Desc) (rows : List (Nat × Word × Bool)) : RemoteOp :=
  { id := 0, thread := c.thread.val, pc := pc, kind := if scatter then .put else .get,
    unsent := rows.flatMap fun r =>
      bulkPieces scatter r.2.1 r.1 d.rowBytes (d.ken && (!scatter || !r.2.2)) d.knum (if scatter then d.ctx else c.id),
    flights := [], failure := none, value := none, bytes := [],
    spills := some (xd.val, (rows.filter fun r => r.2.2).length) }

/-- `rscat` and `rgath` (R143): every governed lane is checked at issue, and all rows hold one tracking entry. With no governed lane
nothing moves and xd receives 0. -/
def rowsOp (scatter : Bool) (c : Ctx) (pg : PReg) (xd : XReg) (vi : VReg) (xl xdesc : XReg) (s : State) :
    Host.Outcome State Fault Refusal :=
  let s := s.arrive c
  let t := s.th c
  let loc := low20 (t.xr xl)
  let doff := low20 (t.xr xdesc)
  let lanes := ((List.range 64).filter fun i => (t.pr pg).getLsbD i).map fun i => (i, t.lane vi i)
  let bytes := if doff % 32 = 0 then s.descBytes c.coreId doff else some (List.replicate 32 0)
  let d := descOf (bytes.getD (List.replicate 32 0))
  let rows := descRows d loc lanes
  let fault := rowsFault (fun a => s.addressOk a .bulk d.rowBytes 32 c.tower.val false) (s.counterOk d.base d.ctx)
    (scatter && d.ken && rows.any fun r => !r.2.2) d doff loc rows
  .next (s.issue c
    { early := [.x xl, .x xdesc, .v vi, .p pg], fault := if bytes.isNone then none else fault,
      deps := [.p pg, .x xd, .v vi, .x xl, .x xdesc], hold := false, free := 0 } fun s =>
    match s.spadTry c.coreId doff 32 with
    | (s, .error l) => s.fatalAt c.coreId (s.th c).pc (32 * l)
    | (s, .ok _) =>
      let op := rowsRemote scatter c (s.th c).pc xd d rows
      if rows = [] then
        (((s.noteSpills c op.spills).pulse c.coreId 0x0C0 (some c.thread.val) 1).modTh c Thread.step).giveUp c .ready
      else s.startRemote c op)

/-- `rscat` (R143). -/
def execRscat (c : Ctx) (pg : PReg) (xd : XReg) (vi : VReg) (xl xdesc : XReg) (s : State) := rowsOp true c pg xd vi xl xdesc s
/-- `rgath` (R143). -/
def execRgath (c : Ctx) (pg : PReg) (xd : XReg) (vi : VReg) (xl xdesc : XReg) (s : State) := rowsOp false c pg xd vi xl xdesc s

/-! Fence and waits. -/

/-- `fence` (R145, R180): it always gives up the core; with nothing outstanding the thread is READY at once, and a deferred
fault it holds is raised when it resumes. -/
def execFence (c : Ctx) (s : State) : Host.Outcome State Fault Refusal :=
  let s := s.arrive c
  .next (s.issue c (needs []) fun s =>
    let s := (s.pulse c.coreId 0x0C0 (some c.thread.val) 1).modTh c Thread.step
    if (s.req c.id).ops = [] then
      (s.modTh c fun t => { t with fenceDue := t.deferred.isSome }).giveUp c .ready
    else (s.modTh c fun t => { t with wait := .fence (s.req c.id).nextOp }).giveUp c .waitRemote)

/-- The deferred fault that a `fence` has found due is raised as its thread resumes, with the `fence` as the saved instruction (R66,
R145). -/
def State.raiseDue (s : State) (c : Ctx) : State :=
  match (s.th c).deferred with
  | none => s.modTh c fun t => { t with fenceDue := false }
  | some (cause, addr) =>
    ((s.takeCycle c).modTh c fun t => { t with fenceDue := false, deferred := none }).raise c cause addr ((s.th c).pc - 1) true

/-- A fence returns once every operation before it is complete; a thread that has resumed raises the deferred fault it holds (R66, R145). -/
def execFenceReturn (c : Ctx) (s : State) : Host.Outcome State Fault Refusal :=
  match (s.th c).wait with
  | .fence before =>
    if s.opsBefore c.id before then .next s
    else .next ((s.modTh c fun t => { t with fenceDue := t.deferred.isSome }).wake c)
  | _ =>
    let due := fun (s : State) => (s.th c).fenceDue && decide ((s.th c).st = .running) && decide ((s.core c.coreId).sleep = .awake)
    if due s then
      let s := s.arrive c
      .next (if due s then s.raiseDue c else s)
    else .next s

/-- `yield` (R146). -/
def execYield (c : Ctx) (s : State) : Host.Outcome State Fault Refusal :=
  let s := s.arrive c
  .next (s.issue c (needs []) fun s => (s.modTh c Thread.step).giveUp c .ready)

/-- `stop` (R146). -/
def execStop (c : Ctx) (s : State) : Host.Outcome State Fault Refusal :=
  let s := s.arrive c
  .next (s.issue c (needs []) fun s => ((s.modTh c Thread.step).giveUp c .stopped).endReplay c.coreId (some c.thread.val) 1 0)

/-- `ywait` (R44, R146, R148): a mask of 0 is illegal. -/
def execYwait (c : Ctx) (mask : BitVec 8) (s : State) : Host.Outcome State Fault Refusal :=
  let s := s.arrive c
  .next (s.issue c { needs [] with fault := if mask = 0 then some (1, 0) else none } fun s =>
    let s := s.modTh c Thread.step
    if (s.core c.coreId).ywaitHolds c.thread mask then s
    else (s.modTh c fun t => { t with wait := .ylocal mask }).giveUp c .waitLocal)

/-- `kwait` (R146, R148): met at issue, p7 all ones; deadline passed at issue, p7 zeros; else WAIT_COUNTER. -/
def execKwait (c : Ctx) (k : KReg) (xv xt : XReg) (dl : BitVec 2) (s : State) : Host.Outcome State Fault Refusal :=
  let s := s.arrive c
  let fault := if (deadlineOf (s.th c) s.time xt dl).isNone then some (1, 0) else none
  .next (s.issue c { needs [.x xv, .x xt, .p 7] with fault := fault } fun s =>
    let s := s.modTh c Thread.step
    let t := s.th c
    let xvv := (t.xr xv).truncate 32
    let d := (deadlineOf t s.time xt dl).getD none
    if counterReached (s.counter c.id k.val) xvv then s.modTh c fun t => t.setP 7 (waitFlag true)
    else if deadlinePassed s.time d then s.modTh c fun t => t.setP 7 (waitFlag false)
    else (s.modTh c fun t => { t with wait := .counter k.val xvv d }).giveUp c .waitCounter)

/-- `dbarm` (R40, R146). -/
def execDbarm (c : Ctx) (xa : XReg) (s : State) : Host.Outcome State Fault Refusal :=
  let s := s.arrive c
  let off := low20 ((s.th c).xr xa)
  .next (s.issueSeq c { needs [.x xa] with
      early := [.x xa], fault := if off % 64 ≠ 0 then some (2, BitVec.ofNat 64 off) else none } fun s =>
    s.modTh c fun t => { t with armed := some (off / 64), dbPending := false })

/-- `dbwait` (R40, R148): a pending bit is consumed without a switch. -/
def execDbwait (c : Ctx) (xt : XReg) (dl : BitVec 2) (s : State) : Host.Outcome State Fault Refusal :=
  let s := s.arrive c
  let fault := if (deadlineOf (s.th c) s.time xt dl).isNone then some (1, 0) else none
  .next (s.issue c { needs [.x xt, .p 7] with fault := fault } fun s =>
    let s := s.modTh c Thread.step
    let t := s.th c
    let d := (deadlineOf t s.time xt dl).getD none
    if t.dbPending then s.modTh c fun t => { t with dbPending := false }.setP 7 (waitFlag true)
    else if deadlinePassed s.time d then s.modTh c fun t => t.setP 7 (waitFlag false)
    else (s.modTh c fun t => { t with wait := .doorbell d }).giveUp c .waitDoorbell)

/-- A deadline passes: the machine reaches it, p7 becomes zeros and the thread READY (R42). -/
def execWaitDeadlinePassed (c : Ctx) (s : State) : Host.Outcome State Fault Refusal :=
  match (s.th c).wait.deadline with
  | none => .next s
  | some d =>
    if 2 ^ 64 ≤ d then .next s
    else .next (((s.reach (s.moment d)).modTh c fun t => t.setP 7 (waitFlag false)).wake c)

/-! Counters and system registers. -/

/-- `krd` (R149). -/
def execKrd (c : Ctx) (xd : XReg) (k : KReg) (s : State) : Host.Outcome State Fault Refusal :=
  let s := s.arrive c
  .next (s.issueSeq c (needs [.x xd]) fun s => s.modTh c fun t => t.setX xd ((s.counter c.id k.val).zeroExtend 64))

/-- `kset` (R149). -/
def execKset (c : Ctx) (k : KReg) (xs : XReg) (s : State) : Host.Outcome State Fault Refusal :=
  let s := s.arrive c
  .next (s.issueSeq c (needs [.x xs]) fun s => s.setCounter c.id k.val (((s.th c).xr xs).truncate 32))

/-- CORE_SELF (R152). -/
def State.coreSelf (s : State) (c : Ctx) : Word := BitVec.ofNat 64 (s.moduleId * 2 ^ 54 + c.id * 2 ^ 38)

/-- The value of a system register; none where R151 lists none. A tower's copy of TIME_NOW may differ from the master by up to 1 ns (R354):
the model makes every copy equal to the module's count (assumption 122). -/
def State.sysReg (s : State) (c : Ctx) (sr : BitVec 12) : Option Word :=
  match sr.toNat with
  | 0x000 => some (s.coreSelf c)
  | 0x001 => some (s.th c).numctl
  | 0x002 => some (BitVec.ofNat 64 s.time)
  | 0x003 => some (BitVec.ofNat 64 (s.core c.coreId).cycle)
  | 0x010 => some (s.th c).hctl
  | 0x011 => some (s.th c).einfo
  | 0x012 => some (s.th c).eaddr
  | _ => none

/-- `csrr`: latency 1, and 3 for TIME_NOW (R150). -/
def execCsrr (c : Ctx) (xd : XReg) (sr : BitVec 12) (s : State) : Host.Outcome State Fault Refusal :=
  let s := s.arrive c
  .next (s.issueSeq c { needs [.x xd] with fault := if (s.sysReg c sr).isNone then some (1, 0) else none } fun s =>
    let v := (s.sysReg c sr).getD 0
    if sr = 2 then s.startLong c 3 (.x xd.val v) else s.modTh c fun t => t.setX xd v)

/-- What a `csrw` of a value leaves in a system register; none where it is not writable or not listed (R150). -/
def Thread.csrw (t : Thread) (sr : BitVec 12) (v : Word) : Option Thread :=
  match sr.toNat with
  | 0x001 => some { t with numctl := putField v 63 63 0 }
  | 0x010 => some { t with hctl := putField (putField 0 63 63 (v.field 63 63)) 12 0 (v.field 12 0) }
  | 0x011 => some { t with einfo := putField t.einfo 12 0 (v.field 12 0) }
  | _ => none

/-- `csrw` (R150). -/
def execCsrw (c : Ctx) (sr : BitVec 12) (xs : XReg) (s : State) : Host.Outcome State Fault Refusal :=
  let s := s.arrive c
  .next (s.issueSeq c { needs [.x xs] with fault := if (((s.th c).csrw sr 0)).isNone then some (1, 0) else none } fun s =>
    s.modTh c fun t => (t.csrw sr (t.xr xs)).getD t)

/-- `hret` (R158). -/
def execHret (c : Ctx) (s : State) : Host.Outcome State Fault Refusal :=
  let s := s.arrive c
  .next (s.issue c (needs []) fun s => s.modTh c fun t =>
    { t with hctl := putField t.hctl 63 63 1, pc := BitVec.ofNat 13 (t.einfo.field 12 0) })

/-! Illegal words (R115 to R118). -/

/-- A word that is no legal encoding raises cause 0x01 (R117); a legal word is not this event. -/
def execIllegalInstruction (c : Ctx) (word : Word) (s : State) : Host.Outcome State Fault Refusal :=
  if legalWord word then .next s
  else .next ((s.arrive c).issue c { needs [] with fault := some (1, 0) } fun s => s)

/-! Events of a thread. -/

/-- A held remote instruction enters the queue when its entries are free, in the core's issue order, and its thread follows R37 (R33). -/
def execHeldRemoteEntersQueue (c : Ctx) (s : State) : Host.Outcome State Fault Refusal :=
  match (s.th c).wait with
  | .held op no =>
    if s.mayEnter c no then
      if op.kind.waits then .next (s.enterRemote c op) else .next ((s.enterRemote c op).wake c)
    else .next s
  | _ => .next s

/-- A thread that does not run is stopped: one that waits for an answer keeps its tracking entry and the wait, so that a fault of the very
cycle is still taken; a held instruction is abandoned (R66, R72). -/
def Thread.stopped (t : Thread) (cyc : Nat) : Thread :=
  { t with
    st := .stopped, stoppedAt := some cyc
    wait := match t.wait with
      | .answer op => .answer op
      | _ => .none }

/-- A write of CORE_CTRL.STOP: a waiting or READY thread stops at once; the RUNNING one at its next issue boundary (R36, R72). The spec does
not say what becomes of a FAULTED thread: it stays FAULTED (assumption 123). -/
def State.stopThreads (s : State) (k : CoreId) (threads : BitVec 8) : State :=
  threadNos.foldl (fun s t =>
    if threads.getLsbD t.val then
      match ((s.core k).th t).st with
      | .running => s.modCore k fun c => c.modTh t fun th => { th with stopReq := true }
      | .faulted => s
      | .stopped => s
      | _ => s.modCore k fun c => c.modTh t fun th => th.stopped c.cycle
    else s) s

/-- CORE_CTRL.STOP (R72); an absent core or one asleep takes no write (R70, R73). -/
def execThreadStopRequest (k : CoreId) (threads : BitVec 8) (s : State) : Host.Outcome State Fault Refusal :=
  if s.absent k || s.coreAsleep k then .next s else .next (s.stopThreads k threads)

/-- The stop takes effect at the issue boundary: the thread gives up the core as if it had issued `stop`, but a deferred fault that is due
there is taken (R36, R66, R72). Where the instruction at the boundary raises a fault, the sender gives that instruction's command and not
this one (assumption 124). -/
def execStopAtIssueBoundary (c : Ctx) (s : State) : Host.Outcome State Fault Refusal :=
  let s := s.arrive c
  if (s.th c).stopReq && decide ((s.th c).st = .running) then
    if (s.th c).fenceDue && (s.th c).deferred.isSome && decide ((s.core c.coreId).sleep = .awake) then .next (s.raiseDue c)
    else .next (s.takeStop c)
  else .next s

end Sys2Proof.Machine
end

