-- ==== Sys2Proof/Machine/Job.lean ====
section
/-!
DEFINITION. Enabling, running and ending a job, and the moves of experts (R198 to R236).
-/
namespace Sys2Proof.Machine
open Sys2Proof

def Port.isHost : Port → Bool
  | .hostA => true
  | .hostB => true
  | _ => false

/-- JOB_STATUS.STATE changes; both ports send vector 2 (R406). -/
def State.setJobState (s : State) (v : Nat) : State :=
  if s.jobState = v then s else (s.setField 0x10808 2 0 v).msi 2

def State.jobIgnored (s : State) : State := s.setField 0x10808 40 40 1

/-- A refusal (R221): REASON and JOB_DETAIL are written, and STATE is IDLE. -/
def State.refuseJob (s : State) (reason : Nat) (f : Finding) : State :=
  let s := ((s.setField 0x10808 39 32 reason).setField 0x10820 47 40 f.sect).setField 0x10820 31 0 f.entry
  (s.modJob fun j => { j with latch := none }).setJobState 0

/-- A write of 1 to JOB_CTRL.ENABLE (R206, R221, R222, R225): the registers are latched, and the rows that precede the copy are
tested. By a path other than a host port it is refused with 0x52. -/
def State.jobEnable (s : State) (p : Port) : State :=
  if s.jobState ≠ 0 then s.jobIgnored
  else
    let len := s.field 0x10818 23 0
    let latch : JobLatch := { addr := s.field 0x10810 40 8 * 256, len := len, digest := (List.range 4).map fun n => s.reg (0x10840 + 8 * n),
                              at' := s.now, host := Port.isHost p }
    let s := (s.modJob fun j => { j with latch := some latch }).setJobState 1
    if !Port.isHost p then s.refuseJob 0x52 none0
    else if s.mod.pair.role = 2 then s.refuseJob 0x55 none0
    else if bitOf (s.reg 0x10010) 63 then s.refuseJob 0x54 none0
    else if len < 512 ∨ 0x800000 < len then s.refuseJob 0x30 (hdr 8)
    else s

def execJobEnable (p : Port) (s : State) : Host.Outcome State Fault Refusal := .next ((s.endLatch p 0x10800).jobEnable p)

/-- The first line of a range that cannot be read: not backed, on a failed channel, or with an undecodable unit (R222). -/
def State.badLine (s : State) (addr len : Nat) : Option Nat :=
  (List.range ((len + 255) / 256)).find? fun i =>
    let off := addr + 256 * i
    decide (hashedLimit ≤ off) || decide ((s.chan (hashChannel off)).st = .failed) ||
    (List.range 8).any fun u => s.unitBad (hashChannel off) (off / 32 + u)

/-- The digest a latch holds, as bytes (R233). -/
def JobLatch.bytes (l : JobLatch) : List Byte := l.digest.flatMap fun w => bytesOf 8 w.toNat

/-- Bytes of the hashed region, line by line as the ports answer them. -/
def State.hashedLines (s : State) (addr len : Nat) : List Byte :=
  ((List.range ((len + 255) / 256)).flatMap fun i => s.hashedBytes (addr + 256 * i) 256).take len

/-- The package has been copied and digested, and the check has run (R206, R221 to R223): refused, or LOADING, with a signed enable
record when FLAGS.SIGN is 1. -/
def execJobPackageCopied (s : State) : Host.Outcome State Fault Refusal :=
  match s.mod.job.latch with
  | none => .next s
  | some l =>
    if s.jobState ≠ 1 then .next s
    else match s.badLine l.addr l.len with
      | some i => .next (s.refuseJob 0x50 { sect := 0, entry := 256 * i })
      | none =>
        let pkg := (s.hashedLines l.addr l.len)
        match s.jobCheck pkg l.bytes with
        | some (code, f) => .next ((if code = 0x53 then s.count 0x1B008 23 16 1 else s).refuseJob code f)
        | none =>
          let s := s.modJob fun j => { j with buffer := pkg, checkedAt := s.now }
          let s := ((s.setField 0x10808 39 32 0).setField 0x10820 47 40 0).setField 0x10820 31 0 0
          let c1 := s.mod.start.primary1
          let rec' := s.recordHead 2 c1 (s.ots c1).generation s.now (List.replicate 32 0) (pkgTag pkg) ++ sha256 pkg
          let s := if pkgSign pkg then (match s.otsSign c1 rec' with
            | (s, some sig) => s.modJob fun j => { j with record := some (rec' ++ sig) }
            | (s, none) => s) else s
          .next (s.setJobState 2)

/-- A word of a vault's direct part written by the module (R199, R200, R224). -/
def State.vaultWord (s : State) (t a v : Nat) : State := (s.writeVault t a (bytesOf 8 v) none s.vaultNow).1

/-- Rows and dies that hold a started thread (R363). -/
def startedCores (p : List Byte) : List Nat := (List.range 2048).filter fun i => decide (secNat p 2 (32 * i + 10) 1 ≠ 0)

def towers : List (Fin 8) := [0, 1, 2, 3, 4, 5, 6, 7]

/-- Wake what a job needs: ROW_SLEEP is cleared for its rows and DEEP for its towers (R363). -/
def State.wakeFor (s : State) (p : List Byte) : State :=
  let cs := startedCores p
  towers.foldl (fun s t =>
    let mine := cs.filter fun i => decide (i / 256 = t.val)
    let s := if mine ≠ [] ∧ bitOf (s.reg (towerStatus t)) 32 then s.deepWake t else s
    (List.range 16).foldl (fun s r =>
      if (mine.any fun i => decide (i % 256 / 16 = r)) ∧ bitOf (s.reg (towerStatus t)) r then s.rowWake t r else s) s) s

/-- Does a needed row or die still sleep? -/
def State.sleeps (s : State) (p : List Byte) : Bool :=
  (startedCores p).any fun i => s.coreAsleep ⟨⟨i / 256 % 8, Nat.mod_lt _ (by decide)⟩, ⟨i % 256, Nat.mod_lt _ (by decide)⟩⟩

/-- What loading writes of one core (R209, R210, R224). -/
def Core.load (c : Core) (p : List Byte) (i : Nat) (key : Word) : Core :=
  let words := match coreImage p i with
    | some n => (match (pkgImages p)[n]? with
      | some off => (p.drop (off + 8)).take (8 * pkgNat p off 4)
      | none => [])
    | none => []
  let put := fun (tab : Tab Thread) (t : Fin 8) => tab.set Thread.reset t.val { Thread.reset with pc := BitVec.ofNat 13 (corePc p i t.val) }
  { c with threads := threadNos.foldl put [], ranLast := 7, imem := Mem.write [] 0 words, imemErr := [], key := key }

/-- What the threads of the last job left in flight in a core has long been done. -/
def State.settleCore (s : State) (k : CoreId) : State := if (s.core k).quiet then s else s.toCycle k ((s.core k).cycle + 65536)

/-- An enabled core as LOADING leaves it: its image, its threads at their entries with none run yet, its stochastic key and its unit map
(R39, R224). -/
def State.loadCore (s : State) (p : List Byte) (i : Nat) : State :=
  if s.coreEnabled (i / 256) (i % 256) then
    let key := coreKey (BitVec.ofNat 64 (pkgSeed p)) s.moduleId (i / 256) (i % 256)
    let k : CoreId := ⟨⟨i / 256 % 8, Nat.mod_lt _ (by decide)⟩, ⟨i % 256, Nat.mod_lt _ (by decide)⟩⟩
    ((s.settleCore k).modCore k fun c => c.load p i key).setField (coreBlock k + 0x18) 19 0 (coreUnitMap p i)
  else s

/-- A tower's vault as LOADING leaves it: its direct part set, its cache empty, its placement words zero (R224). -/
def State.loadVault (s : State) (p : List Byte) (t : Nat) : State :=
  let s := (s.setField (endBlock t + 8) 5 0 (pkgVaultDirect p / 2 ^ 26)).emptyCache t
  if s.endEnabled t then (List.range (secCount p 3)).foldl (fun s i => s.vaultWord t (pkgPstat p + 8 * i) 0) s else s

/-- The job control words of both control chiplets cleared (R476). -/
def State.clearJobWords (s : State) : State :=
  let words := fun (m : Mem) (c : Nat) => m.clear (c * 2 ^ 23 + 0x7FF000) 40
  { s with csram := words (words s.csram 0) 1 }

/-- Job enable sets the counters of every context to 0 and starts its numbering again at 0 (R177, R181, R224). The operations of a control
chiplet's contexts go on. -/
def State.renumber (s : State) : State :=
  let s := s.clearContexts fun c => decide (c < 16384)
  let again := fun (e : Nat × Requester) => listed Requester.empty e.1 { e.2 with seqs := [] }
  { s with requesters := s.requesters.filterMap again, counters := [] }

/-- Loading (R224): everything it writes of the module but the tables staged for S. -/
def State.loadJob (s : State) (p : List Byte) : State :=
  let s := (List.range 2048).foldl (fun s i => s.loadCore p i) s
  let s := s.renumber
  let s := towers.foldl (fun s t => s.loadVault p t.val) s
  let s := s.setField 0x10400 31 0 (pkgTimeBound p)
  let s := (List.range 1024).foldl (fun s m => s.setReg (0x12000 + 8 * m) (BitVec.ofNat 64 (pkgRoute p m) &&& 0xC000000000FFFFFF)) s
  let s := (s.setReg 0x10838 (BitVec.ofNat 64 (pkgTag p))).setField 0x10808 31 16 0
  let s := s.clearJobWords.setField 0x10088 55 0 0
  s.modMod fun m => { m with
    job := { m.job with live := p, places := [], moved := [], moves := [] }
    witness := { m.witness with lastStep := 0, sample := none, mismatch := false }
    ckpt := { m.ckpt with count := 0, tags := [], lastTags := [] } }

/-- Loading finishes (R221, R224, R363): once the rows and dies the job needs are awake STATE is STARTING, with S the first multiple of
1,024 ns at least 20 µs on, and the change towards CLOCK_POINT is announced, which takes effect at or before S. That announcement does
not wait until a higher point has been allowed for 1 ms (assumption 130). -/
def execJobLoadDone (s : State) : Host.Outcome State Fault Refusal :=
  if s.jobState ≠ 2 then .next s
  else
    let p := s.mod.job.buffer
    let s := s.wakeFor p
    if s.sleeps p then .next s
    else
      let s := s.loadJob p
      let start := (s.now + 20000 + 1023) / 1024 * 1024
      let s := s.modJob fun j => { j with start := some start, latch := none }
      .next (((s.modLadder fun l => { l with jobPoint := some (pkgClockPoint p) }).setJobState 3).govern 0)

/-- A thread with a START bit is READY (R39, R221). -/
def State.startThreads (s : State) (p : List Byte) : State :=
  (startedCores p).foldl (fun s i =>
    let k : CoreId := ⟨⟨i / 256 % 8, Nat.mod_lt _ (by decide)⟩, ⟨i % 256, Nat.mod_lt _ (by decide)⟩⟩
    if s.coreEnabled (i / 256) (i % 256) then
      (threadNos.foldl (fun s t =>
        if coreStart p i t.val then s.modCore k fun c => c.ready t else s) s).choose k
    else s) s

/-- The bytes of a section as a memory of its own. -/
def sectionMem (p : List Byte) (type len : Nat) : Mem :=
  match pkgSection p type with
  | some x => Mem.write [] 0 ((p.drop x.offset).take len)
  | none => []

/-- At S the package's tables take effect, its started threads become READY, and the job runs (R221). A core that has been disabled since its
row was tested counts as having failed at S (R223). -/
def execJobStart (s : State) : Host.Outcome State Fault Refusal :=
  match s.mod.job.start with
  | none => .next s
  | some start =>
    if s.jobState ≠ 3 then .next s
    else
      let s := s.reach start
      let p := s.mod.job.live
      let s := { s with landing := some (sectionMem p 4 73728), chanTable := some (sectionMem p 5 18432) }
      let s := (s.setReg 0x10828 (BitVec.ofNat 64 start)).modMod fun m => { m with
        job := { m.job with start := none }, ckpt := { m.ckpt with dueAt := s.now } }
      .next (((s.startThreads p).setJobState 4).decideMoves fun i => !s.coreEnabled (i / 256) (i % 256))

/-- Every core slot. -/
def allCores : List CoreId := towers.flatMap fun t => coreNos.map fun c => ⟨t, c⟩

/-- Stop every thread of every core, as CORE_CTRL.STOP would (R226). -/
def State.stopAll (s : State) : State :=
  allCores.foldl (fun s k => if (s.core k).threads = [] then s else s.stopThreads k 0xFF) s

/-- A job ends as JOB_CTRL.END ends it (R226); its clock point no longer counts (R360). -/
def State.endJob (s : State) : State :=
  if s.jobState = 3 ∨ s.jobState = 4 then
    ((s.stopAll.modLadder fun l => { l with jobPoint := none }).modJob fun j => { j with start := none, moves := [] }).setJobState 5
  else s

/-- A write of 1 to JOB_CTRL.END, by a host port alone (R225, R226, R229). -/
def State.jobEnd (s : State) (p : Port) : State :=
  if !Port.isHost p then s else if s.jobState = 3 ∨ s.jobState = 4 then s.endJob else s.jobIgnored

def execJobEnd (p : Port) (s : State) : Host.Outcome State Fault Refusal := .next ((s.endLatch p 0x10800).jobEnd p)

/-- No core holds a tracking entry, and every thread has stopped. -/
def State.jobQuiet (s : State) : Bool :=
  (s.requesters.all fun e => decide (16384 ≤ e.1) || e.2.ops.isEmpty) &&
  s.cores.all fun e => e.2.threads.all fun t => decide (t.2.st = .stopped) || decide (t.2.st = .faulted)

/-- The idle tables take effect, CORE_UNIT_MAP and CORE_NUMCTL return to their Reset values, and STATE is IDLE (R226). -/
def State.idleJob (s : State) : State :=
  let quiet := fun (e : Nat × Core) => listed Core.reset e.1 { e.2 with
    threads := Tab.mapKeys Thread.reset (fun _ => true) (fun t => { t with numctl := 0 }) e.2.threads }
  let s := { s with landing := none, chanTable := none, cores := s.cores.filterMap quiet }
  let unitMap := fun (o : Nat) => decide (0x100000 ≤ o) && decide (o < 0x200000) && decide (0x10000 ≤ o % 0x20000) && decide (o % 0x100 = 0x18)
  (((s.resetRegs unitMap).modLadder fun l => { l with jobPoint := none }).modJob fun j => { j with start := none, moves := [] }).setJobState 0

/-- With no tracking entry held the job is over at the next frame boundary (R226). -/
def execJobEndComplete (s : State) : Host.Outcome State Fault Refusal :=
  if s.jobState = 5 ∧ s.jobQuiet then .next (s.reach ((s.now + 1023) / 1024 * 1024)).idleJob else .next s

/-! Expert moves (R200, R201). -/

/-- May a commanded move go to its place (R201)? -/
def State.moveTarget (s : State) (e : Place') (action : Nat) : Bool :=
  match action with
  | 0 => decide (e.homeModule = s.moduleId) && s.coreEnabled e.homeTower e.homeCore
  | 1 => e.hasAlt && decide (e.altModule = s.moduleId) && s.coreEnabled e.altTower e.altCore
  | 2 => true
  | _ => false

/-- A 64-bit write of JOB_EXPERT_CMD, by a host port alone (R201, R229). -/
def State.expertCmd (s : State) (p : Port) (action index : Nat) : State :=
  if !Port.isHost p then s
  else if s.mod.job.moves = [] ∧ s.jobState = 4 ∧ index < secCount s.mod.job.live 3 ∧ s.moveTarget (placeAt s.mod.job.live index) action then
    s.modJob fun j => { j with moves := [{ entry := index, place := action, decided := s.now }] }
  else s.jobIgnored

def execExpertMoveHome (p : Port) (index : BitVec 32) (s : State) : Host.Outcome State Fault Refusal := .next ((s.endLatch p 0x10830).expertCmd p 0 index.toNat)
def execExpertMoveAlt (p : Port) (index : BitVec 32) (s : State) : Host.Outcome State Fault Refusal := .next ((s.endLatch p 0x10830).expertCmd p 1 index.toNat)
def execExpertMoveNowhere (p : Port) (index : BitVec 32) (s : State) : Host.Outcome State Fault Refusal := .next ((s.endLatch p 0x10830).expertCmd p 2 index.toNat)

/-- The oldest decided move runs (R200): the new word goes to every enabled tower, MOVES rises, and event 0x1B names the core the entry
moves to. -/
def execExpertMoveRun (s : State) : Host.Outcome State Fault Refusal :=
  match s.mod.job.moves with
  | [] => .next s
  | m :: rest =>
    let p := s.mod.job.live
    let n := (s.mod.job.moved.get 0 m.entry + 1) % 2 ^ 32
    let s := s.modJob fun j => { j with
      moves := rest, places := j.places.set 0 m.entry m.place, moved := j.moved.set 0 m.entry n }
    let s := towers.foldl (fun s t =>
      if s.endEnabled t.val then s.vaultWord t.val (pkgPstat p + 8 * m.entry) (n * 2 ^ 32 + m.place) else s) s
    .next ((s.countWrap 0x10808 31 16 1).event 0x1B ((s.placeNow m.entry).getD 0xFFF) false)

end Sys2Proof.Machine
end

