-- ==== Sys2Proof/Machine/Resets.lean ====
section
/-!
DEFINITION. Hang detection, dumps, resets of every domain, and what disables a unit (R458 to R471).
-/
namespace Sys2Proof.Machine
open Sys2Proof

/-! Units and domains (R460, R461). -/

/-- Is unit `u` of domain `d` the same as, or inside, unit `v` of domain `e`? -/
def insideUnit (d u e v : Nat) : Bool :=
  decide (e = 7) || (decide (d = e) && decide (u = v)) || (decide (e = 2) && decide (d = 1) && decide (u / 16 = v)) ||
  ((decide (e = 3) || decide (e = 4)) &&
    ((decide (d = 1) && decide (u / 256 = v)) || (decide (d = 2) && decide (u / 16 = v)) || ((decide (d = 3) || decide (d = 4)) && decide (u = v))))

/-- Is the unit of a requested reset present and enabled (R462)? -/
def State.unitThere (s : State) (d u : Nat) : Bool :=
  match d with
  | 1 => s.coreEnabled (u / 256) (u % 256)
  | 2 => decide (u < 128) && (rowCores (u % 16)).any fun c => s.coreEnabled (u / 16) c.val
  | 3 => decide (u < 8) && s.endEnabled u
  | 4 => decide (u < 8) && s.endEnabled u
  | 5 => decide (8 ≤ u) && decide (u < 24) && s.endEnabled u
  | 6 => decide (u < 16)
  | 7 => true
  | _ => false

/-- MOD_RESET.BUSY (R491). -/
def State.resetBusy (s : State) : Bool := s.mod.resets.any fun r => r.started.isSome

/-- A requested reset (R462): accepted, or refused with the Elvef status it gets. -/
def State.askReset (s : State) (d u : Nat) : State × Nat :=
  if s.resetBusy then (s, 5)
  else if !s.unitThere d u then (s, 4)
  else (s.requestReset d (if d = 7 then 0xFFF else u) 0x0400, 0)

/-- A write of MOD_RESET (R462, R491): DOMAIN 0 requests nothing. -/
def State.resetWrite (s : State) (d u : Nat) : State :=
  if d = 0 then s
  else match s.askReset d u with
    | (s, 0) => s
    | (s, _) => s.setField 0x10048 62 62 1

/-! Dumps (R469 to R471). -/

/-- The towers whose dump areas take the codes of a reset. -/
def dumpTowers (d u : Nat) : List Nat :=
  match d with
  | 1 => [u / 256]
  | 2 => [u / 16]
  | 3 => [u]
  | 4 => [u]
  | 7 => List.range 8
  | _ => []

/-- Bytes written to a vault's direct part, lane by lane. -/
def State.vaultBytes (s : State) (t a : Nat) (bs : List Byte) : State :=
  (unitsOf a bs).foldl (fun s u => (s.writeVault t u.1 u.2 none s.vaultNow).1) s

/-- Bytes that the dump engine has to write to a vault's direct part: its writes wait for the background turns of their banks (R469, R524). -/
def State.queueDump (s : State) (t a : Nat) (bs : List Byte) : State := s.modVault t fun v => { v with dumpQ := v.dumpQ ++ unitsOf a bs }

/-- The keepers of a tower that a reset's domain contains: their indexes and entries (R217). -/
def State.keepersIn (s : State) (t d u : Nat) : List Nat :=
  (List.range 4).filter fun i =>
    let core := secNat s.mod.job.live 6 (16 * (4 * t + i)) 1
    decide (core ≠ 0xFF) && insideUnit 1 (256 * t + core) d u

/-- Both windows of one keeper copied into a sample set. -/
def State.sampleKeeper (s : State) (t base i : Nat) : State :=
  let g := fun off n => secNat s.mod.job.live 6 (16 * (4 * t + i) + off) n
  let c := s.coreAt (256 * t + g 0 1)
  let s := s.queueDump t (base + 0x20000 * i) (c.spad.read (g 4 4) (32 * g 8 2))
  s.queueDump t (base + 0x20000 * i + 0x10000) (c.spad.read (g 12 4) (32 * g 10 2))

/-- An entry of a code ring (R470). -/
def codeEntry (time code domain keepers unit set : Nat) : List Byte :=
  bytesOf 8 time ++ bytesOf 2 code ++ bytesOf 1 domain ++ bytesOf 1 keepers ++ bytesOf 2 unit ++ bytesOf 1 set ++ [0]

/-- The chiplet that holds the primary role: 0 C0, 1 C1. -/
def State.primary (s : State) : Nat := boolBit s.mod.start.primary1

/-- A code written to the overflow ring of the primary chiplet (R471). -/
def State.overflowCode (s : State) (entry : List Byte) : State :=
  let at' := s.primary * 2 ^ 23 + 0x7FE000 + 16 * (s.mod.dumps.overflow % 256)
  { s with csram := s.csram.write at' entry }.modMod fun m => { m with dumps := { m.dumps with overflow := m.dumps.overflow + 1 } }

/-- The code of a reset recorded in a tower's dump area, with samples of its keepers where it has any (R469, R470). -/
def State.dumpTower (s : State) (r : ResetReq) (t : Nat) : State :=
  let ks := s.keepersIn t r.domain r.unit
  let base := pkgDump s.mod.job.live
  let n := s.mod.dumps.code.get 0 t
  let m := s.mod.dumps.set.get 0 t
  let set := if ks = [] then 0xFF else m % 31
  let s := ks.foldl (fun s i => s.sampleKeeper t (base + 0x10000 + 0x80000 * set) i) s
  let s := s.queueDump t (base + 16 * (n % 4096)) (codeEntry s.now r.code r.domain ((ks.map fun i => 2 ^ i).sum) r.unit set)
  s.modMod fun x => { x with dumps := { x.dumps with
    code := x.dumps.code.set 0 t (n + 1), set := if ks = [] then x.dumps.set else x.dumps.set.set 0 t (m + 1) } }

/-- The dump of a reset; `answers` are the towers whose vault answered the first write within 5 µs (R469, R471). With no package,
and for a chiplet or plane, the code goes to the overflow ring. -/
def State.dumpReset (s : State) (r : ResetReq) (answers : BitVec 8) : State :=
  let entry := codeEntry s.now r.code r.domain 0 r.unit 0xFF
  let ts := dumpTowers r.domain r.unit
  if ts = [] ∨ s.mod.job.live = [] then s.overflowCode entry
  else ts.foldl (fun s t => if answers.getLsbD t then s.dumpTower r t else s.overflowCode entry) s

/-- Is a unit inside a reset that runs? -/
def State.inRunning (s : State) (d u : Nat) : Bool := s.mod.resets.any fun r => r.started.isSome && insideUnit d u r.domain r.unit

/-- The request of a unit leaves the list. -/
def State.takeReq (s : State) (d u : Nat) : State :=
  { s with resetReqs := s.resetReqs.filter fun r => !(decide (r.domain = d) && decide (r.unit = u)) }

def State.findReq (s : State) (d u : Nat) : Option ResetReq := s.resetReqs.find? fun r => decide (r.domain = d) && decide (r.unit = u)

/-- The dump engine records the codes, and the samples, of a reset that has been asked for (R469). Inside a reset that runs it is
not started, and its code is still recorded (R462). -/
def execDumpBeforeReset (domain : Fin 8) (unit : BitVec 16) (answers : BitVec 8) (s : State) : Host.Outcome State Fault Refusal :=
  match s.findReq domain.val unit.toNat with
  | none => .next s
  | some r =>
    let s := (s.takeReq r.domain r.unit).dumpReset r answers
    if s.inRunning r.domain r.unit then .next s
    else .next (s.modMod fun m => { m with resets := m.resets ++
      [{ domain := r.domain, unit := r.unit, code := r.code, asked := r.asked, started := none, escalated := decide (r.code / 256 = 3) }] })

/-! The effect of a reset (R461, R463, R467). -/

/-- The cores of a row, or of a tower. -/
def rowIds (u : Nat) : List CoreId := (rowCores (u % 16)).map fun c => ⟨⟨u / 16 % 8, Nat.mod_lt _ (by decide)⟩, c⟩
def dieIds (t : Nat) : List CoreId := coreNos.map fun c => ⟨⟨t % 8, Nat.mod_lt _ (by decide)⟩, c⟩

/-- Cores enter reset (R80, R181, R461). -/
def State.resetCores (s : State) (ks : List CoreId) : State :=
  ks.foldl (fun s k => (s.clearCore k).modCore k fun c => { c with inReset := true }) s

/-- Lanes into and out of an endpoint. -/
def State.lanesOfEnd (s : State) (e : Nat) : List Nat := (s.lanes.map (·.1)).filter fun k => decide (laneSrc k = e) || decide (laneDst k = e)

/-- An endpoint enters reset: its lanes, its windows, the requests it holds and what it was to send are gone (R183, R461); its block's
registers take their Reset column, but for the geometry of a vault and the live fields that show what sleeps (R23, R384). -/
def State.resetEnd (s : State) (e : Nat) : State :=
  let src := fun (s : State) (k : Nat) => if laneSrc k = e ∧ (!isExt k ∨ k < 17152) then s.modLane k LaneState.sourceReset else s
  let snk := fun (s : State) (k : Nat) => if laneDst k = e ∧ (!isExt k ∨ 17152 ≤ k) then s.modLane k LaneState.sinkReset else s
  let s := (s.lanesOfEnd e).foldl (fun s k => snk (src s k) k) s
  let s := { s with
    unreach := Tab.drop (fun k => decide (k / 24 = e)) s.unreach
    sentLinks := Tab.drop (fun k => decide (k / 48 = e)) s.sentLinks
    extLinks := Tab.drop (fun k => decide (16 + k / 16 = e)) s.extLinks }
  let b := endBlock e
  let s := s.modPorts fun p => { p with latches := (p.latches.set none (8 + 2 * e) none).set none (9 + 2 * e) none }
  let asleep := s.reg (b + 0x208)
  let s := s.resetRegs fun o => decide (b ≤ o) && decide (o < b + 0x10000) && decide (o ≠ b + 8)
  let s := (s.setField (b + 0x208) 15 0 (asleep.field 15 0)).setField (b + 0x208) 32 32 (asleep.field 32 32)
  s.modEnd e fun d => { EndState.reset with
    srcInc := d.srcInc, inReset := true, disabled := d.disabled, resetTimes := d.resetTimes, frameNo := d.frameNo, slotDone := d.slotDone }

/-- Babbitt continues from the recorded positions (R523). -/
def State.resumeBabbitt (s : State) : State :=
  let at' := fun (i : Nat) => s.mod.babbitt.recorded.get 0 i
  let s := (List.range 288).foldl (fun (s : State) c => s.modChan c fun x => { x with scrubLine := at' c, passDone := false }) s
  let s := (List.range 8).foldl (fun (s : State) t => s.modVault t fun v => { v with scrubLane := at' (288 + t), passDone := false }) s
  { s with light := { s.light with calNext := at' 296 } }

/-- The primary role passes to C0 (false) or C1 (R419, R461). -/
def State.passPrimary (s : State) (c1 : Bool) : State :=
  if s.mod.start.primary1 = c1 then s else (s.modStart fun x => { x with primary1 := c1, primarySince := s.now }).resumeBabbitt

/-- The channels of a memory port lose what they hold beside their contents. -/
def State.resetChannels (s : State) (e : Nat) : State :=
  (List.range 36).foldl (fun s i => s.modChan (36 * (e - 8) + i) fun c => { c with queues := [], openRows := [] }) s

/-- A chiplet enters reset: of a control chiplet the host port's link goes down too, and its management processors stop, so that the other holds
the primary role (R461). -/
def State.resetChiplet (s : State) (e : Nat) : State :=
  let s := (s.resetEnd e).advanceInc e
  let s := s.clearContexts fun c => decide (c / 2048 = e)
  if e < 16 then s.resetChannels e
  else if e < 22 then s
  else
    let s := { s with csram := s.csram.clear ((e - 22) * 2 ^ 23) (2 ^ 23) }
    let down := fun (c : Cxl) => { Cxl.down with perst := c.perst }
    let s := s.modPorts fun p =>
      let p := { p with waiting := p.waiting.filter fun w => decide (boolBit w.port ≠ e - 22) }
      if e = 22 then { p with cxlA := down p.cxlA } else { p with cxlB := down p.cxlB }
    (s.modStart fun x => if e = 22 then { x with up0 := false } else { x with up1 := false }).passPrimary (decide (e = 22))

/-- Recent resets of a unit, this one among them. -/
def recent (times : List Nat) (now window : Nat) : List Nat := (times.filter fun t => decide (now < t + window)) ++ [now]

/-- The third reset of a core, row or tower within its time disables it (R467). -/
def State.countReset (s : State) (d u : Nat) : State :=
  match d with
  | 1 =>
    let k : CoreId := ⟨⟨u / 256 % 8, Nat.mod_lt _ (by decide)⟩, ⟨u % 256, Nat.mod_lt _ (by decide)⟩⟩
    let ts := recent (s.core k).resetTimes s.now 1000000000
    let s := s.modCore k fun c => { c with resetTimes := ts }
    if 3 ≤ ts.length ∧ !(s.core k).disabled then (s.disableCores [k]).event 0x18 u false else s
  | 2 =>
    let ts := recent (s.mod.rowTimes.get [] u) s.now 10000000000
    let s := s.modMod fun m => { m with rowTimes := m.rowTimes.set [] u ts }
    if 3 ≤ ts.length then (s.event 0x19 u false).disableCores (rowIds u) else s
  | 4 =>
    let ts := recent (s.endp u).resetTimes s.now 60000000000
    let s := s.modEnd u fun e => { e with resetTimes := ts }
    if 3 ≤ ts.length then s.disableTower u else s
  | _ => s

/-! A module reset (R23, R231, R434, R437). -/

/-- A bay after a module reset: a hold with SAVED keeps CB0 to CB5 READY (R437). -/
def bayAfter (held : Bool) (n : Nat) (b : Bay) : Bay :=
  let warm := decide (b.st = .ready) || decide (b.st = .serving) || decide (b.st = .matching)
  { b with
    following := none
    st := match b.st with
      | .empty => .empty
      | .failed => .failed
      | _ => if held && warm && decide (n < 6) then .ready else .dark }

/-- What MRAM holds of a vault. -/
def Vault.kept (v : Vault) : Vault :=
  let stay := fun (g : BondGroup) => { BondGroup.intact with spares := g.spares, retired := g.retired }
  { Vault.reset with bonds := Tab.mapKeys BondGroup.intact (fun _ => true) stay v.bonds }

/-- What a start keeps of the signature state: what MRAM holds (R445, R446). -/
def Ots.kept (o : Ots) : Ots := { o with next := o.reserved }

/-- Firmware and identity after a reset: flash, MRAM, and the contents of LPDDR5X where they were kept. -/
def Start.kept (x : Start) (now : Nat) (memKept : Bool) : Start :=
  { Start.reset with
    since := now, primarySince := now, memKept := memKept, badCopy0 := x.badCopy0, badCopy1 := x.badCopy1, saved := x.saved, banks := x.banks, ots0 := x.ots0.kept, ots1 := x.ots1.kept,
    lastSaved := x.lastSaved, fallbacks := x.fallbacks, s2ms := x.s2ms, s3ms := x.s3ms }

/-- What of the light outlives a reset: the cartridges and what MRAM holds (R274, R276). -/
def Light.kept (l : Light) (held : Bool) : Light :=
  { Light.reset with bays := (List.range 7).foldl (fun t n => t.set Bay.none n (bayAfter held n (l.bays.get Bay.none n))) [], tuning := l.tuning, commission := l.commission }

/-- The role a start begins in: standby when paired (R480). -/
def State.rolePaired (s : State) : Nat := if s.field 0x10060 62 62 = 1 then 2 else 0

/-- Everything from stage S1 on starts again; S0, kept fields and, in a hold, the contents of LPDDR5X stay (R434, R437, R461). `keep`
tells whether the fault decision stands (R416). -/
def State.moduleReset (s : State) (keep : Bool) : State :=
  let hold := bitOf (s.reg 0x10040) 0
  let held := hold && bitOf (s.reg 0x10040) 1
  let memKept := s.mod.start.memKept || (hold && decide (2 ≤ s.mod.start.stage))
  let ends' := fun (e : Nat) => { EndState.reset with srcInc := ((s.endp e).srcInc + 1) % 256, clearedAt := some s.now }
  let feedOff := fun (f : Feed) => { Feed.off with mv := f.mv, amps := f.amps, offAt := if f.on then s.now else f.offAt }
  let reqs := fun (e : Nat × Requester) => listed Requester.empty e.1
    { Requester.empty with since := ((s.endp (e.1 / 2048)).srcInc + 1) % 256 }
  let p := s.power
  let m := s.mod
  { State.reset with
    pending := s.pending, now := s.now, freeNo := s.freeNo, part1920 := s.part1920, serial := s.serial, stepping := s.stepping,
    regs := s.regs.filterMap keptEntry, log := s.log, logTotal := s.logTotal, logHeld := s.logHeld, marks := s.marks,
    hwFault := if keep then s.hwFault else none,
    requesters := s.requesters.filterMap reqs,
    ends := (List.range 24).foldl (fun t e => t.set EndState.reset e (ends' e)) [],
    lpddr := if memKept then s.lpddr else [], lpddrErr := if memKept then s.lpddrErr else [],
    vaults := Tab.mapKeys Vault.reset (fun _ => true) (fun v => { v.kept with turning := v.turning, damage := v.damage }) s.vaults,
    light := s.light.kept held,
    power := { p with
      ladder := Ladder.reset, feedA := feedOff p.feedA, feedB := feedOff p.feedB, time := TimeSync.reset,
      thermal := { p.thermal with inletAt := none } },
    mod := { Module.reset with
      start := m.start.kept s.now memKept,
      ports := { Ports.reset with
        cxlA := { Cxl.down with perst := m.ports.cxlA.perst }, cxlB := { Cxl.down with perst := m.ports.cxlB.perst },
        elvef := m.ports.elvef, uart := m.ports.uart, i3c := m.ports.i3c, jtag := m.ports.jtag, jtagOut := m.ports.jtagOut, window := m.ports.window, snap := m.ports.snap },
      pair := { m.pair with role := s.rolePaired, releaseAsked := false, releasing := false, releasedAt := none, releaseLeft := 0, healthySince := none },
      ckpt := { Module.reset.ckpt with slotA := m.ckpt.slotA, slotB := m.ckpt.slotB },
      babbitt := m.babbitt } }

/-! Starting and completing. -/

/-- The endpoint a reset is in, if it is in one. -/
def resetEndpoint (d u : Nat) : Option Nat :=
  match d with
  | 1 => some (u / 256)
  | 2 => some (u / 16)
  | 3 => some u
  | 4 => some u
  | 5 => some u
  | _ => none

/-- Dump records mark the endpoint (R515). -/
def State.noteDumped (s : State) (d u : Nat) : State :=
  match resetEndpoint d u with
  | none => s
  | some e => s.modMod fun m => { m with engine := { m.engine with resets := m.engine.resets ||| 2 ^ e } }

/-- What the reset of a domain does at its start (R461). -/
def State.resetEffect (s : State) (d u : Nat) : State :=
  match d with
  | 1 => (s.advanceInc (u / 256)).resetCores [⟨⟨u / 256 % 8, Nat.mod_lt _ (by decide)⟩, ⟨u % 256, Nat.mod_lt _ (by decide)⟩⟩]
  | 2 => (s.advanceInc (u / 16)).resetCores (rowIds u)
  | 3 => (s.advanceInc u).resetCores (dieIds u)
  | 4 => (((s.advanceInc u).resetCores (dieIds u)).clearVault u).resetEnd u
  | 5 => s.resetChiplet u
  | 6 => (s.forceRetire u 0).scheduleDrift u
  | _ => s

/-- A reset starts (R460, R461, R466, R467). -/
def State.startReset (s : State) (r : ResetRun) : State :=
  let s := s.event r.domain r.unit (decide (r.domain = 7) && r.escalated)
  let s := s.setField 0x10048 55 48 r.domain
  if r.domain = 7 then (s.moduleReset r.escalated).setField 0x10048 55 48 7
  else ((s.resetEffect r.domain r.unit).countReset r.domain r.unit).noteDumped r.domain r.unit

def State.findRun (s : State) (d u : Nat) (started : Bool) : Option ResetRun :=
  s.mod.resets.find? fun r => decide (r.domain = d) && decide (r.unit = u) && decide (r.started.isSome = started)

/-- A run replaced, or removed. -/
def State.setRun (s : State) (d u : Nat) (v : Option ResetRun) : State :=
  s.modMod fun m => { m with resets := (m.resets.filter fun r => !(decide (r.domain = d) && decide (r.unit = u))) ++ v.toList }

/-- Is the dump of a reset written: nothing of it waits for a background turn (R469)? -/
def State.dumpWritten (s : State) (d u : Nat) : Bool := (dumpTowers d u).all fun t => (s.vault t).dumpQ.isEmpty

/-- What is left of a dump is given up. -/
def State.dropDump (s : State) (d u : Nat) : State := (dumpTowers d u).foldl (fun s t => s.modVault t fun v => { v with dumpQ := [] }) s

/-- A reset whose dump is written starts (R469). -/
def execUnitResetStart (domain : Fin 8) (unit : BitVec 16) (s : State) : Host.Outcome State Fault Refusal :=
  match s.findRun domain.val unit.toNat false with
  | none => .next s
  | some r =>
    if s.dumpWritten r.domain r.unit then .next ((s.setRun r.domain r.unit (some { r with started := some s.now })).startReset r) else .next s

/-- A dump unfinished after 5 ms is abandoned, and the reset starts: what is still to be written is dropped, or the dump had not begun
(R469). -/
def execDumpAbandoned (domain : Fin 8) (unit : BitVec 16) (s : State) : Host.Outcome State Fault Refusal :=
  match s.findReq domain.val unit.toNat, s.findRun domain.val unit.toNat false with
  | none, none => .next s
  | none, some r =>
    if s.dumpWritten r.domain r.unit then .next s
    else
      let s := (s.reach (r.asked + 5000000)).dropDump r.domain r.unit
      .next ((s.setRun r.domain r.unit (some { r with started := some s.now })).startReset r)
  | some q, _ =>
    let s := (s.reach (q.asked + 5000000)).takeReq q.domain q.unit
    if s.inRunning q.domain q.unit then .next s
    else
      let r : ResetRun := { domain := q.domain, unit := q.unit, code := q.code, asked := q.asked, started := some s.now,
                            escalated := decide (q.code / 256 = 3) }
      .next ((s.setRun q.domain q.unit (some r)).startReset r)

/-- Cores leave reset; their threads are STOPPED. -/
def State.leaveCores (s : State) (ks : List CoreId) : State := ks.foldl (fun s k => s.modCore k fun c => { c with inReset := false }) s

/-- An endpoint leaves reset: its windows count as cleared now (R464), and its lanes run credit initialisation (R254, R461). -/
def State.leaveEnd (s : State) (e : Nat) : State :=
  let s := s.modEnd e fun d => { d with inReset := false, clearedAt := some s.now }
  let outs := ((List.range 24).filter (· ≠ e)).flatMap fun d => (List.range 16).map fun p => baseLane e d p
  let exts := (List.range 24).flatMap fun f => if 16 + f / 4 = e then (List.range 32).map (extLane f) else []
  let runs := fun (k : Nat) => decide (s.plane (lanePlaneIx k) = .active) || decide (s.plane (lanePlaneIx k) = .opening)
  ((outs ++ exts).filter runs).foldl (fun s k => s.askInit k) s

/-- The management processors of a control chiplet run again after its reset, on the image they ran (R461). -/
def State.bootChiplet (s : State) (e : Nat) : State :=
  s.modStart fun x => if e = 22 then { x with up0 := true } else if e = 23 then { x with up1 := true } else x

/-- A reset is complete (R461). -/
def execUnitResetComplete (domain : Fin 8) (unit : BitVec 16) (s : State) : Host.Outcome State Fault Refusal :=
  match s.findRun domain.val unit.toNat true with
  | none => .next s
  | some r =>
    let s := s.setRun r.domain r.unit none
    let u := r.unit
    let s := match r.domain with
      | 1 => s.leaveCores [⟨⟨u / 256 % 8, Nat.mod_lt _ (by decide)⟩, ⟨u % 256, Nat.mod_lt _ (by decide)⟩⟩]
      | 2 => s.leaveCores (rowIds u)
      | 3 => s.leaveCores (dieIds u)
      | 4 => (s.leaveCores (dieIds u)).leaveEnd u
      | 5 => (s.leaveEnd u).bootChiplet u
      | _ => s
    .next (if r.code = 0x0500 then s.modMod fun m => { m with blind := m.blind.set none u (some s.now) } else s)

/-- The limit after which a reset counts as hung, and the reset that follows it (R466). -/
def hungLimit (d u : Nat) : Option (Nat × Nat × Nat) :=
  match d with
  | 1 => some (10000, 2, u / 16)
  | 2 => some (100000, 4, u / 16)
  | 3 => some (10000000, 7, 0xFFF)
  | 4 => some (10000000, 7, 0xFFF)
  | 5 => some (if u < 22 then 100000000 else 700000000, 7, 0xFFF)
  | _ => none

/-- A memory-port chiplet fails (R460, R467). -/
def State.failMemory (s : State) (e : Nat) : State :=
  if (s.endp e).disabled then s else (s.modEnd e fun d => { d with disabled := true }).event 0x1C e true

/-- A reset that has overrun its limit counts as hung, and the next reset on the ladder is asked for (R466). -/
def execResetEscalate (domain : Fin 8) (unit : BitVec 16) (s : State) : Host.Outcome State Fault Refusal :=
  match s.findRun domain.val unit.toNat true, hungLimit domain.val unit.toNat with
  | some r, some (limit, d, u) =>
    let s := s.reach ((r.started.getD 0) + limit)
    let s := (s.setRun r.domain r.unit none).event 0x13 r.unit false
    let s := s.count 0x10048 47 40 1
    let s := if r.domain = 5 ∧ r.unit < 16 then s.failMemory r.unit else s
    .next (s.requestReset d u (0x0300 + r.domain))
  | _, _ => .next s

/-- A write of MOD_RESET by a port: the management port and the processors may write it (R394, R462). -/
def State.denied (s : State) : State := s.count 0x1000 47 32 1

def execResetRequest (p : Port) (domain : Fin 8) (unit : BitVec 16) (s : State) : Host.Outcome State Fault Refusal :=
  let s := s.endLatch p 0x10048
  if Port.isHost p then .next s.denied else .next (s.resetWrite domain.val unit.toNat)

/-! Hang detectors (R465). -/

/-- A detector fires on a core: its reset is asked for, and a solo replay on it ends (R473). -/
def State.hang (s : State) (k : CoreId) (code : Nat) : State := (s.requestReset 1 k.index code).endReplay k none 3 0

/-- A thread has held the core for HOLD_MS while another was READY. -/
def execHangThreadHold (k : CoreId) (s : State) : Host.Outcome State Fault Refusal :=
  let c := s.core k
  let limit := s.field 0x10050 63 48
  if limit ≠ 0 ∧ c.running?.isSome ∧ (threadNos.any fun t => decide ((c.th t).st = .ready)) then
    .next ((s.reach (c.heldSince + limit * 1000000)).hang k 0x0201)
  else .next s

/-- A core with a RUNNING thread has issued nothing for STALL_US. -/
def execHangStallInPlace (k : CoreId) (s : State) : Host.Outcome State Fault Refusal :=
  let c := s.core k
  let limit := s.field 0x10050 47 32
  if limit ≠ 0 ∧ c.running?.isSome then .next ((s.reach (c.lastIssue + limit * 1000)).hang k 0x0202)
  else .next s

/-- A thread has been in WAIT_REMOTE for BOUND + 10 µs. -/
def execHangRemoteEngine (c : Ctx) (s : State) : Host.Outcome State Fault Refusal :=
  if (s.th c).st = .waitRemote then
    .next ((s.reach ((s.th c).since + s.remoteBound + 10000)).hang c.coreId 0x0203)
  else .next s

/-- A request has waited in its owner's queue for CHANNEL_US while the owner held a slot. -/
def execHangChannelAge (c : Fin 288) (owner : BitVec 8) (s : State) : Host.Outcome State Fault Refusal :=
  let limit := s.field 0x10050 31 16
  match s.ownerQueue c.val owner.toNat with
  | [] => .next s
  | r :: _ =>
    if limit ≠ 0 ∧ (List.range 64).any fun i => decide (s.slotOwner c.val i = owner.toNat) then
      .next ((s.reach (r.joined + limit * 1000)).requestReset 5 (8 + c.val / 36) 0x0204)
    else .next s

/-- The unit that holds a base lane at its receiver: the core whose inbound buffer is full, or else the endpoint's tower or
chiplet. -/
def State.holder (s : State) (key : Nat) : Nat × Nat :=
  let e := laneDst key
  if e < 8 then
    match (s.ln key).fifoReq with
    | f :: _ => (match s.rangeOf (gaEndpoint f.tr.pkt.addr) (gaOffset f.tr.pkt.addr) with
      | some (.spad _ k _, _) => if 64 ≤ (s.coreAt (e * 256 + k)).inbound.length then (1, e * 256 + k) else (4, e)
      | _ => (4, e))
    | [] => (4, e)
  else (5, e)

/-- A lane has held a packet with no credit for CREDIT_MS: the unit that holds it at the receiver is reset. The receiver of an
external lane is in another module. -/
def execHangCreditStall (l : LaneId) (s : State) : Host.Outcome State Fault Refusal :=
  let limit := s.field 0x10050 15 0
  match (s.ln l.key).stalledSince with
  | none => .next s
  | some t =>
    if limit = 0 ∨ isExt l.key then .next s
    else
      let (d, u) := s.holder l.key
      .next ((s.reach (t + limit * 1000000)).requestReset d u 0x0205)

/-! Constantan time lost at an endpoint (R468). -/

/-- An endpoint without λ24 on every plane for 10 µs is reset; still without it 10 µs after that reset, it leaves service. -/
def execLambda24Lost (e : Endpoint) (s : State) : Host.Outcome State Fault Refusal :=
  match s.power.time.blind.get none e.val with
  | none => .next s
  | some t =>
    let again := match s.mod.blind.get none e.val with
      | some r => if t ≤ r then some r else none
      | none => none
    match again with
    | none => .next (((s.reach (t + 10000)).event 0x14 e.val false).requestReset (if e.val < 8 then 4 else 5) e.val 0x0500)
    | some r =>
      let s := s.reach (r + 10000)
      if e.val < 8 then .next (s.disableTower e.val)
      else if e.val < 16 then .next (s.failMemory e.val)
      else
        let s := s.modEnd e.val fun d => { d with inReset := true }
        if e.val < 22 then .next (([0, 1, 2, 3] : List Nat).foldl (fun s f => s.forceRetire (16 + 4 * (e.val - 16) + f) 0) s)
        else .next (s.passPrimary (decide (e.val = 22)))

/-! The loss of a control chiplet's management processors (R460, R474). -/

/-- The management processors of C0 (false) or C1 fail: the other chiplet holds the primary role. With both lost nothing can be
logged. A live activation that C0 leaves before its own restart ends with C0 down (R449). -/
def execControlChipletLost (c1 : Bool) (s : State) : Host.Outcome State Fault Refusal :=
  let s := s.modStart fun x => if c1 then { x with up1 := false } else { x with up0 := false }
  let early := !c1 && (match s.mod.start.act with
    | some a => decide (a.state = 1)
    | none => false)
  let s := if early then (s.setField 0x1B008 41 40 3).modStart fun x => { x with act := none } else s
  let other := if c1 then s.mod.start.up0 else s.mod.start.up1
  .next (if other && decide (s.mod.start.primary1 = c1) then s.passPrimary (!c1) else s)

end Sys2Proof.Machine
end

