-- ==== Sys2Proof/Machine/Start.lean ====
section
/-!
DEFINITION. The staged start, firmware images and evidence (R434 to R457), and the coming and going of VAUX (R531 to R534).
-/
namespace Sys2Proof.Machine
open Sys2Proof

/-! Images (R439 to R442, R456). -/

def imgNat (img : List Byte) (off n : Nat) : Nat := ofBytes ((img.drop off).take n)
def imgVersion (img : List Byte) : Nat := imgNat img 8 4
def imgSvn (img : List Byte) : Nat := imgNat img 12 2
def imgLength (img : List Byte) : Nat := imgNat img 16 4
def imgHeader (img : List Byte) : List Byte := img.take 128
def imgBody (img : List Byte) : List Byte := (img.drop 128).take (imgLength img)

/-- The flash slot of a bank of kind 1, 2 or 3 (R439), and the register of the kind. -/
def slotOf (kind bank : Nat) : Nat := 2 * (kind - 1) + bank
def secImage (kind : Nat) : Nat := 0x1B010 + 8 * (kind - 1)

/-- MAGIC, KIND and the reserved fields (R440). -/
def headerOk (img : List Byte) (kind : Nat) : Bool :=
  decide (imgNat img 0 4 = 0x5A465731) && decide (imgNat img 4 2 = kind) && decide (imgNat img 6 2 = 0) && decide (imgNat img 0x14 12 = 0) &&
  decide (imgNat img 0x40 64 = 0)

/-- Does the image fit a slot of 4 MiB (R439, R440)? -/
def sizeOk (img : List Byte) : Bool := decide (imgLength img ≤ 4190892) && decide (128 + imgLength img + 3284 ≤ img.length)

/-- The body digest, and the vendor signature, whose outcome comes with the image (R441, assumption 42). -/
def contentOk (img : List Byte) (genuine : Bool) : Bool := decide (sha256 (imgBody img) = (img.drop 0x20).take 32) && genuine

def State.svnMin (s : State) (kind : Nat) : Nat := s.field (secImage kind) 31 16
def State.activeBank (s : State) (kind : Nat) : Nat := s.field (secImage kind) 0 0
def State.flashBank (s : State) (slot : Nat) : Bank := s.mod.start.banks.get Bank.empty slot
def State.modBank (s : State) (slot : Nat) (f : Bank → Bank) : State :=
  s.modStart fun x => { x with banks := x.banks.modify Bank.empty slot f }

/-- Does the image of a bank pass (R441)? -/
def State.bankPasses (s : State) (kind bank : Nat) : Bool :=
  let b := s.flashBank (slotOf kind bank)
  decide (b.st ≠ 0) && headerOk b.image kind && sizeOk b.image &&
  decide (imgNat b.image 14 1 ≤ s.stepping) && decide (s.stepping ≤ imgNat b.image 15 1) && decide (s.svnMin kind ≤ imgSvn b.image) &&
  contentOk b.image b.genuine

/-- The result of a bank's check is its state from then on (R456). -/
def State.checkBank (s : State) (kind bank : Nat) : State :=
  if (s.flashBank (slotOf kind bank)).st = 0 then s
  else s.modBank (slotOf kind bank) fun b => { b with st := if s.bankPasses kind bank then 1 else 2 }

/-- The bank of a kind that a start would run: the active one, or the other where that fails (R441). -/
def State.bankFor (s : State) (kind : Nat) : Option (Nat × Bool) :=
  let a := s.activeBank kind
  if s.bankPasses kind a then some (a, false)
  else if s.bankPasses kind (1 - a) then some (1 - a, true)
  else none

/-- A kind's image starts to run on index `i` (0 and 1 management of C0 and C1, 2 training, 3 test). -/
def State.runImage (s : State) (kind bank i : Nat) : State :=
  let img := (s.flashBank (slotOf kind bank)).image
  s.modStart fun x => { x with running := x.running.set none i (some { header := imgHeader img, version := imgVersion img, svn := imgSvn img }) }

/-- A start takes the image of a kind: its check is noted, and a start on the inactive bank is logged (R441). -/
def State.takeImage (s : State) (kind bank : Nat) (fallback : Bool) (is : List Nat) : State :=
  let s := s.checkBank kind (s.activeBank kind)
  let s := if fallback then (s.checkBank kind bank).logEvent 4 (Config.fallbackCode kind) 0xFFF else s
  let s := s.modStart fun x => { x with fallback := x.fallback.set false kind fallback }
  is.foldl (fun s i => s.runImage kind bank i) s

/-- A pending MODE 0 activation takes effect as a start begins (R448). -/
def State.applyPending (s : State) : State :=
  ([1, 2, 3] : List Nat).foldl (fun s k =>
    if s.field (secImage k) 5 5 = 1 then (s.setKept (secImage k) 0 0 (1 - s.activeBank k)).setKept (secImage k) 5 5 0 else s) s

/-! VCORE on and off (R423, R434, R437, R532, R533). -/

/-- Both VCORE_EN rise in the same microsecond, at the set point of point 15. A latched shutdown keeps them low (R376). -/
def State.vcoreOn (s : State) : State :=
  if s.power.thermal.shutdown then s
  else
    let on := fun (f : Feed) => if f.st = .off then { f with enabledAt := some s.now } else f
    ((s.modFeed false on).modFeed true on).modLadder fun l => { l with point := 15, setMv := 800 }

/-- Both VCORE_EN fall. -/
def State.vcoreOff (s : State) : State :=
  let off := fun (f : Feed) => { Feed.off with mv := f.mv, amps := f.amps, fails := f.fails, cause := f.cause, offAt := if f.on then s.now else f.offAt }
  ((s.modFeed false off).modFeed true off).losePower

/-- A hold ends: VCORE is enabled and the start continues at S2 (R437). -/
def State.endHold (s : State) : State :=
  if s.mod.start.holding then (s.vcoreOn).modStart fun x => { x with holding := false, released := true, since := s.now } else s

/-- A write of 1 to MOD_START.GO (R437), by the management port or the processors (R394). -/
def State.go (s : State) (p : Port) : State := if Port.isHost p then s.denied else s.endHold

def execStartGo (p : Port) (s : State) : Host.Outcome State Fault Refusal := .next ((s.endLatch p 0x10040).go p)

/-! The stages (R434 to R438). -/

/-- A stage can complete: the start runs, holds nothing back, and has power. -/
def State.starting (s : State) (stage : Nat) : Bool :=
  s.power.on && s.mod.start.s0 && !s.mod.start.stopped && decide (s.mod.start.stage = stage)

/-- S0: Pewter runs, kept fields are read, and the health window, the management port and the partner link answer. -/
def execStageS0Complete (s : State) : Host.Outcome State Fault Refusal :=
  if s.power.on ∧ !s.mod.start.s0 then .next ((s.modStart fun x => { x with s0 := true }).modPair fun p => { p with role := s.rolePaired })
  else .next s

/-- The stage that runs falls short of what R436 asks. -/
def State.fallShort (s : State) : State := s.modStart fun x => { x with short := true }

/-- S1: a management image runs on each control chiplet, the security engines make their first reservations, and VCORE is enabled,
or the start holds (R437, R441, R445). Each chiplet checks its own copy: one whose copy is damaged stays in its boot ROM, and when only C1 runs it
holds the primary role (R441). REFCLK is needed (R532). -/
def execStageS1Complete (s : State) : Host.Outcome State Fault Refusal :=
  let c0 := !s.mod.start.badCopy0
  let c1 := !s.mod.start.badCopy1
  if !s.starting 0 ∨ s.power.refLost.isSome ∨ !s.power.refSeen then .next s
  else
    let s := s.applyPending
    match s.bankFor 1 with
    | none => .next s.fallShort
    | some (bank, fb) =>
      if !c0 && !c1 then .next s.fallShort
      else
        let s := s.takeImage 1 bank fb ((if c0 then [0] else []) ++ if c1 then [1] else [])
        let s := (s.otsStart false).otsStart true
        let hold := bitOf (s.reg 0x10040) 0
        let s := s.modStart fun x => { x with
          stage := 1, since := s.now, short := false, holding := hold, up0 := c0, up1 := c1, primary1 := !c0, primarySince := s.now }
        .next (if hold then s else s.vcoreOn)

/-- Does the start use the saved state record (R438)? -/
def State.usesSaved (s : State) : Bool :=
  bitOf (s.reg 0x10040) 1 &&
  (match s.mod.start.saved with
   | none => false
   | some r =>
     let img := fun (k : Nat) => imgHeader (s.flashBank (slotOf k (s.activeBank k))).image
     r.good && decide (r.training = img 2) && decide (r.test = img 3) && decide (r.stepping = s.stepping))

/-- An integer as a natural number of the record, and back. -/
def codeInt (i : Int) : Nat := if i < 0 then 2 * i.natAbs - 1 else 2 * i.natAbs
def uncodeInt (n : Nat) : Int := if n % 2 = 1 then -Int.ofNat ((n + 1) / 2) else Int.ofNat (n / 2)

/-- The flight delays that stage S2 leaves: those of the saved state, or measured now (R354, R438). -/
def State.takeDelays (s : State) (saved : Bool) : State :=
  let old := match s.mod.start.saved with
    | some r => r.delays
    | none => []
  s.modTime fun t => { t with delays := if saved then old else (List.range 384).map (Config.flightDelay s.now) }

/-- The skew trims that stage S3 leaves (R349, R438). -/
def State.takeSkews (s : State) (saved : Bool) : State :=
  let old := match s.mod.start.saved with
    | some r => r.skews
    | none => []
  s.modLadder fun l => { l with skews := if saved then old else (List.range 120).map (Config.skewTrim s.now) }

/-- A cold stage rewrites the record at its end, through the write window (R378, R438). -/
def State.rewriteSaved (s : State) : State :=
  let img := fun (k : Nat) => imgHeader (s.flashBank (slotOf k (s.activeBank k))).image
  let old := match s.mod.start.saved with
    | none => []
    | some r => [boolBit r.good, r.stepping, r.training.length, r.test.length, r.delays.length] ++ (r.training ++ r.test).map (fun b => b.toNat) ++
        r.delays ++ r.skews.map codeInt
  (s.mramWrite .saved old).modStart fun x => { x with saved := some {
    good := true, training := img 2, test := img 3, stepping := s.stepping, delays := s.power.time.delays, skews := s.power.ladder.skews } }

/-- Whole milliseconds since the stage began. -/
def State.stageMs (s : State) : Nat := min 65535 ((s.now - s.mod.start.since) / 1000000)

/-- A bay's path is lit as the base comes up (R273). -/
def State.lightBays (s : State) : State :=
  ([0, 1, 2, 3, 4, 5] : List Nat).foldl (fun s n =>
    let b := s.bay n
    if b.st = .empty ∨ b.st = .failed ∨ !b.latched then s
    else
      let s := s.modBay n fun b => { b with st := .serving, fresh := false }
      if b.fresh then { s with light := { s.light with lit := s.light.lit.set none n (some s.now) } } else s) s

/-- A channel after training: ready, or marked where a pin mark is kept (R314). One trained cold while its contents were kept is written
with zeros and reported (R438, R460); without saved state every channel is trained cold. -/
def State.trainChannel (s : State) (saved : Bool) (cold : List (Fin 288)) (c : Nat) : State :=
  let s := s.modChan c fun x => { x with st := if (s.markedPin c).isSome then .marked else .ready, scrubLine := s.mod.babbitt.recorded.get 0 c }
  if s.mod.start.memKept ∧ (!saved || cold.any fun f => decide (f.val = c)) then
    { s with
      lpddr := Tab.drop (fun a => decide (hashChannel a = c)) s.lpddr
      lpddrErr := Tab.drop (fun k => decide (hashChannel (k / 36 * 32) = c)) s.lpddrErr }.event 0x1E c false
  else s

/-- Channels whose training fails become failed (R314). -/
def State.failTraining (s : State) (lost : List (Fin 288)) : State := lost.foldl (fun s c => s.failChannel c.val) s

/-- An endpoint whose windows the module reset cleared serves requests from now on (R464). -/
def State.servedFrom (s : State) (e : Nat) : State := s.modEnd e fun d => { d with clearedAt := d.clearedAt.map fun _ => s.now }

/-- S2: planes and fibre pairs that have locked and passed carry packets from now on, channels are trained, and LPDDR5X is written with
zeros or keeps its contents. The operands are what the training found: planes and fibre pairs LOCKED, the channels, and the rest (a saved start
measures its lanes after S3, R283). With fewer than 8 planes, or a failed channel, the stage does not complete (R436). -/
def execStageS2Complete (planes : BitVec 16) (fibres : BitVec 24) (channels : TrainedChannels) (units : TrainedUnits) (s : State) :
    Host.Outcome State Fault Refusal :=
  let cold := channels.cold
  let lost := channels.lost
  if !s.starting 1 ∨ s.mod.start.holding ∨ s.activeFeeds = 0 then .next s
  else if lost ≠ [] then .next (s.failTraining lost).fallShort
  else match s.bankFor 2 with
  | none => .next s.fallShort
  | some (bank, fb) =>
    let lit := s.lightBays
    let ps := (List.range 16).filter fun p => planes.getLsbD p && lit.lit p
    let fs := (List.range 24).filter fun f => fibres.getLsbD f && lit.lit (16 + f)
    if ps.length < 8 ∨ (List.range 288).any fun c => decide ((s.chan c).st = .failed) then .next s.fallShort
    else
      let saved := s.usesSaved
      let s := lit.takeImage 2 bank fb [2]
      let ix : List Nat := ps ++ fs.map fun f => f + 16
      let s := (s.setRings (fun i => lit.lit i) .acquiring).setRings (fun i => ix.contains i) .locked
      let s := ix.foldl (fun (s : State) i => s.setPlane i .active) s
      let s := if s.mod.start.memKept then s else { s with lpddr := [], lpddrErr := [] }
      let s := (List.range 288).foldl (fun s c => s.trainChannel saved cold c) s
      let ms := s.stageMs
      let fall := if saved then min 255 (cold.eraseDups.length + units.fallbacks) else 0
      let s := s.modStart fun x => { x with
        stage := 2, since := s.now, short := false, s2ms := ms, lastSaved := saved, fallbacks := fall, memKept := false }
      let s := (((s.takeDelays saved).modTime fun t => { t with s2Done := true }).resumeBabbitt).setCodes
      let s := (List.range 16).foldl (fun (s : State) i => s.servedFrom (8 + i)) s
      .next (if saved then s else (units.lanes.foldl State.commissionLane s).rewriteSaved)

/-- S3: towers that passed are enabled, their scratchpads written with zeros; cores and rows that fell short are disabled (R333, R434,
R436, R467). `towers` passed their tests; `bad` are the cores that did not, and the bonds that failed the bond test.
With no tower enabled the stage does not complete. -/
def execStageS3Complete (towers' : BitVec 8) (bad : FailedTests) (fallbacks : Nat) (s : State) :
    Host.Outcome State Fault Refusal :=
  if !s.starting 2 ∨ s.activeFeeds = 0 then .next s
  else match s.bankFor 3 with
  | none => .next s.fallShort
  | some (bank, fb) =>
    if towers' = 0 then .next s.fallShort
    else
      let saved := s.mod.start.lastSaved
      let s := (s.takeImage 3 bank fb [3]).takeSkews saved
      let s := bad.bonds.foldl (fun (s : State) b => s.modVault b.1.val fun v => { v with
        bonds := v.bonds.modify BondGroup.intact b.2.1.val fun g => { g with tested := b.2.2.val :: g.tested } }) s
      let s := { s with cores := s.cores.filterMap fun (e : Nat × Core) => listed Core.reset e.1 { e.2 with spad := [], spadErr := [] } }
      let s := towers.foldl (fun s t => if towers'.getLsbD t.val then s.servedFrom t.val else s.disableTower t.val) s
      let s := towers.foldl (fun s t => (List.range 16).foldl (fun s r =>
        if bitOf (s.reg (endBlock t.val + 0x30)) r then s.disableCores (rowIds (16 * t.val + r)) else s) s) s
      let s := bad.cores.foldl (fun s k => (s.disableCores [k]).event 0x18 k.index false) s
      let ms := s.stageMs
      let fall := if saved then min 255 (s.mod.start.fallbacks + fallbacks) else 0
      let s := s.modStart fun x => { x with stage := 3, since := s.now, short := false, s3ms := ms, fallbacks := fall }
      .next (if saved then s else s.rewriteSaved)

/-- The bound of the stage that runs, in ns; `fell`: a unit of a stage from saved state has fallen back to cold work (R434, R436). -/
def State.stageBound (s : State) (fell : Bool) : Nat :=
  let x := s.mod.start
  if x.stage = 0 then (if x.s0 then 350000000 else 2000000)
  else if x.stage = 1 then (if s.usesSaved && !fell then 800000000 else 45000000000)
  else if x.lastSaved && !fell then 400000000
  else 12000000000

/-- A stage fails, for what it has met, or else as it overruns twice its bound: the start stops, and the fault decision is taken (R436).
A failure for want of a VCORE feed is recorded as cause 0x02. -/
def execStageFailed (why : StageFailure) (s : State) : Host.Outcome State Fault Refusal :=
  let x := s.mod.start
  let stop := fun (s : State) => s.modStart fun x => { x with stopped := true }
  if x.stopped ∨ x.holding ∨ x.stage = 3 ∨ !s.power.on then .next s
  else match why with
    | .noFeed => (match s.power.feedA.enabledAt.or s.power.feedB.enabledAt with
      | some t => if s.activeFeeds = 0 then .next ((stop (s.reach (t + 50000000))).decideFault 0x02) else .next s
      | none => .next s)
    | .stage fell =>
      if x.short then .next ((stop s).decideFault 0x11)
      else .next ((stop (s.reach (x.since + 2 * s.stageBound fell))).decideFault 0x11)

/-- SVN_MIN of a kind rises once its active image has proved itself (R442). -/
def execSvnMinRise (kind : Fin 3) (s : State) : Host.Outcome State Fault Refusal :=
  let k := kind.val + 1
  let x := s.mod.start
  let img := x.running.get none (if k = 1 then s.primary else k)
  match img with
  | none => .next s
  | some r =>
    if x.fallback.get false k then .next s
    else if k = 1 then
      if s.hwFault.isSome ∨ x.act.isSome ∨ x.stage = 0 then .next s
      else .next ((s.reach (x.primarySince + 60000000000)).setKept (secImage 1) 31 16 (max (s.svnMin 1) r.svn))
    else if x.stage = 3 then .next (s.setKept (secImage k) 31 16 (max (s.svnMin k) r.svn))
    else .next s

/-! Evidence (R450, R451). -/

def State.setDoe (s : State) (b : Bool) (bs : List Byte) : State := s.modPorts fun p => { p with doe := p.doe.set [] (boolBit b) bs }

/-- The response's first word. -/
def doeWord (status : Nat) : List Byte := bytesOf 4 status

/-- REQ 0x01: an evidence record signed by the chiplet that terminates the port; a nonce that is not 32 bytes is a bad request. -/
def execDoeEvidence (b : Bool) (nonce : List Byte) (s : State) : Host.Outcome State Fault Refusal :=
  if nonce.length ≠ 32 then .next (s.setDoe b (doeWord 0x01))
  else
    let rec' := s.recordHead 1 b (s.ots b).generation s.now nonce (s.reg 0x10838).toNat ++ s.jobDigest
    match s.otsSign b rec' with
    | (s, some sig) => .next (s.setDoe b (doeWord 0 ++ rec' ++ sig))
    | (s, none) => .next (s.setDoe b (doeWord 0x53))

/-- REQ 0x02: the last signed enable record, or STATUS 0x01. -/
def execDoeEnableRecord (b : Bool) (s : State) : Host.Outcome State Fault Refusal :=
  match s.mod.job.record with
  | some r => .next (s.setDoe b (doeWord 0 ++ r))
  | none => .next (s.setDoe b (doeWord 0x01))

/-- REQ 0x03: the device certificate and every successor record of the chiplet that terminates the port. -/
def execDoeChain (b : Bool) (s : State) : Host.Outcome State Fault Refusal :=
  .next (s.setDoe b (doeWord 0 ++ Config.certificate b ++ (s.ots b).successors.flatten))

/-! VAUX (R348, R367, R376, R531, R534). -/

/-- What is left when both VAUX inputs are gone: kept fields as MRAM holds them, flash, cartridges, device constants, and pool memory,
which is the host's. -/
def State.unpowered (s : State) : State :=
  let m := s.mod
  { State.reset with
    pending := s.pending, freeNo := s.freeNo, part1920 := s.part1920, serial := s.serial, stepping := s.stepping,
    regs := s.regs.filterMap keptEntry,
    vaults := Tab.mapKeys Vault.reset (fun _ => true) Vault.kept s.vaults,
    light := s.light.kept false,
    power := { Power.reset with
      on := false, refSeen := false,
      vauxA := { s.power.vauxA with failed := false }, vauxB := { s.power.vauxB with failed := false },
      thermal := { Thermal.reset with coefUp := s.power.thermal.coefUp, coefDown := s.power.thermal.coefDown } },
    mod := { Module.reset with
      start := { m.start.kept 0 false with s0 := false, up0 := false, up1 := false },
      ports := { Ports.reset with cxlA := { Cxl.down with perst := m.ports.cxlA.perst }, cxlB := { Cxl.down with perst := m.ports.cxlB.perst } },
      ckpt := { Module.reset.ckpt with slotA := m.ckpt.slotA, slotB := m.ckpt.slotB },
      babbitt := m.babbitt } }

/-- What MRAM still holds of an item whose write has not been done: written back over the newer value. -/
def State.unwrite (s : State) (e : MramEntry) : State :=
  match e.item with
  | .field off hi lo => s.setField off hi lo (e.stored.headD 0)
  | .commission key => { s with light := { s.light with commission := s.light.commission.set none key (match e.stored with
      | [p, neg, t] => some (if neg = 1 then -Int.ofNat p else Int.ofNat p, t)
      | _ => none) } }
  | .ring key => { s with light := { s.light with tuning := (List.range 24).foldl (fun t i => t.set 0 (24 * key + i) (e.stored.getD i 0)) s.light.tuning } }
  | .spares t g => s.modVault t fun v => { v with
      bonds := v.bonds.modify BondGroup.intact g fun b => { b with spares := e.stored.getD 0 0, retired := decide (e.stored.getD 1 0 = 1) } }
  | .coefficient d => s.modThermal fun t => { t with coefUp := t.coefUp.set 0 d (e.stored.getD 0 0), coefDown := t.coefDown.set 0 d (e.stored.getD 1 0) }
  | .saved =>
    let n := e.stored.getD 2 0
    let m := e.stored.getD 3 0
    let d := e.stored.getD 4 0
    let rest := e.stored.drop 5
    let bytes := fun (l : List Nat) => l.map fun n => BitVec.ofNat 8 n
    s.modStart fun x => { x with
      saved := if e.stored = [] then none
        else some {
          good := decide (e.stored.headD 0 = 1), stepping := e.stored.getD 1 0, training := bytes (rest.take n), test := bytes ((rest.drop n).take m)
          delays := (rest.drop (n + m)).take d, skews := (rest.drop (n + m + d)).map uncodeInt } }
  | .progress => s.modMod fun m => { m with babbitt := { m.babbitt with
      recorded := (List.range 297).foldl (fun t i => t.set 0 i (e.stored.getD i 0)) m.babbitt.recorded } }

/-- Both VAUX inputs fall below 10.0 V: VCORE drops, MRAM writes still queued are lost, and the module stops (R378, R533, R534). -/
def execVauxLoss (mvA mvB : Nat) (s : State) : Host.Outcome State Fault Refusal :=
  if 15000 < mvA ∨ 15000 < mvB then .fault .outsideAbsoluteMaximum
  else if !s.power.on ∨ 10000 ≤ mvA ∨ 10000 ≤ mvB then .next s
  else
    let s := s.power.queue.reverse.foldl State.unwrite s
    let s := s.modPower fun p => { p with vauxA := { p.vauxA with mv := mvA }, vauxB := { p.vauxB with mv := mvB } }
    .next s.unpowered

/-- An input has lain within 10.8 V to 13.2 V for 1 ms: Pewter starts, the provisional count runs from 0, and stage S0 begins (R348,
R531, R532). -/
def execVauxGood (mvA mvB : Nat) (s : State) : Host.Outcome State Fault Refusal :=
  let good := fun (v : Nat) => decide (10800 ≤ v) && decide (v ≤ 13200)
  if 15000 < mvA ∨ 15000 < mvB then .fault .outsideAbsoluteMaximum
  else if s.power.on ∨ !(good mvA || good mvB) then .next s
  else
    let s := { s with now := 0, marks := [] }
    let s := s.modPower fun p => { p with
      on := true
      vauxA := { Vaux.good with mv := mvA, failed := !good mvA, connected := good mvA || !good mvB }
      vauxB := { Vaux.good with mv := mvB, failed := !good mvB, connected := good mvB || !good mvA } }
    .next (s.modStart fun x => { x with up0 := true, up1 := true, since := 0 })

end Sys2Proof.Machine
end

