-- ==== Sys2Proof/Machine/Pair.lean ====
section
/-!
DEFINITION. The pair of modules: partner messages, take-over, stepping down and release (R427 to R430, R480 to R484).
-/
namespace Sys2Proof.Machine
open Sys2Proof

/-! What a member says of itself. -/

/-- Can the module serve a job, as far as its units go? -/
def State.serves (s : State) : Bool := decide (0 < s.activeFeeds) && (List.range 8).any fun t => s.endEnabled t

/-- HW_SUMMARY.OK (R415). -/
def State.ok (s : State) : Bool := decide (s.mod.start.stage = 3) && s.hwFault.isNone && s.serves

/-- TERM and PREFERRED (R494, R495). -/
def State.term (s : State) : Nat := s.field 0x10068 31 0
def State.preferred (s : State) : Bool := bitOf (s.reg 0x10060) 63
def State.pairedNow (s : State) : Bool := bitOf (s.reg 0x10060) 62

/-- MOD_PARTNER.TRANSPORT selects a link (R427, R430). -/
def State.linkOn (s : State) : Bool := decide (s.field 0x10018 49 48 = 1) || decide (s.field 0x10018 49 48 = 2)

/-- The larger of a job control word in both chiplets (R476), and the word written to both. -/
def State.jobWord (s : State) (off : Nat) : Nat := max (s.csram.readNat off 8) (s.csram.readNat (2 ^ 23 + off) 8)
def State.setJobWord (s : State) (off v : Nat) : State :=
  { s with csram := (s.csram.write off (bytesOf 8 v)).write (2 ^ 23 + off) (bytesOf 8 v) }

/-- CKPT_DONE (R476). -/
def State.ckptDone (s : State) : Nat := s.jobWord 0x7FF018

/-- The 32 bytes of a message on the link (R428). -/
def messageBytes (m : PartnerMsg) : List Byte :=
  let head := bytesOf 1 m.type ++ bytesOf 1 m.version ++ bytesOf 2 m.seq ++ bytesOf 2 (m.srcModule % 1024) ++ bytesOf 1 m.role ++
    bytesOf 1 (m.flags % 16) ++ bytesOf 4 m.term ++ bytesOf 8 m.time ++ bytesOf 4 m.checkpoint ++ bytesOf 4 0
  head ++ bytesOf 4 (crc32 head)

/-- The message a receiver reads from 32 bytes; none where the CRC is bad (R428, R429). -/
def messageOf (bs : List Byte) : Option PartnerMsg :=
  let n := fun (off len : Nat) => ofBytes ((bs.drop off).take len)
  if bs.length = 32 ∧ n 28 4 = crc32 (bs.take 28) then
    some { type := n 0 1, version := n 1 1, seq := n 2 2, srcModule := n 4 2, role := n 6 1, flags := n 7 1, term := n 8 4, time := n 12 8,
           checkpoint := n 20 4 }
  else none

/-- Do the management processors of the chiplet that holds the primary role run (R460)? -/
def State.managed (s : State) : Bool := if s.mod.start.primary1 then s.mod.start.up1 else s.mod.start.up0

/-- A message of this member (R428). -/
def State.message (s : State) (type : Nat) : PartnerMsg :=
  { type := type, version := 1, seq := ((match s.mod.pair.sent with
      | some m => m.seq
      | none => 0) + 1) % 65536
    srcModule := s.moduleId
    role := match s.mod.pair.role with
      | 1 => 0
      | 2 => 1
      | _ => 2
    flags := boolBit s.ok + 2 * boolBit s.hwFault.isSome + 4 * boolBit s.mod.witness.mismatch + 8 * boolBit s.preferred
    term := s.term, time := s.clock, checkpoint := s.ckptDone % 2 ^ 32 }

def State.sendMessage (s : State) (type : Nat) : State :=
  let m := s.message type
  s.modPair fun p => { p with sent := some m }

/-- Every 100 µs a member sends a message: a HEARTBEAT, or in its place a TAKEOVER for 1 ms, or what is left of three RELEASEs (R481,
R482, R484). With the management processors of both chiplets lost none goes out (R460). -/
def execHeartbeatSend (s : State) : Host.Outcome State Fault Refusal :=
  if !s.linkOn ∨ !s.power.on ∨ !s.managed then .next s
  else
    let s := s.periodic keyHeartbeat 100000
    if s.now < s.mod.pair.takeoverUntil then .next (s.sendMessage 2)
    else if 0 < s.mod.pair.releaseLeft then .next ((s.sendMessage 3).modPair fun p => { p with releaseLeft := p.releaseLeft - 1 })
    else .next (s.sendMessage 1)

/-! Roles. -/

/-- The standby takes over (R482). -/
def State.takeOver (s : State) (cause : Nat) : State :=
  let other := match s.mod.pair.heard with
    | some m => m.term
    | none => 0
  let s := s.setKept 0x10068 31 0 ((max s.term other + 1) % 2 ^ 32)
  let s := s.setKept 0x10068 55 48 (min 255 (s.field 0x10068 55 48 + 1))
  let s := (s.setKept 0x10068 39 32 cause).modPair fun p => { p with role := 1, takeoverUntil := s.now + 1000000, healthySince := none }
  ((s.sendMessage 2).event 0x30 0xFFF false).endHold

/-- An active member steps down: its job ends, and it resets into the hold (R483). -/
def State.stepDown (s : State) : State :=
  let s := s.endJob.event 0x31 0xFFF false
  (s.setKept 0x10040 0 0 1).moduleReset true

/-- Is a standby that is paired? -/
def State.standby (s : State) : Bool := decide (s.mod.pair.role = 2) && s.pairedNow

/-- Does an active member yield to the sender of a message that shows the active role (R429, R483)? -/
def State.yields (s : State) (m : PartnerMsg) : Bool :=
  decide (s.term < m.term) ||
  (decide (m.term = s.term) && (
    let p := decide (m.flags / 8 % 2 = 1)
    if s.preferred != p then p else decide (m.srcModule < s.moduleId)))

/-- Since when a standby with PREFERRED has met the conditions of a take-back (R484). -/
def State.noteHealthy (s : State) : State :=
  let good := s.standby && s.mod.start.holding && s.preferred && s.mod.pair.up && s.hwFault.isNone && (match s.mod.pair.heard with
    | some m => decide (m.role = 0) && decide (m.flags % 2 = 1)
    | none => false)
  s.modPair fun p => { p with healthySince := since p.healthySince good s.now }

/-- A message passes R429; its CRC is good. A TAKEOVER needs a TERM above the receiver's own, or wins a crossing of equal TERMs. -/
def State.accepts (s : State) (m : PartnerMsg) : Bool :=
  let p := s.mod.pair
  s.linkOn && decide (m.version = 1) && decide (m.srcModule = s.field 0x10018 63 54) && decide (1 ≤ m.type) && decide (m.type ≤ 3) &&
  (!p.up || (match p.heard with
    | some h => decide ((m.seq + 65536 - h.seq) % 65536 ≤ 32768) && decide (m.seq ≠ h.seq)
    | none => true)) &&
  (decide (m.type ≠ 2) || decide (s.term < m.term) ||
    (decide (m.term = s.term) && decide (s.now < p.takeoverUntil) && decide (m.flags / 8 % 2 = 1) && !s.preferred))

/-- A message that fails acceptance is dropped and counted (R429). -/
def State.badMessage (s : State) : State := s.count 0x10018 39 32 1

/-- What an accepted message records (R481), and what it causes (R482 to R484). -/
def State.hear (s : State) (m : PartnerMsg) : State :=
  if !s.accepts m then s.badMessage
  else
    let before := s.mod.pair.activeTerm
    let s := s.modPair fun p => { p with
      heard := some m, heardAt := s.now, up := true, released := p.released || decide (m.type = 3)
      activeTerm := if m.role = 0 then some m.term else p.activeTerm }
    let s := s.noteHealthy
    if s.mod.pair.role = 1 then (if m.role = 0 && s.yields m then s.stepDown else s)
    else if s.standby then
      if m.type = 3 then s.takeOver 5
      else if m.flags / 2 % 2 = 1 then s.takeOver 2
      else if m.flags / 4 % 2 = 1 then s.takeOver 3
      else if m.role ≠ 0 ∧ before = some m.term ∧ !s.mod.pair.released then s.takeOver 4
      else s
    else s

def execHeartbeat (m : PartnerMsg) (s : State) : Host.Outcome State Fault Refusal := .next (s.hear { m with type := 1 })
def execTakeover (m : PartnerMsg) (s : State) : Host.Outcome State Fault Refusal := .next (s.hear { m with type := 2 })
def execRelease (m : PartnerMsg) (s : State) : Host.Outcome State Fault Refusal := .next (s.hear { m with type := 3 })

/-- A message whose CRC is bad, or that fails acceptance in another way (R429). -/
def execPartnerMessageBad (s : State) : Host.Outcome State Fault Refusal := .next (if s.linkOn then s.badMessage else s)

/-- 300 µs without an accepted message: UP falls, and a standby takes over (R429, R482). -/
def execPartnerLinkDown (s : State) : Host.Outcome State Fault Refusal :=
  if !s.mod.pair.up then .next s
  else
    let s := (s.reach (s.mod.pair.heardAt + 300000)).modPair fun p => { p with up := false, activeTerm := none, released := false, healthySince := none }
    .next (if s.standby then s.takeOver 1 else s)

/-- The preferred standby has been healthy beside an active partner for TAKEBACK_S: its hold ends, and it stays standby (R484). -/
def execTakebackReady (s : State) : Host.Outcome State Fault Refusal :=
  let d := s.field 0x10060 47 32
  let s := s.noteHealthy
  match s.mod.pair.healthySince with
  | none => .next s
  | some t => if d = 0 then .next s else .next ((s.reach (t + d * 1000000000)).endHold)

/-- No TAKEOVER within 5 s of the first RELEASE: the active role stays here, with the job ended (R484). -/
def execReleaseTimeout (s : State) : Host.Outcome State Fault Refusal :=
  match s.mod.pair.releasedAt with
  | none => .next s
  | some t =>
    if s.mod.pair.role = 1 then
      .next (((s.reach (t + 5000000000)).event 0x33 0xFFF false).modPair fun p => { p with releasedAt := none, releaseLeft := 0 })
    else .next s

/-! MOD_PAIR_STATUS and Elvef PAIR (R480, R495). -/

/-- READY, PARTNER_OK and PARTNER_ROLE with the kept fields. -/
def State.pairStatus (s : State) : Word :=
  let heard := s.mod.pair.heard
  let w := s.reg 0x10068
  let w := putField w 63 62 s.mod.pair.role
  let w := putField w 61 61 (boolBit (decide (s.mod.pair.role = 2) && decide (s.mod.start.stage = 3)))
  let w := putField w 60 60 (match heard with
    | some m => m.flags % 2
    | none => 0)
  putField w 59 58 (match heard with
    | some m => m.role % 4
    | none => 0)

/-- The response to an Elvef request (R422); the target tells the controller by IBI where target events are enabled (R421). -/
def State.elvef (s : State) (seq : BitVec 8) (status : Nat) (payload : List Byte) : State :=
  s.modPorts fun p => { p with
    elvef := some { seq := seq.toNat, status := status, payload := payload }
    i3c := { p.i3c with ibi := if p.i3c.events && p.i3c.address.isSome then some 0x02 else p.i3c.ibi } }

/-- The bytes of a response, with its CRC-16, most significant byte first (R422). -/
def answerBytes (a : Answer) : List Byte :=
  let head := bytesOf 1 a.status ++ bytesOf 1 a.seq ++ bytesOf 2 a.payload.length ++ a.payload
  head ++ bigBytes 2 (crc16 head)

/-- Status 0x00, or 0x06 where a kept field of these waits for its write window (R378, R424). -/
def State.keptStatus (s : State) (items : List MramItem) : Nat := if items.all fun i => s.windowOpen i then 0 else 6

def itemPaired : MramItem := .field 0x10060 62 62
def itemTerm : MramItem := .field 0x10068 31 0

/-- ACTION 0: leave the pair. -/
def execPairLeave (seq : BitVec 8) (s : State) : Host.Outcome State Fault Refusal :=
  let st := s.keptStatus [itemPaired]
  let s := (s.setKept 0x10060 62 62 0).modPair fun p => { p with role := 0, releaseAsked := false, healthySince := none }
  .next (s.elvef seq st (bytesOf 8 s.pairStatus.toNat))

/-- ACTION 1: join as active; a hold ends as by GO. A standby takes over. -/
def execPairJoinActive (seq : BitVec 8) (s : State) : Host.Outcome State Fault Refusal :=
  let held := s.mod.pair.up && (match s.mod.pair.heard with
    | some m => decide (m.role = 0)
    | none => false)
  if held then .next (s.elvef seq 5 (bytesOf 8 s.pairStatus.toNat))
  else
    let st := s.keptStatus [itemPaired, itemTerm]
    let s := s.setKept 0x10060 62 62 1
    let s := if s.mod.pair.role = 2 then s.takeOver 6
      else (((s.setKept 0x10068 31 0 ((s.term + 1) % 2 ^ 32)).modPair fun p => { p with role := 1 }).event 0x30 0xFFF false).endHold
    .next (s.elvef seq st (bytesOf 8 s.pairStatus.toNat))

/-- ACTION 2: join as standby; the answer is given before the module resets into the hold. -/
def execPairJoinStandby (seq : BitVec 8) (s : State) : Host.Outcome State Fault Refusal :=
  if s.jobState ≠ 0 then .next (s.elvef seq 5 (bytesOf 8 s.pairStatus.toNat))
  else
    let st := s.keptStatus [itemPaired, .field 0x10040 0 0, .field 0x10040 1 1]
    let s := s.elvef seq st (bytesOf 8 s.pairStatus.toNat)
    let s := ((s.setKept 0x10060 62 62 1).setKept 0x10040 0 0 1).setKept 0x10040 1 1 1
    .next ((s.event 0x31 0xFFF false).moduleReset false)

/-- The partner's last message shows it READY: a standby whose OK is 1 (R484). -/
def State.partnerReady (s : State) : Bool :=
  s.mod.pair.up && (match s.mod.pair.heard with
    | some m => decide (m.role = 1) && decide (m.flags % 2 = 1)
    | none => false)

/-- ACTION 3: release at the next checkpoint. -/
def execPairRelease (seq : BitVec 8) (s : State) : Host.Outcome State Fault Refusal :=
  if s.mod.pair.role ≠ 1 ∨ !s.partnerReady then .next (s.elvef seq 5 (bytesOf 8 s.pairStatus.toNat))
  else
    let s := s.modPair fun p => { p with releaseAsked := true }
    .next (s.elvef seq 0 (bytesOf 8 s.pairStatus.toNat))

/-- ACTIONS 4 and 5: set and clear PREFERRED. -/
def State.prefer (s : State) (seq : BitVec 8) (v : Nat) : State :=
  let st := s.keptStatus [.field 0x10060 63 63]
  let s := s.setKept 0x10060 63 63 v
  s.elvef seq st (bytesOf 8 s.pairStatus.toNat)

def execPairSetPreferred (seq : BitVec 8) (s : State) : Host.Outcome State Fault Refusal := .next (s.prefer seq 1)
def execPairClearPreferred (seq : BitVec 8) (s : State) : Host.Outcome State Fault Refusal := .next (s.prefer seq 0)

end Sys2Proof.Machine
end

