-- ==== Sys2Proof/Machine/Recover.lean ====
section
/-!
DEFINITION. Replay, the witness check, checkpoints and resume images (R472 to R479, R485 to R488).
-/
namespace Sys2Proof.Machine
open Sys2Proof

/-! Replay (R472, R473, R493). -/

/-- A 64-bit write of MOD_REPLAY (R472). `solo`: MODE 0. -/
def State.replayWrite (s : State) (solo : Bool) (k : CoreId) (t : Fin 8) (pc : BitVec 13) (limit : Nat) : State :=
  let c := s.core k
  if s.jobState ≠ 4 ∨ s.absent k ∨ !s.coreEnabled k.tower.val k.core.val ∨ c.inReset ∨ (c.th t).st ≠ .stopped ∨ s.mod.replay.isSome ∨
      coreLength s.mod.job.live k.index ≤ pc.toNat then
    s.setField 0x10058 62 62 1
  else
    let s := if solo then (s.setField 0x10058 61 51 0).modMod fun m => { m with
        replay := some { core := k.index, thread := t.val, started := s.now, limit := limit } } else s
    (s.modCore k fun c => c.modTh t fun th => { th with pc := pc, st := .ready, wait := .none }).choose k

/-- MODE 0, by a host port or the processors (R490). -/
def execReplaySolo (p : Port) (k : CoreId) (t : Fin 8) (pc : BitVec 13) (limit : BitVec 16) (s : State) : Host.Outcome State Fault Refusal :=
  let s := s.endLatch p 0x10058
  if p = .management then .next s else .next (s.replayWrite true k t pc limit.toNat)

/-- MODE 1. -/
def execReplayJoin (p : Port) (k : CoreId) (t : Fin 8) (pc : BitVec 13) (s : State) : Host.Outcome State Fault Refusal :=
  let s := s.endLatch p 0x10058
  if p = .management then .next s else .next (s.replayWrite false k t pc 0)

/-- LIMIT_MS passes: the thread is stopped, and the replay ends with RESULT 4 (R473). -/
def execReplayLimit (s : State) : Host.Outcome State Fault Refusal :=
  match s.mod.replay with
  | none => .next s
  | some r =>
    if r.limit = 0 then .next s
    else
      let k : CoreId := ⟨⟨r.core / 256 % 8, Nat.mod_lt _ (by decide)⟩, ⟨r.core % 256, Nat.mod_lt _ (by decide)⟩⟩
      .next (((s.reach (r.started + r.limit * 1000000)).stopThreads k (BitVec.ofNat 8 (2 ^ r.thread))).endReplay k none 4 0)

/-! The witness check (R477 to R479). -/

def State.modWitness (s : State) (f : Witness → Witness) : State := s.modMod fun m => { m with witness := f m.witness }

def coreIdOf (i : Nat) : CoreId := ⟨⟨i / 256 % 8, Nat.mod_lt _ (by decide)⟩, ⟨i % 256, Nat.mod_lt _ (by decide)⟩⟩

/-- The cores a sample may name: enabled, with a tensor owner, and no witness cores. -/
def State.sampled (s : State) : List Nat :=
  let p := s.mod.job.live
  let wit := (List.range (witCount p)).map fun i => (witEntry p i).1 * 256 + (witEntry p i).2.1
  (List.range 2048).filter fun i => s.coreEnabled (i / 256) (i % 256) && bitOf (s.reg (coreBlock (coreIdOf i) + 0x18)) 3 && !wit.contains i

/-- A STEP that falls due arms a capture; a capture still armed lapses (R477). -/
def execWitnessSample (s : State) : Host.Outcome State Fault Refusal :=
  let p := s.mod.job.live
  let step := s.jobWord 0x7FF000
  let period := witPeriod p
  if s.jobState ≠ 4 ∨ period = 0 ∨ step % period ≠ 0 ∨ step ≤ s.mod.witness.lastStep ∨ s.sampled = [] ∨ witCount p = 0 then .next s
  else
    let busy := match s.mod.witness.sample with
      | some x => x.cap.isSome
      | none => false
    if busy then .next s
    else
      let s := match s.mod.witness.sample with
        | some x => (s.count 0x10088 47 40 1).event 0x21 x.core false
        | none => s
      let j := step / period
      let cores := s.sampled
      let w := witEntry p (j % witCount p)
      .next (s.modWitness fun x => { x with
        lastStep := step
        sample := some { j := j, core := cores.getD (j % cores.length) 0, witness := w.1 * 2048 + w.2.1 * 8 + w.2.2, cap := none, ran := false,
                         sentAt := none } })

/-- The result tile has been copied, and the doorbell that carries j is sent to the witness (R478). -/
def execWitnessRecordReady (s : State) : Host.Outcome State Fault Refusal :=
  match s.mod.witness.sample with
  | none => .next s
  | some x =>
    match x.cap, x.ran, x.sentAt with
    | some c, true, none =>
      let k := coreIdOf x.core
      let w := coreIdOf (x.witness / 8)
      let s := s.spadPut w 0x74800 ((s.core k).tileBytes c.tile)
      let s := (s.modCore k fun c => { c with heldTile := none }).wakeLocal k
      let s := (s.spadPut w 0x70000 (bytesOf 8 x.j)).ringDoorbells w 0x70000 8
      .next (s.modWitness fun y => { y with sample := some { x with sentAt := some s.now } })
    | _, _, _ => .next s

/-- WIT_DONE has reached j: the tiles are compared bit for bit (R113, R479). -/
def execWitnessCompare (s : State) : Host.Outcome State Fault Refusal :=
  match s.mod.witness.sample with
  | none => .next s
  | some x =>
    if x.sentAt.isNone ∨ s.jobWord 0x7FF020 < x.j then .next s
    else
      let m := (s.core (coreIdOf (x.witness / 8))).spad
      let s := (s.countWrap 0x10088 31 0 1).modWitness fun y => { y with sample := none }
      if m.read 0x70800 16384 = m.read 0x74800 16384 then .next s
      else .next ((s.modWitness fun y => { y with mismatch := true }).event 0x20 x.core true)

/-- WIT_DONE has not reached j within LIMIT_MS of the doorbell (R479, R498). -/
def execWitnessLate (s : State) : Host.Outcome State Fault Refusal :=
  match s.mod.witness.sample with
  | none => .next s
  | some x => match x.sentAt with
    | none => .next s
    | some t =>
      if x.j ≤ s.jobWord 0x7FF020 then .next s
      else
        let s := s.reach (t + max 1 (s.field 0x10088 63 56) * 1000000)
        .next (((s.count 0x10088 55 48 1).event 0x22 x.core false).modWitness fun y => { y with sample := none })

/-! Checkpoints (R485 to R487). -/

def State.modCkpt (s : State) (f : Ckpt → Ckpt) : State := s.modMod fun m => { m with ckpt := f m.ckpt }

/-- Do checkpoints run: EN, a RUNNING job, and the role active or none? -/
def State.ckptOn (s : State) : Bool := decide (s.jobState = 4) && bitOf (s.reg 0x10078) 0 && decide (s.mod.pair.role ≠ 2)

/-- Every INTERVAL_MS CKPT_DUE rises by 1. -/
def execCkptDueTick (s : State) : Host.Outcome State Fault Refusal :=
  if s.ckptOn then
    let s := s.reach (s.mod.ckpt.dueAt + max 1 (s.field 0x10060 31 16) * 1000000)
    .next ((s.setJobWord 0x7FF010 (s.jobWord 0x7FF010 + 1)).modCkpt fun c => { c with dueAt := s.now })
  else .next s

/-- The staging regions of a package, in its order: endpoint, kind, length, offset, and where their data begin in a slot (R487). -/
def stagingFrom (p : List Byte) (at' : Nat) : List Nat → List (Nat × Nat × Nat × Nat)
  | [] => []
  | i :: rest =>
    let g := fun off n => secNat p 8 (16 * i + off) n
    if g 1 1 = 4 then (g 0 1, g 4 4, g 8 8, at') :: stagingFrom p (at' + (g 4 4 + 4095) / 4096 * 4096) rest else stagingFrom p at' rest
def staging (p : List Byte) : List (Nat × Nat × Nat × Nat) := stagingFrom p 0x21000 (List.range (secCount p 8))

/-- The dirty-tag blocks that a staging region of a tower meets. -/
def stagingBlocks (p : List Byte) : List (Nat × Nat) :=
  (staging p).flatMap fun r =>
    if r.1 < 8 then ((List.range ((r.2.2.1 + r.2.1 + 65535) / 65536 - r.2.2.1 / 65536)).map fun i => (r.1, r.2.2.1 / 65536 + i)) else []

/-- Has a block been written in the present vault cycle (R330)? Of the two cycles that can share a nanosecond the present one is the later
(assumption 127). -/
def State.writtenNow (s : State) (t block : Nat) : Bool := decide ((s.vault t).wroteAt.get 0 block = s.vaultNow + 1)

/-- The tags of those blocks are read and cleared; a block written in the same vault cycle keeps its tag (R330, R486). -/
def State.readTags (s : State) : State :=
  (stagingBlocks s.mod.job.live).foldl (fun s b =>
    if (s.vault b.1).dirty.get false b.2 then
      (s.modVault b.1 fun v => { v with dirty := v.dirty.set false b.2 (s.writtenNow b.1 b.2) }).modCkpt fun c => { c with tags := c.tags.set false (b.1 * 32768 + b.2) true }
    else s) s

def Ckpt.modSlot (c : Ckpt) (n : Nat) (f : Mem → Mem) : Ckpt := if n = 0 then { c with slotA := f c.slotA } else { c with slotB := f c.slotB }

/-- The pieces of a region between multiples of `size`: offset in it, and length. -/
def piecesOf (size off n : Nat) : List (Nat × Nat) :=
  (List.range ((off + n + size - 1) / size - off / size)).map fun i =>
    let a := max off ((off / size + i) * size)
    (a - off, min (off + n) ((off / size + i + 1) * size) - a)

/-- Bytes of a vault that a checkpoint has to read, in reads that take each bank once (R486, R524). -/
def State.queueSave (s : State) (t a n at' : Nat) : State :=
  (piecesOf 16384 a n).foldl (fun (s : State) x => s.modVault t fun v => { v with saves := v.saves ++ [⟨a + x.1, x.2, at' + x.1, []⟩] }) s

/-- Bytes of the hashed region that a checkpoint has to read: the lines wait for slots of C0 and C1, each chiplet every second line (R485,
assumption 131). -/
def State.queueLines (s : State) (off n at' : Nat) : State :=
  (piecesOf 256 off n).foldl (fun (s : State) x =>
    let o := off + x.1
    let c := hashChannel o
    let act : EngineAct := .save o x.2 (at' + x.1)
    if (s.chan c).st = .failed then s.engineFails act
    else s.modChan c fun y => { y with work := y.work ++ [⟨0x16 + o / 256 % 2, act⟩] }) s

/-- A region's data is to go to the slot: whole in the hashed region and in the first two checkpoints, else the blocks whose tags were
read as set (R486). -/
def State.saveRegion (s : State) (r : Nat × Nat × Nat × Nat) : State :=
  let (e, n, off, at') := r
  let c := s.mod.ckpt
  if 8 ≤ e then s.queueLines (off % 2 ^ 41) n at'
  else (piecesOf 65536 off n).foldl (fun s x =>
    let tag := e * 32768 + (off + x.1) / 65536
    if decide (c.count < 2) || c.tags.get false tag || c.lastTags.get false tag then s.queueSave e (off + x.1) x.2 (at' + x.1) else s) s

/-- Reads of a checkpoint that still wait. -/
def State.saveDrained (s : State) : Bool :=
  ((List.range 8).all fun t => (s.vault t).saves.isEmpty) && (List.range 288).all fun c => (s.chan c).work.all fun w => match w.act with
    | .save _ _ _ => false
    | _ => true

/-- What is left of a checkpoint that fails. -/
def State.dropSaves (s : State) : State :=
  let keep := fun (w : EngineReq) => match w.act with
    | .save _ _ _ => false
    | _ => true
  let s := (List.range 8).foldl (fun (s : State) t => s.modVault t fun v => { v with saves := [] }) s
  (List.range 288).foldl (fun (s : State) c => s.modChan c fun x => { x with work := x.work.filter keep }) s

/-- CKPT_REQ above CKPT_DONE: the checkpoint begins in the slot that does not hold CKPT_DONE, whose MAGIC becomes 0, and what is to be written is
read in the background turns of the vaults and the slots of both control chiplets (R485, R486). An
active member whose partner is READY to take the job back stops every thread first (R484). -/
def execCheckpointRequest (s : State) : Host.Outcome State Fault Refusal :=
  let c := s.jobWord 0x7FF008
  if !s.ckptOn ∨ s.mod.ckpt.running.isSome ∨ c ≤ s.ckptDone then .next s
  else
    let prefers := match s.mod.pair.heard with
      | some m => decide (m.flags / 8 % 2 = 1)
      | none => false
    let release := decide (s.mod.pair.role = 1) && s.partnerReady && (prefers || s.mod.pair.releaseAsked)
    let s := s.readTags.modCkpt fun k => { k.modSlot (1 - k.slot) fun m => m.write 0 [0, 0, 0, 0] with running := some (c, s.now), restoring := false, bad := false }
    let s := (staging s.mod.job.live).foldl State.saveRegion s
    .next (if release then (s.endJob).modPair fun p => { p with releasing := true } else s)

/-- The header of a slot (R487). -/
def State.slotHeader (s : State) (number : Nat) : List Byte :=
  let p := s.mod.job.live
  let rs := staging p
  let head := bytesOf 4 0x5A525331 ++ bytesOf 2 1 ++ bytesOf 2 0 ++ bytesOf 4 s.term ++ bytesOf 4 0 ++ bytesOf 8 number ++ bytesOf 8 (s.reg 0x10838).toNat ++
    sha256 p ++ bytesOf 8 s.now ++ bytesOf 2 s.moduleId ++ bytesOf 2 0 ++ bytesOf 4 (pkgVaultDirect p) ++ bytesOf 4 rs.length ++ bytesOf 4 0 ++
    bytesOf 8 (rs.map fun r => r.2.1).sum ++ List.replicate 156 0
  head ++ bytesOf 4 (crc32 head)

/-- The region table of a slot. -/
def regionTable (p : List Byte) : List Byte :=
  (staging p).flatMap fun (e, n, off, at') => bytesOf 1 e ++ bytesOf 1 4 ++ bytesOf 2 0 ++ bytesOf 4 n ++ bytesOf 8 off ++ bytesOf 8 at' ++ bytesOf 8 0

/-- RELEASE goes out, three times (R484). -/
def State.release (s : State) : State :=
  ((s.modPair fun p => { p with releasing := false, releaseAsked := false, releasedAt := some s.now, releaseLeft := 2 }).sendMessage 3).event
    0x32 0xFFF false

/-- A failed checkpoint releases nothing. -/
def State.stopRelease (s : State) : State := s.modPair fun p => { p with releasing := false }

/-- The checkpoint's data are read and written, its region table and header follow, and CKPT_DONE is set; or it fails: its pool writes do, or a
read of it has met what it could not read (R485, R486, assumption 128). -/
def execCheckpointDone (ok : Bool) (s : State) : Host.Outcome State Fault Refusal :=
  match s.mod.ckpt.running with
  | none => .next s
  | some (c, t0) =>
    if s.mod.ckpt.restoring then .next s
    else if !ok ∨ s.mod.ckpt.bad then
      .next ((((s.dropSaves.setField 0x10080 61 61 1).event 0x28 0xFFF false).modCkpt fun k => { k with running := none }).stopRelease)
    else if !s.saveDrained then .next s
    else
      let n := 1 - s.mod.ckpt.slot
      let head := s.slotHeader c
      let data := fun (m : Mem) => (m.write 0x1000 (regionTable s.mod.job.live)).write 0 head
      let s := s.modCkpt fun k => k.modSlot n data
      let s := (s.setJobWord 0x7FF018 c).modCkpt fun k => { k with
        running := none, slot := n, count := k.count + 1, lastTags := k.tags, tags := [], lastMs := min 255 ((s.now - t0) / 1000000) }
      .next (if s.mod.pair.releasing then s.release else s)

/-! Restore (R488). -/

/-- A command is taken only while the job is IDLE and nothing runs. -/
def State.ckptFree (s : State) : Bool := decide (s.jobState = 0) && s.mod.ckpt.running.isNone

/-- CMD 1 of MOD_CKPT_CTRL: the restore begins, or IGNORED is set. -/
def State.ckptRestore (s : State) : State :=
  if s.ckptFree then s.modCkpt fun k => { k with running := some (0, s.now), restoring := true } else s.setField 0x10080 60 60 1

/-- CMD 2: MAGIC 0 in both slots. -/
def State.ckptInvalidate (s : State) : State :=
  if s.ckptFree then s.modCkpt fun k => { k with slotA := k.slotA.write 0 [0, 0, 0, 0], slotB := k.slotB.write 0 [0, 0, 0, 0] }
  else s.setField 0x10080 60 60 1

/-- The management port has no write of this register (R490). -/
def execCkptRestore (p : Port) (s : State) : Host.Outcome State Fault Refusal :=
  let s := s.endLatch p 0x10078
  .next (if p = .management then s else s.ckptRestore)
def execCkptInvalidate (p : Port) (s : State) : Host.Outcome State Fault Refusal :=
  let s := s.endLatch p 0x10078
  .next (if p = .management then s else s.ckptInvalidate)

/-- A memory that holds some bytes, the last of equal addresses. -/
def memOf (cells : List (Nat × Byte)) : Mem := cells.foldl (fun m c => m.setByte c.1 c.2) []

/-- Is a slot valid: MAGIC, VERSION and CRC (R486, R487)? -/
def slotValid (m : Mem) : Bool :=
  decide (m.readNat 0 4 = 0x5A525331) && decide (m.readNat 4 2 = 1) && decide (m.readNat 0xFC 4 = crc32 (m.read 0 0xFC))

/-- TERM and then NUMBER order two slots. -/
def newerSlot (a b : Mem) : Bool :=
  let g := fun (m : Mem) => m.readNat 8 4 * 2 ^ 64 + m.readNat 0x10 8
  decide (g b ≤ g a)

/-- The slot a restore takes. -/
def slotChosen (a b : Mem) : Option Mem :=
  if slotValid a && (!slotValid b || newerSlot a b) then some a else if slotValid b then some b else none

/-- The vault direct limit of a tower; its cache part is emptied when the limit changes. -/
def State.setDirect (s : State) (t n : Nat) : State :=
  if s.field (endBlock t + 8) 5 0 = n then s else (s.setField (endBlock t + 8) 5 0 n).emptyCache t

/-- A region of a slot written back; none where its endpoint cannot take it. -/
def State.putRegion (s : State) (m : Mem) (i : Nat) : Option State :=
  let at' := 0x1000 + 32 * i
  let e := m.readNat at' 1
  let n := m.readNat (at' + 4) 4
  let off := m.readNat (at' + 8) 8
  let bs := m.read (m.readNat (at' + 16) 8) n
  if e < 8 then (if s.endEnabled e && decide (off + n ≤ s.vaultDirect e) then some (s.vaultBytes e off bs) else none)
  else if e = 31 then
    let off := off % 2 ^ 41
    let lines := piecesOf 256 off n
    if hashedLimit < off + n ∨ lines.any fun x => decide ((s.chan (hashChannel (off + x.1))).st = .failed) then none
    else some ({ s with lpddr := s.lpddr.write off bs }.healUnits (unitsAt off n))
  else none

/-- Every region in table order, as far as the writes succeed; and whether all did. -/
def State.putRegions (s : State) (m : Mem) : List Nat → State × Bool
  | [] => (s, true)
  | i :: rest => match s.putRegion m i with
    | none => (s, false)
    | some s => s.putRegions m rest

/-- The restore ends. `a` and `b` are what slots A and B hold, which is host memory; `ok`: the reads and writes through the host windows
succeeded. -/
def execCkptRestoreDone (a b : List (Nat × Byte)) (ok : Bool) (s : State) : Host.Outcome State Fault Refusal :=
  if s.mod.ckpt.running.isNone ∨ !s.mod.ckpt.restoring then .next s
  else
    let s := s.modCkpt fun k => { k with running := none, restoring := false }
    match ok, slotChosen (memOf a) (memOf b) with
    | true, some m =>
      let s := (List.range 8).foldl (fun s t => s.setDirect t (m.readNat 0x4C 4 / 2 ^ 26 % 64)) s
      (match s.putRegions m (List.range (min 4096 (m.readNat 0x50 4))) with
       | (s, true) => .next (s.setField 0x10080 62 62 1)
       | (s, false) => .next (s.setField 0x10080 61 61 1))
    | _, _ => .next (s.setField 0x10080 61 61 1)

end Sys2Proof.Machine
end

