-- ==== Sys2Proof/Machine/Dump.lean ====
section
/-!
DEFINITION. Counters' overflow and sampling, counter dumps, and Babbitt's own records (R499 to R527).
-/
namespace Sys2Proof.Machine
open Sys2Proof

/-! Overflow and sampling (R504). -/

/-- Is an event number one of R503? -/
def eventListed (e : Nat) : Bool :=
  decide (e ≤ 0x005) || (decide (0x008 ≤ e) && decide (e ≤ 0x00F)) || (decide (0x040 ≤ e) && decide (e ≤ 0x046)) ||
  (decide (0x048 ≤ e) && decide (e ≤ 0x04A)) || (decide (0x080 ≤ e) && decide (e ≤ 0x083)) || (decide (0x0C0 ≤ e) && decide (e ≤ 0x0C7)) ||
  (decide (0x100 ≤ e) && decide (e ≤ 0x102))

/-- One occurrence of its event meets a counter that stands at 2^48 − 1: it wraps, sets OVF and, with INT, arms a sample. -/
def execPmcOverflow (k : CoreId) (n : Fin 8) (s : State) : Host.Outcome State Fault Refusal :=
  let sel := s.reg (pmcSel k n.val)
  if bitOf sel 11 ∧ eventListed (sel.field 9 0) ∧ s.pmcLive k ∧ s.field (pmcCnt k n.val) 47 0 = 2 ^ 48 - 1 then .next (s.pmcAdd k n.val 1)
  else .next s

/-- The armed sample names one of the instructions issued since the overflow, which the manual leaves open among the first 24: `i`. -/
def execPmcSample (k : CoreId) (n : Fin 8) (i : Fin 24) (s : State) : Host.Outcome State Fault Refusal :=
  let c := s.core k
  match c.pmcArmed.get false n.val, (c.pmcWindow.get [] n.val)[i.val]? with
  | true, some (thread, pc) =>
    let s := (s.setField (pmcCnt k n.val) 63 61 thread).setField (pmcCnt k n.val) 60 48 pc
    let s := (s.setField (pmcSel k n.val) 62 62 1).modCore k fun c => { c with
      pmcArmed := c.pmcArmed.set false n.val false, pmcWindow := c.pmcWindow.set [] n.val [] }
    .next (s.setDoorbell (ctxOf k (s.field (pmcSel k n.val) 34 32)))
  | _, _ => .next s

/-! Snapshots (R508, R512, R513). -/

/-- W in ns (R512, R519). -/
def State.dumpWindow (s : State) : Nat := max 10 (min 1000000 (s.field 0x1C000 63 32)) * 1000

/-- Is an MRS offset a counter of R499, R506 or R510? -/
def isCounter (off : Nat) : Bool :=
  let r := (off - 0x100000) % 0x20000
  decide (0x100000 ≤ off) &&
  ((decide (0x4000 ≤ r) && decide (r < 0x5000)) || (decide (0x8000 ≤ r) && decide (r < 0x8900)) ||
   (decide (0x10000 ≤ r) && decide (0x80 ≤ r % 0x100) && decide (r % 16 = 8)))

/-- The pairs that have packets queued, with CUR_FLITS. -/
def State.queueDepths (s : State) : List (Nat × Nat) :=
  (List.range 24).flatMap fun e => (List.range 24).filterMap fun d =>
    let n := s.pairDepth e d
    if n = 0 then none else some (endBlock e + 0x4C00 + 8 * d, n)

/-- The counter registers as they stand. -/
def State.counterWords (s : State) : Tab Word :=
  let stored := s.regs.filterMap fun e => if isCounter e.1 then some (e.1, e.2 ^^^ resetAt e.1) else none
  let stalled := s.openStalls.foldl (fun t x => Tab.modify 0 t x.1 (· + BitVec.ofNat 64 x.2)) stored
  s.queueDepths.foldl (fun t q => t.set 0 q.1 (putField (t.get 0 q.1) 15 0 q.2)) stalled

/-- A snapshot of every counter. -/
def State.snapshot (s : State) : Snapshot :=
  { time := s.now, words := s.counterWords, groups := s.field 0x1C000 6 4, tag := (s.reg 0x10838).toNat, point := s.power.ladder.point,
    missed := s.mod.engine.missed, resets := s.mod.engine.resets }

/-- MAX_FLITS returns to CUR_FLITS (R508). -/
def State.clearMaxFlits (s : State) : State :=
  let now := s.queueDepths
  let s := { s with regs := s.regs.filterMap fun (e : Nat × Word) =>
    let r := (e.1 - 0x100000) % 0x20000
    if 0x100000 ≤ e.1 ∧ 0x4C00 ≤ r ∧ r < 0x4CC0 then listed 0 e.1 (putField e.2 31 16 0) else some e }
  now.foldl (fun s q => s.setField q.1 31 16 q.2) s

/-- A boundary that is skipped. -/
def State.missBoundary (s : State) : State := s.modMod fun m => { m with engine := { m.engine with missed := m.engine.missed + 1 } }

/-- Has the ring room (R517)? -/
def State.ringRoom (s : State) : Bool :=
  decide ((s.field 0x1C018 31 0 + 1) % s.field 0x1C010 31 0 ≠ s.field 0x1C020 31 0) || bitOf (s.reg 0x1C000) 1

/-- The next dump boundary: the first multiple of W that lies neither before now nor at the boundary served last. -/
def State.nextBoundary (s : State) : Nat :=
  let w := s.dumpWindow
  let k := (s.now + w - 1) / w
  if k * w = s.mod.engine.boundary then (k + 1) * w else k * w

/-! Records (R514 to R517). -/

def pmcCore (i j : Nat) : Nat := 0x100000 + i / 256 * 0x20000 + 0x10000 + i % 256 * 0x100 + 0x88 + 16 * j
def pmcChan (c k : Nat) : Nat := endBlock (8 + c / 36) + 0x8000 + 64 * (c % 36) + 8 * k

/-- The three blocks of a record. -/
def dumpBlocks (n : Snapshot) : List Byte :=
  let words := fun (offs : List Nat) => offs.flatMap fun o => bytesOf 8 (n.words.get 0 o).toNat
  (if n.groups % 2 = 1 then words ((List.range 2048).flatMap fun i => (List.range 8).map (pmcCore i)) else []) ++
  (if n.groups / 2 % 2 = 1 then words ((List.range 24).flatMap fun e => (List.range 512).map fun i => endBlock e + 0x4000 + 8 * i) else []) ++
  (if n.groups / 4 % 2 = 1 then words ((List.range 288).flatMap fun c => (List.range 8).map (pmcChan c)) else [])

/-- The size of a record by its groups. -/
def recordSize (groups : Nat) : Nat :=
  512 + groups % 2 * 131072 + groups / 2 % 2 * 98304 + groups / 4 % 2 * 18432

/-- Growth of a counter between two snapshots, modulo 2^64. -/
def grown (a b : Snapshot) (off : Nat) : Nat := (b.words.get 0 off - a.words.get 0 off).toNat

/-- A derived field: MB/s over the interval, or all ones where the endpoint was reset (R516). -/
def rateField (a b : Snapshot) (e amount : Nat) : List Byte :=
  if b.resets / 2 ^ e % 2 = 1 then bytesOf 4 0xFFFFFFFF else bytesOf 4 (amount * 1000 / (b.time - a.time))

/-- The header of a record (R515). -/
def recordHeader (a b : Snapshot) (seq : Nat) : List Byte :=
  let ends := List.range 24
  let ports := (List.range 8).flatMap fun m => rateField a b (8 + m)
    (256 * ((List.range 36).map fun c => grown a b (pmcChan (36 * m + c) 0) + grown a b (pmcChan (36 * m + c) 1)).sum)
  let fibre := fun (rx : Nat) => ends.flatMap fun f => rateField a b (16 + f / 4) (grown a b (endBlock (16 + f / 4) + 0x4F00 + 16 * (f % 4) + 8 * rx))
  let head := bytesOf 4 0x5A445031 ++ bytesOf 2 1 ++ bytesOf 1 b.groups ++ [0] ++ bytesOf 8 seq ++ bytesOf 8 a.time ++ bytesOf 8 b.time ++
    bytesOf 4 b.missed ++ bytesOf 4 b.resets ++ bytesOf 8 b.tag ++ bytesOf 1 b.point ++ List.replicate 15 0 ++
    (ends.flatMap fun e => rateField a b e (grown a b (endBlock e + 0x4F80))) ++
    (ends.flatMap fun e => rateField a b e (grown a b (endBlock e + 0x4F88))) ++
    ports ++ fibre 0 ++ fibre 1 ++ List.replicate 28 0
  head ++ bytesOf 4 (crc32 head)

/-- Where the record that is being written begins. -/
def State.recordAddr (s : State) (groups : Nat) : Word := s.reg 0x1C008 + BitVec.ofNat 64 (s.field 0x1C018 31 0 * recordSize groups)

/-- A write of the dump engine waits for a slot of its chiplet, or finds its channel failed (R517, R522). -/
def State.queueRecord (s : State) (off : Nat) (bs : List Byte) : State :=
  let c := hashChannel off
  if (s.chan c).st = .failed then s.engineFails (.record off bs)
  else s.modChan c fun x => { x with work := x.work ++ [⟨0x16 + s.primary, .record off bs⟩] }

/-- A record begins: its blocks go to the ring, line by line, and its header after them (R517). A ring in a host window lies in host memory,
where the record takes no slot. -/
def State.startRecord (s : State) (a b : Snapshot) : State :=
  let addr := s.recordAddr b.groups
  if gaEndpoint addr = 31 then
    let off := gaOffset addr % 2 ^ 41
    let data := dumpBlocks b
    let s := s.modMod fun m => { m with engine := { m.engine with header := some (off, recordHeader a b m.engine.seq) } }
    ((List.range ((data.length + 255) / 256)).foldl (fun s i => s.queueRecord (off + 512 + 256 * i) ((data.drop (256 * i)).take 256)) s).countHead
      (0x16 + s.primary)
  else s

/-- A snapshot is taken; but for the first since EN, a record begins (R513). -/
def State.takeSnapshot (s : State) : State :=
  let new := s.snapshot
  let old := s.mod.engine.previous
  let s := s.modMod fun m => { m with engine := { m.engine with
    shadow := old.map fun p => (p, new)
    previous := some new, missed := 0, resets := 0, bad := false, header := none } }
  match old with
  | none => s
  | some p => s.startRecord p new

/-- What the engine does at a boundary (R513). -/
def State.atBoundary (s : State) : State :=
  if !bitOf (s.reg 0x1C000) 0 then s.modTime fun t => { t with skipDump := false }
  else if s.power.time.skipDump then s.missBoundary.modTime fun t => { t with skipDump := false }
  else if s.mod.engine.shadow.isSome then s.missBoundary.count 0x1C028 47 32 1
  else if !s.ringRoom then s.missBoundary.count 0x1C028 31 16 1
  else s.takeSnapshot

/-- A dump boundary (R512, R513). A snapshot holds MAX_FLITS as the window that ends has left it, before it returns to CUR_FLITS (R508,
assumption 141). -/
def execDumpBoundary (s : State) : Host.Outcome State Fault Refusal :=
  let b := s.nextBoundary
  .next ((s.reach b).modMod fun m => { m with engine := { m.engine with boundary := b } }).atBoundary.clearMaxFlits

/-! The end of a record (R517). -/

/-- The writes of the dump engine that still wait. -/
def State.recordDrained (s : State) : Bool :=
  s.mod.engine.header.isNone && (List.range 288).all fun c => (s.chan c).work.all fun w => match w.act with
    | .record _ _ => false
    | _ => true

/-- What is left of a record that is abandoned. -/
def State.dropRecord (s : State) : State :=
  let keep := fun (w : EngineReq) => match w.act with
    | .record _ _ => false
    | _ => true
  (List.range 288).foldl (fun (s : State) c => s.modChan c fun x => { x with work := x.work.filter keep })
    (s.modMod fun m => { m with engine := { m.engine with header := none } })

/-- The record's blocks and header are written and HEAD advances; or a write has failed and the record is abandoned (R517). `ok`: the
writes to a ring in host memory succeeded. -/
def execDumpRecordComplete (ok : Bool) (s : State) : Host.Outcome State Fault Refusal :=
  match s.mod.engine.shadow with
  | none => .next s
  | some _ =>
    let ended := s.modMod fun m => { m with engine := { m.engine with shadow := none } }
    if !ok ∨ s.mod.engine.bad then .next (ended.dropRecord.count 0x1C028 15 0 1)
    else if !s.recordDrained then .next s
    else
      let s := ended
      let index := s.field 0x1C018 31 0
      let s := (s.setField 0x1C018 31 0 ((index + 1) % s.field 0x1C010 31 0)).countWrap 0x1C018 63 32 1
      .next (s.modMod fun m => { m with engine := { m.engine with seq := m.engine.seq + 1 } })

/-! DMP_CTRL (R518, R519). -/

def State.dumpIgnored (s : State) : State := s.setField 0x1C028 62 62 1

/-- Does the ring base lie in the hashed region or in a host window of a control chiplet? -/
def State.ringPlaceOk (s : State) : Bool :=
  let a := s.reg 0x1C008
  decide (a.toNat % 256 = 0) && decide (gaModule a = s.moduleId) &&
  (match s.rangeOf (gaEndpoint a) (gaOffset a) with
   | some (.hashed _ _, _) => true
   | some (.host _ _, _) => true
   | _ => false)

/-- A write of DMP_CTRL. While EN is 1 the other fields do not change, and a write that would change them sets IGNORED. -/
def State.dumpCtrl (s : State) (w : Word) : State :=
  let old := s.reg 0x1C000
  let keep := putField w 0 0 0 &&& 0xFFFFFFFF00000072
  let same := decide (keep = putField old 0 0 0 &&& 0xFFFFFFFF00000072)
  let en := bitOf w 0
  if bitOf old 0 then
    let s := if same then s else s.dumpIgnored
    s.setField 0x1C000 0 0 (boolBit en)
  else
    let s := s.setReg 0x1C000 keep
    if !en then s
    else if !s.ringPlaceOk ∨ s.field 0x1C010 31 0 < 2 then s.dumpIgnored
    else
      let s := (((s.setField 0x1C000 0 0 1).setReg 0x1C018 0).setField 0x1C020 31 0 0)
      s.modMod fun m => { m with engine := { m.engine with previous := none, seq := 0, missed := 0, resets := 0 } }

/-- A write of DMP_CTRL with EN = 1; the management port has none (R394). -/
def execDmpEnable (p : Port) (value : Word) (s : State) : Host.Outcome State Fault Refusal :=
  let s := s.endLatch p 0x1C000
  if p = .management then .next s else .next (s.dumpCtrl (putField value 0 0 1))

/-- A write of DMP_CTRL with EN = 0. -/
def execDmpDisable (p : Port) (value : Word) (s : State) : Host.Outcome State Fault Refusal :=
  let s := s.endLatch p 0x1C000
  if p = .management then .next s else .next (s.dumpCtrl (putField value 0 0 0))

/-! Babbitt (R523, R525, R526). -/

/-- The positions Babbitt records: lines, lanes, and the place in the recalibration order. -/
def State.positions (s : State) : List Nat :=
  (List.range 288).map (fun c => (s.chan c).scrubLine) ++ (List.range 8).map (fun t => (s.vault t).scrubLane) ++ [s.light.calNext]

/-- Once per minute Babbitt records its progress in kept fields. -/
def execBabbittProgressRecord (s : State) : Host.Outcome State Fault Refusal :=
  if !s.power.on then .next s
  else
    let s := s.periodic keyProgress 60000000000
    let old := (List.range 297).map fun i => s.mod.babbitt.recorded.get 0 i
    let s := s.mramWrite .progress old
    let new := (List.range 297).zip s.positions
    .next (s.modMod fun m => { m with babbitt := { m.babbitt with recorded := new.foldl (fun t p => t.set 0 p.1 p.2) m.babbitt.recorded } })

/-- Every 10 minutes a scrub pass starts on every enabled core; a pass that has not reached every lane counts in SPAD_BEHIND (R525). -/
def execSpadScrubPassStart (s : State) : Host.Outcome State Fault Refusal :=
  if !bitOf (s.reg 0x10090) 2 then .next s
  else
    let s := s.periodic keyPass 600000000000
    .next ((List.range 2048).foldl (fun (s : State) i =>
      if s.coreEnabled (i / 256) (i % 256) then
        let k := coreIdOf i
        let s := if (s.core k).scrubLeft = 0 then s else s.count 0x10098 31 16 1
        s.modCore k fun c => { c with scrubLeft := 32768 }
      else s) s)

/-- Once a day, while its chiplet's window is open, the block with the most writes since its last move goes to the physical block with
the fewest writes in total (R526). `block` and `target` name them where counts are equal. -/
def execMramWearMove (c1 : Bool) (block target : Nat) (s : State) : Host.Outcome State Fault Refusal :=
  let b := s.mod.babbitt
  let c := boolBit c1
  let most := b.recent.all fun e => decide (e.1 % 2 ≠ c) || decide (e.2 ≤ b.recent.get 0 (2 * block + c))
  let fewest := b.total.all fun e => decide (e.1 % 2 ≠ c) || decide (b.total.get 0 (2 * target + c) ≤ e.2)
  let open' := if c1 then s.power.thermal.window1 else s.power.thermal.window0
  if !bitOf (s.reg 0x10090) 3 ∨ !open' ∨ !most ∨ !fewest then .next s
  else
    let s := s.periodic (keyWear c) 86400000000000
    let s := s.setKept 0x10098 15 8 ((s.field 0x10098 15 8 + 1) % 256)
    .next (s.modMod fun m => { m with babbitt := { m.babbitt with
      recent := m.babbitt.recent.set 0 (2 * block + c) 0
      total := m.babbitt.total.modify 0 (2 * target + c) (· + 1)
      map := m.babbitt.map.set 0 (2 * block + c) (block ^^^ target) } })

end Sys2Proof.Machine
end

