-- ==== Sys2Proof/Machine/RegRead.lean ====
section
/-!
DEFINITION. What the registers of the module register space read as (R18 to R23, R405): the stored bits, and the live fields as the
machine's state gives them.
-/
namespace Sys2Proof.Machine
open Sys2Proof

/-- Put several fields into a word: high bit, low bit, value. -/
def putFields (w : Word) (fs : List (Nat × Nat × Nat)) : Word := fs.foldl (fun w f => putField w f.1 f.2.1 f.2.2) w

/-- The mask of the numbers below `n` for which `p` holds. -/
def maskBelow (n : Nat) (p : Nat → Bool) : Nat := ((List.range n).map fun i => if p i then 2 ^ i else 0).sum

/-! Module control. -/

/-- MOD_LINK, its retrain counts stored (R408). -/
def State.linkWord (s : State) : Word :=
  let a := s.mod.ports.cxlA
  let b := s.mod.ports.cxlB
  putFields (s.reg 0x10008) [
    (55, 52, b.width), (51, 50, b.rate), (49, 49, boolBit b.lopt), (48, 48, boolBit b.up),
    (23, 20, a.width), (19, 18, a.rate), (17, 17, boolBit a.lopt), (16, 16, boolBit a.up)]

/-- MOD_PARTNER (R430). -/
def State.partnerWord (s : State) : Word :=
  let seqOf := fun (m : Option PartnerMsg) => match m with
    | some x => x.seq
    | none => 0
  putFields (s.reg 0x10018) [(47, 47, boolBit s.mod.pair.up), (31, 16, seqOf s.mod.pair.heard), (15, 0, seqOf s.mod.pair.sent)]

/-- MOD_START (R437). -/
def State.startWord (s : State) : Word :=
  let x := s.mod.start
  putFields (s.reg 0x10040) [
    (62, 62, boolBit x.holding), (59, 59, boolBit x.memKept), (58, 58, boolBit x.lastSaved), (55, 48, min 255 x.fallbacks),
    (47, 32, min 65535 x.s3ms), (31, 16, min 65535 x.s2ms)]

/-- MOD_PLATFORM (R540). -/
def State.platformWord (s : State) : Word :=
  let held := match s.power.refLost with
    | some t => min 65535 ((s.now - t) / 1000000000)
    | none => 0
  putFields (s.reg 0x100A0) [
    (63, 62, if !s.power.refSeen then 2 else if s.power.refLost.isSome then 1 else 0), (47, 32, held), (1, 1, boolBit s.power.on)]

/-- TIME_STATUS (R382). -/
def State.timeWord (s : State) : Word :=
  let t := s.power.time
  let follower := decide (s.timeRole = 2)
  let lim : Int := 2 ^ 31 - 1
  putFields (s.reg 0x10418) [
    (63, 63, boolBit s.timeLocked), (59, 56, if follower then t.stratum else 0), (52, 48, if follower then t.source else 31),
    (31, 0, signedBits (max (-lim) (min lim t.theta)) 32)]

/-! Planes, lanes and light. -/

/-- PBL_SET (R264). -/
def State.planeSet (s : State) : Word :=
  let m := fun (st : PlaneState) => maskBelow 16 fun p => decide (s.plane p = st)
  putFields 0 [(47, 32, m .retired), (31, 16, m .closing), (15, 0, m .active)]

/-- PBL_PAIRs_d of the pair `24 s + d` (R268). -/
def State.pairWord (s : State) (i : Nat) : Word :=
  if i / 24 = i % 24 then 0
  else
    let m := fun (f : Nat → Bool) => maskBelow 16 fun p => f (baseLane (i / 24) (i % 24) p)
    putFields 0 [
      (47, 32, m fun k => (s.ln k).standby), (31, 16, m fun k => (s.ln k).failed),
      (15, 0, m fun k => decide (s.plane (lanePlane k) = .active) && !(s.ln k).failed)]

/-- The weakest line below its commissioning value among the paths a cartridge feeds: how far, and its index (R297). -/
def State.worstLine (s : State) (n : Nat) : Nat × Nat :=
  s.light.below.foldl (fun (best : Nat × Nat) e =>
    if s.feeder (bayOf (e.1 / 32)) = n ∧ (s.bay n).st = .serving ∧ best.1 < e.2 then (e.2, e.1 % 32) else best) (0, 0)

/-- OPT_CBn (R297). -/
def State.cartridgeWord (s : State) (n : Nat) : Word :=
  let b := s.bay n
  let w := s.worstLine n
  putFields (s.reg (0x17000 + 8 * n)) [
    (55, 48, min 255 w.1), (44, 40, w.2), (6, 6, boolBit b.latched), (4, 4, boolBit (decide (b.st ≠ .empty))), (2, 0, b.st.code)]

/-- OPT_SPARE (R299). -/
def State.spareWord (s : State) : Word :=
  let locked := match s.light.lastSwitched with
    | some b => s.light.relocked && (pathOf b).all s.ringsLocked
    | none => false
  putFields (s.reg 0x17048) [(63, 63, boolBit s.light.switching.isSome), (62, 62, boolBit locked)]

/-- The lane OPT_LANE_SEL names (R303). -/
def State.selectedLane (s : State) : Option Nat :=
  let w := s.reg 0x17070
  let a := w.field 14 10
  let b := w.field 9 5
  let c := w.field 4 0
  if bitOf w 16 then (if a < 6 ∧ b < 4 then some (extLane (4 * a + b) c) else none)
  else if a < 24 ∧ b < 24 ∧ a ≠ b ∧ c < 16 then some (baseLane a b c) else none

/-- OPT_LANE_STAT (R304). -/
def State.laneWord (s : State) : Word :=
  match s.selectedLane with
  | none => 0
  | some key =>
    let l := s.ln (rxLane key)
    let rx := s.ring (2 * key)
    let tx := s.ring (2 * key + 1)
    let line := if isExt key then extNo key else (laneDst key + 24 - laneSrc key) % 24
    let code := fun (r : Ring) => if (s.ln key).standby then 0 else r.st.code
    putFields 0 [
      (63, 61, laneClass (isExt key) l), (60, 58, code rx), (57, 55, code tx), (54, 45, signedBits rx.detune 10),
      (44, 37, min 255 (s.light.below.get 0 (lanePlaneIx key * 32 + line))), (31, 0, l.errBits)]

/-- OPT_FIBREx_f of fibre pair `4x + f` (R305). -/
def State.fibreWord (s : State) (i : Nat) : Word :=
  let far := s.farModule.get none i
  putFields (s.reg (0x17100 + 8 * i)) [
    (55, 46, far.getD 0), (45, 45, boolBit far.isSome), (44, 32, min 0x1FFF (s.pathM.get 0 i)), (29, 24, s.failedLanes (16 + i)),
    (2, 0, (s.plane (16 + i)).code)]

/-! Clocks, feeds and heat. -/

/-- CLK_POINT (R383). -/
def State.clockWord (s : State) : Word :=
  let l := s.power.ladder
  let next := match l.change with
    | some c => c.point
    | none => 0
  putFields 0 [
    (63, 63, boolBit l.change.isSome), (60, 56, next), (50, 48, l.limiter), (44, 40, s.ceiling), (36, 32, if s.jobState = 5 then pkgClockPoint s.mod.job.live else l.jobPoint.getD 15),
    (12, 8, l.target), (4, 0, l.point)]

/-- CLK_EPOCH (R383). -/
def State.epochWord (s : State) : Word :=
  BitVec.ofNat 64 (match s.power.ladder.change with
    | some c => c.epoch
    | none => s.power.ladder.lastEpoch)

/-- FEED_LIMIT (R385). -/
def State.limitWord (s : State) : Word :=
  putFields 0 [(63, 48, s.pEff), (47, 32, s.iEff), (31, 16, s.iBase), (5, 0, s.power.thermal.steps)]

/-- FEED_VCORE_A and FEED_VCORE_B (R386). -/
def State.feedWord (s : State) (b : Bool) : Word :=
  let f := s.feed b
  let sum := s.power.feedA.amps + s.power.feedB.amps
  putFields 0 [
    (63, 61, f.st.code), (55, 48, if sum = 0 then 0 else 100 * f.amps / sum), (47, 32, f.amps), (31, 16, f.mv), (15, 8, min 255 f.fails),
    (2, 0, f.cause)]

/-- FEED_VAUX (R387). -/
def State.vauxWord (s : State) : Word :=
  putFields 0 [
    (63, 61, boolBit s.power.vauxA.failed), (60, 58, boolBit s.power.vauxB.failed), (31, 16, s.power.vauxA.mv), (15, 0, s.power.vauxB.mv)]

/-- THM_STATUS (R389). -/
def State.thermalWord (s : State) : Word :=
  let t := s.power.thermal
  putFields (s.reg 0x1A008) [
    (63, 63, boolBit t.shutdown), (60, 60, boolBit t.conservative), (59, 59, boolBit t.fast), (58, 58, boolBit (t.anyHot 1600)),
    (57, 57, boolBit t.window1), (56, 56, boolBit t.window0), (47, 39, t.hottest), (31, 16, signedBits (t.drive t.hottest) 16),
    (15, 8, min 255 s.power.queue.length)]

/-- THM_DIEt (R390). -/
def State.dieWord (s : State) (d : Nat) : Word :=
  let t := s.power.thermal
  putFields (s.reg (dieReg d)) [
    (63, 48, signedBits ((maxInt (t.validReadings d)).getD 0) 16), (47, 32, t.errMax.get 0 d), (3, 0, maskBelow 4 (t.valid d))]

/-! Security. -/

/-- SEC_STATUS (R455). -/
def State.securityWord (s : State) : Word :=
  putField (s.reg 0x1B008) 2 0 (match s.mod.start.act with
    | some a => a.state
    | none => 0)

/-- SEC_IMAGEk (R456): of the management image, the one the primary chiplet runs. -/
def State.imageWord (s : State) (k : Nat) : Word :=
  let img := s.mod.start.running.get none (if k = 1 then s.primary else k)
  let version := match img with
    | some r => r.version
    | none => 0
  putFields (s.reg (secImage k)) [
    (63, 32, version), (11, 10, (s.flashBank (slotOf k 1)).st), (9, 8, (s.flashBank (slotOf k 0)).st),
    (1, 1, boolBit (s.mod.start.fallback.get false k))]

/-- SEC_OTS_C0 and SEC_OTS_C1 (R457). -/
def State.otsWord (s : State) (c1 : Bool) : Word :=
  let o := s.ots c1
  putFields 0 [(63, 56, o.generation), (44, 34, o.reserved - o.next), (29, 0, o.next)]

/-! Vaults and memory ports. -/

/-- VLT_STATUS (R342). -/
def State.vaultWord' (s : State) (t : Nat) : Word :=
  let v := s.vault t
  putFields (s.reg (endBlock t + 8)) [
    (63, 54, (v.bonds.filter fun g => g.2.retired).length), (47, 28, s.vaultSets t), (16, 8, v.fills.length)]

/-- VLT_BOND_STAT of the group VLT_BOND_SEL names (R345). -/
def State.bondWord (s : State) (t : Nat) : Word :=
  let g := (s.vault t).bonds.get BondGroup.intact (s.field (endBlock t + 0x20) 8 0)
  let mark := fun (i : Nat) => (g.marks.map fun m => m.1)[i]?
  putFields 0 [
    (63, 62, if g.retired then 2 else if 0 < g.spares then 1 else 0), (51, 48, g.spares), (41, 41, boolBit (mark 1).isSome),
    (40, 32, (mark 1).getD 0), (9, 9, boolBit (mark 0).isSome), (8, 0, (mark 0).getD 0)]

/-- MEM_PORT_STATUS of port `m` (R337). -/
def State.portWord (s : State) (m : Nat) : Word :=
  let count := fun (st : ChanState) => ((List.range 36).filter fun c => decide ((s.chan (36 * m + c)).st = st)).length
  putFields (s.reg (endBlock (8 + m))) [
    (63, 63, boolBit (decide (count .untrained = 0))), (55, 48, count .failed), (47, 40, count .marked),
    (7, 0, (s.endp (8 + m)).combine.length)]

/-- The pin with the most corrections in the present second, the lowest of equals (R338). -/
def State.suspect (s : State) (c : Nat) : Option Nat :=
  let x := s.chan c
  if x.secondStart ≠ s.now / 1000000000 then none
  else
    (x.pinCounts.foldl (fun (best : Option (Nat × Nat)) e =>
      match best with
      | none => if e.2 = 0 then none else some e
      | some b => if b.2 < e.2 then some e else some b) none).map fun b => b.1

/-- MEM_CHc (R338). -/
def State.channelWord (s : State) (c : Nat) : Word :=
  let p := s.suspect c
  putFields (s.reg (memChReg c)) [(63, 61, (s.chan c).st.code), (44, 44, boolBit p.isSome), (43, 40, p.getD 0)]

/-- MEM_SLOTc_i (R339). -/
def State.slotWord (s : State) (c i : Nat) : Word :=
  BitVec.ofNat 64 (ofBytes ((List.range 8).map fun j => BitVec.ofNat 8 (s.slotOwner c (8 * i + j))))

/-! Cores. -/

/-- SLEEP of CORE_STATUS (R73). -/
def State.sleepCode (s : State) (k : CoreId) : Nat :=
  if s.coreAsleep k then 3
  else match (s.core k).sleep with
    | .awake => if (s.core k).idle then 1 else 0
    | _ => 2

/-- CORE_STATUS (R73). -/
def State.coreWord (s : State) (k : CoreId) : Word :=
  putFields 0 ((25, 24, s.sleepCode k) :: threadNos.map fun t => (3 * t.val + 2, 3 * t.val, ((s.core k).th t).st.code))

/-- CORE_THREADn (R79). -/
def State.threadWord (s : State) (k : CoreId) (t : Fin 8) : Word :=
  let th := (s.core k).th t
  putFields 0 [(34, 32, th.st.code), (28, 24, s.tracking (k.tower.val * 2048 + k.core.val * 8 + t.val)), (12, 0, th.pc.toNat)]

/-- CORE_CTRL, its STOP bits live (R72). -/
def State.coreCtrlWord (s : State) (k : CoreId) : Word :=
  putField (s.reg (coreBlock k + 8)) 7 0 (threadMask fun t => decide (((s.core k).th t).st = .stopped))

/-! Reading. -/

/-- The core whose block holds an offset. -/
def coreAtOff (off : Nat) : CoreId :=
  ⟨⟨(off - 0x100000) / 0x20000 % 8, Nat.mod_lt _ (by decide)⟩, ⟨off / 0x100 % 256, Nat.mod_lt _ (by decide)⟩⟩

/-- The endpoint whose block holds an offset. -/
def endAtOff (off : Nat) : Nat := (off - 0x100000) / 0x20000

/-- What a register reads as. -/
def State.live (s : State) (r : Reg) (off : Nat) : Word :=
  let w := s.reg off
  let e := endAtOff off
  let k := coreAtOff off
  match r with
  | .modId => putFields w [(47, 32, if s.part1920 then 0x780 else 0x800), (31, 24, s.stepping)]
  | .modLink => s.linkWord
  | .modPartner => s.partnerWord
  | .modStart => s.startWord
  | .modReset => putField w 63 63 (boolBit s.resetBusy)
  | .modReplay => putField w 63 63 (boolBit s.mod.replay.isSome)
  | .modPairStatus => s.pairStatus
  | .modCkptStatus => putFields w [(63, 63, boolBit s.mod.ckpt.running.isSome), (55, 48, s.mod.ckpt.lastMs), (31, 0, s.ckptDone)]
  | .modPlatform => s.platformWord
  | .timeNow => BitVec.ofNat 64 s.now
  | .timeStatus => s.timeWord
  | .jobCtrl => putFields 0 [
      (1, 1, boolBit (decide (s.jobState = 5))), (0, 0, boolBit (decide (1 ≤ s.jobState) && decide (s.jobState ≤ 3)))]
  | .jobExpertCmd => putField 0 63 63 (boolBit (decide (s.mod.job.moves ≠ [])))
  | .pblSet => s.planeSet
  | .pblEpochStatus => putField w 63 63 (boolBit s.epoch.isSome)
  | .pblPlane =>
    let p := (off - 0x14100) / 8
    putFields w [(41, 32, s.failedLanes p), (2, 0, (s.plane p).code)]
  | .pblPair => s.pairWord ((off - 0x15000) / 8)
  | .optCb => s.cartridgeWord ((off - 0x17000) / 8)
  | .optSpare => s.spareWord
  | .optCal => putFields w [(63, 63, boolBit s.light.calBusy.isSome), (55, 48, s.light.calNext)]
  | .optFepochStatus => putField w 63 63 (boolBit s.fepoch.isSome)
  | .optLaneStat => s.laneWord
  | .optFibre => s.fibreWord ((off - 0x17100) / 8)
  | .clkPoint => s.clockWord
  | .clkEpoch => s.epochWord
  | .feedLimit => s.limitWord
  | .feedVcore => s.feedWord (decide (off = 0x19018))
  | .feedVaux => s.vauxWord
  | .thmStatus => s.thermalWord
  | .clkTowerStatus => if bitOf w 32 then putField w 15 0 0xFFFF else w
  | .thmDie => s.dieWord ((off - 0x1A100) / 8)
  | .secStatus => s.securityWord
  | .secImage => s.imageWord ((off - 0x1B010) / 8 + 1)
  | .secOts => s.otsWord (decide (off = 0x1B038))
  | .dmpStatus => putField w 63 63 (boolBit s.mod.engine.shadow.isSome)
  | .vltStatus => s.vaultWord' e
  | .vltBondStat => s.bondWord e
  | .coreId => putFields 0 [(31, 31, 1), (23, 16, k.core.val), (12, 8, k.tower.val)]
  | .coreCtrl => s.coreCtrlWord k
  | .coreStatus => s.coreWord k
  | .coreThread => s.threadWord k ⟨off % 0x40 / 8, by omega⟩
  | .memPortStatus => s.portWord (e - 8)
  | .memCh => s.channelWord (36 * (e - 8) + off % 0x20000 / 8 - 32)
  | .memSlot => s.slotWord (36 * (e - 8) + (off % 0x20000 - 0x1000) / 64) (off % 64 / 8)
  | .pmcEpStall => w + BitVec.ofNat 64 ((s.openStalls.filter fun x => decide (x.1 = off)).map fun x => x.2).sum
  | .pmcEpQueue => putField w 15 0 (s.pairDepth e (off % 0x20000 / 8 - 0x980))
  | _ => w

/-- Does an offset lie in a core's block? -/
def inCoreBlock (off : Nat) : Bool := decide (0x100000 ≤ off) && decide (off < 0x200000) && decide (0x10000 ≤ off % 0x20000)

/-- A register of the module, as every path reads it; 0 where nothing is assigned, in the block of an absent core, and, but for SLEEP,
in the block of a core asleep (R70, R73, R405). -/
def State.readReg (s : State) (off : Nat) : Word :=
  match Reg.at? off with
  | none => 0
  | some r =>
    if inCoreBlock off then
      if s.absent (coreAtOff off) then 0
      else if s.coreAsleep (coreAtOff off) then (if r = .coreStatus then putField 0 25 24 3 else 0)
      else s.live r off
    else s.live r off

/-- Does control chiplet C1 serve a path? The management port is served by the chiplet that holds the primary role (R421). -/
def State.servedByC1 (s : State) : Port → Bool
  | .hostA => false
  | .window0 => false
  | .hostB => true
  | .window1 => true
  | .management => s.mod.start.primary1

/-- A word of the health window as a chiplet serves it (R413 to R415). -/
def State.windowWord (s : State) (c1 : Bool) (off : Nat) : Word :=
  let w := s.mod.ports.window.get 0 (off / 8)
  if off / 8 = 0 then putField w 28 28 (boolBit c1) else w

/-- The MSI-X pending bits of a host port (R405). -/
def State.pendingBits (s : State) (port : Nat) : Word :=
  BitVec.ofNat 64 (maskBelow 4 fun v => s.mod.ports.msixPending.get false (4 * port + v))

/-- The 64-bit word at an aligned MRS offset, as a path reads it (R405). -/
def State.readWord (s : State) (p : Port) (off : Nat) : Word :=
  if off < 0x1000 then s.windowWord (s.servedByC1 p) off
  else if Port.isHost p ∧ 0xF000 ≤ off ∧ off < 0xF040 then s.mod.ports.msix.get 0 (8 * Port.path p + (off - 0xF000) / 8)
  else if Port.isHost p ∧ off = 0xF800 then s.pendingBits (Port.path p)
  else s.readReg off

/-! Reads clear RC fields and keep the latch (R19, R20). -/

/-- RC fields of a register cleared where `sel` names them. -/
def State.clearRc (s : State) (off : Nat) (sel : Field → Bool) : State :=
  match Reg.at? off with
  | none => s
  | some r => s.setReg off (s.reg off &&& ~~~ r.mask fun f => decide (f.acc = .rc) && sel f)

/-- May a read change a register: one of a core that is there and awake? -/
def State.readable (s : State) (off : Nat) : Bool :=
  !inCoreBlock off || (!s.absent (coreAtOff off) && !s.coreAsleep (coreAtOff off))

/-- A 64-bit read: it clears every RC field and ends the path's latch of the register. -/
def State.readFull (s : State) (p : Port) (off : Nat) : State × Word :=
  let v := s.readWord p off
  let s := if s.readable off then s.clearRc off fun _ => true else s
  (s.endLatch p off, v)

/-- A read of bits [31:0]: it latches bits [63:32] for the path and clears the RC fields of the low half. -/
def State.readLow (s : State) (p : Port) (off : Nat) : State × Lane :=
  let v := s.readWord p off
  let s := if s.readable off then s.clearRc off fun f => decide (f.hi < 32) else s
  (s.setLatch p off (some (off, v.extractLsb' 32 32)), v.extractLsb' 0 32)

/-- A field reduced by what a latched half returned: a count by its value; the OVER_BUDGET bits of CLK_TOWER_STATUS, which are single
events, by the bits returned as 1 (R19). -/
def reduceField (r : Reg) (w : Word) (f : Field) (got : Nat) : Word :=
  if r = .clkTowerStatus then putField w f.hi f.lo (w.field f.hi f.lo &&& (2 ^ (f.hi + 1 - f.lo) - 1 - got))
  else putField w f.hi f.lo (w.field f.hi f.lo - got)

/-- A read of bits [63:32]: the latched half, which reduces the RC fields of the half, or the live one, which clears them. -/
def State.readHigh (s : State) (p : Port) (off : Nat) : State × Lane :=
  let live := (s.readWord p off).extractLsb' 32 32
  let latched := match s.latchOf p off with
    | some (o, v) => if o = off then some v else none
    | none => none
  match latched with
  | none => (if s.readable off then s.clearRc off fun f => decide (32 ≤ f.lo) else s, live)
  | some v =>
    let s := s.setLatch p off none
    match Reg.at? off with
    | none => (s, v)
    | some r =>
      if !s.readable off then (s, v)
      else
        let pair : Word := BitVec.ofNat 64 (v.toNat * 2 ^ 32)
        let fs := r.fields.filter fun f => decide (f.acc = .rc) && decide (32 ≤ f.lo)
        (s.setReg off (fs.foldl (fun w f => reduceField r w f (pair.field f.hi f.lo)) (s.reg off)), v)

end Sys2Proof.Machine
end

