-- ==== Sys2Proof/Machine/Regs.lean ====
section
/-!
DEFINITION. Writes to the module register space by path and access code (R18 to R23, R392 to R395, R405), the behaviour of the registers
that have one, and the commands that access registers.
-/
namespace Sys2Proof

/-- The bits an access covers (R18). -/
def Part.mask : Part → Word
  | .full => BitVec.allOnes 64
  | .low => 0x00000000FFFFFFFF
  | .high => 0xFFFFFFFF00000000

/-- The bits a write carries, in their places: a half takes the low 32 bits of the value. -/
def Part.place (p : Part) (value : Word) : Word :=
  match p with
  | .full => value
  | .low => value &&& 0xFFFFFFFF
  | .high => value <<< 32

def Part.hasLow (p : Part) : Bool := decide (p ≠ .high)
def Part.hasHigh (p : Part) : Bool := decide (p ≠ .low)

end Sys2Proof

namespace Sys2Proof.Machine
open Sys2Proof

/-! Who may write (R392 to R394). -/

/-- May a path write a register? The processors of the primary chiplet alone write PBL_ and OPT_ (R262, R296). -/
def State.mayWrite (s : State) (p : Port) (r : Reg) (off : Nat) : Bool :=
  match p with
  | .hostA => r.place.host
  | .hostB => r.place.host
  | .management => r.place.mgmt
  | .window0 => r.place.proc && !(s.mod.start.primary1 && decide (0x14000 ≤ off) && decide (off < 0x18000))
  | .window1 => r.place.proc && (s.mod.start.primary1 || !(decide (0x14000 ≤ off) && decide (off < 0x18000)))

/-! Writes by access code (R20, R23). -/

/-- The kept RW fields of a register that a write covers. -/
def keptFields (r : Reg) (part : Part) : List Field :=
  r.fields.filter fun f => f.kept && decide (f.acc = .rw) && decide (bitsMask f.hi f.lo &&& part.mask ≠ 0)

/-- A write as the access codes give it: RW bits take the value, W1C bits written as 1 clear, kept fields go through the write window. -/
def State.writeFields (s : State) (r : Reg) (off : Nat) (part : Part) (w : Word) : State :=
  let rw := r.mask (fun f => decide (f.acc = .rw) && !f.kept) &&& part.mask
  let w1c := r.mask (fun f => decide (f.acc = .w1c)) &&& part.mask &&& w
  let old := s.reg off
  let s := s.setReg off (((old &&& ~~~rw) ||| (w &&& rw)) &&& ~~~w1c)
  let merged := (old &&& ~~~part.mask) ||| (w &&& part.mask)
  (keptFields r part).foldl (fun s f => s.setKept off f.hi f.lo (merged.field f.hi f.lo)) s

/-- Elvef status of a write: 0x06 where a kept field it covers waits for its window (R424). -/
def State.writeStatus (s : State) (r : Reg) (off : Nat) (part : Part) : Nat :=
  s.keptStatus ((keptFields r part).map fun f => .field off f.hi f.lo)

/-! Registers with behaviour of their own. -/

/-- The chiplet whose host access streams a path uses: C1's for port B and for the processors of C1 (R399). -/
def Port.onC1 : Port → Bool
  | .hostB => true
  | .window1 => true
  | _ => false

/-- Does an address name an 8-byte word of a scratchpad of this module (R409)? -/
def State.bellTarget (s : State) (a : Word) : Bool :=
  decide (a ≠ 0) && decide (gaModule a = s.moduleId) && decide (gaOffset a % 8 = 0) &&
  (match s.rangeOf (gaEndpoint a) (gaOffset a) with
   | some (.spad _ _ _, _) => true
   | _ => false)

/-- A write of VALUE_HI of doorbell `n`: the store leaves from the stream of the port, or DENIED rises (R399, R409). -/
def State.ringBell (s : State) (p : Port) (n : Nat) (hi : Nat) : State :=
  let a := s.reg (0x11100 + 16 * n)
  if s.bellTarget a then
    let ctx := (if Port.onC1 p then 23 else 22) * 2048 + 0x7F * 8 + n % 8
    let v : Word := BitVec.ofNat 64 (hi % 2 ^ 32 * 2 ^ 32 + (s.mod.ports.lows.get 0 n).toNat)
    s.enterOp ctx { id := 0, thread := n % 8, pc := 0, kind := .bell, unsent := [onePiece 0x02 3 a 8 v 0 true], flights := [],
                    failure := none, value := none, bytes := [], spills := none }
  else s.denied

/-- A write of VALUE_LO is held (R409). -/
def State.setLow (s : State) (n lo : Nat) : State := s.modPorts fun p => { p with lows := p.lows.set 0 n (BitVec.ofNat 32 lo) }

/-- MOD_HDB_RINGn by parts: a 64-bit write sends both halves as written. -/
def State.bellWrite (s : State) (p : Port) (n : Nat) (part : Part) (w : Word) : State :=
  let s := if part.hasLow then s.setLow n (w.field 31 0) else s
  if part.hasHigh then s.ringBell p n (w.field 63 32) else s

/-- Entries of the host command ring (R411). -/
def State.ringSize (s : State) : Nat := 2 ^ max 4 (min 12 (s.field 0x11008 3 0))

/-- MOD_HCMD_CTRL: SIZE stands while EN is 1, and EN rising sets HEAD to 0 (R411). A write that would change SIZE while EN is 1 counts as
DENIED. -/
def State.hcmdCtrl (s : State) (w : Word) : State :=
  let en := bitOf (s.reg 0x11008) 4
  let s := if en then (if w.field 3 0 = s.field 0x11008 3 0 then s else s.denied) else s.setField 0x11008 3 0 (w.field 3 0)
  let s := if bitOf w 4 && !en then s.setField 0x11018 11 0 0 else s
  s.setField 0x11008 4 4 (boolBit (bitOf w 4))

/-- MOD_HCMD_TAIL: a value of 2^SIZE or more is ignored and counted (R411). -/
def State.hcmdTail (s : State) (v : Nat) : State := if v < s.ringSize then s.setField 0x11010 11 0 v else s.denied

/-- MOD_HCMD_BASE: ignored and counted while EN is 1 (R411). -/
def State.hcmdBase (s : State) (part : Part) (w : Word) : State :=
  if bitOf (s.reg 0x11008) 4 then s.denied else s.writeFields .modHcmdBase 0x11000 part w

/-- MOD_ID.MODULE changes in IDLE only (R407). -/
def State.writeModId (s : State) (part : Part) (w : Word) : State × Nat :=
  if !part.hasHigh then (s, 0)
  else if s.jobState ≠ 0 then (s.denied, 5)
  else (s.writeFields .modId 0x10000 part w, s.writeStatus .modId 0x10000 part)

/-- MOD_START: GO beside the kept fields (R437). -/
def State.writeStart (s : State) (p : Port) (part : Part) (w : Word) : State :=
  let s := s.writeFields .modStart 0x10040 part w
  if part.hasHigh && bitOf w 63 then s.go p else s

/-- MOD_RESET (R491). -/
def State.writeReset (s : State) (part : Part) (w : Word) : State :=
  let s := s.writeFields .modReset 0x10048 part w
  if part.hasLow then s.resetWrite (w.field 18 16) (w.field 15 0) else s

/-- MOD_REPLAY: only a 64-bit write acts (R493). -/
def State.writeReplay (s : State) (part : Part) (w : Word) : State :=
  if part ≠ .full then s.denied
  else
    let k := coreIdOf (w.field 33 31 * 256 + w.field 30 23)
    (s.writeFields .modReplay 0x10058 .full w).replayWrite (!bitOf w 34) k ⟨w.field 22 20 % 8, Nat.mod_lt _ (by decide)⟩
      (BitVec.ofNat 13 (w.field 12 0)) (w.field 50 35)

/-- MOD_CKPT_CTRL: CMD beside the kept fields (R496). -/
def State.writeCkpt (s : State) (part : Part) (w : Word) : State :=
  let s := s.writeFields .modCkptCtrl 0x10078 part w
  if !part.hasLow then s
  else if w.field 2 1 = 1 then s.ckptRestore
  else if w.field 2 1 = 2 then s.ckptInvalidate
  else s

/-- JOB_CTRL (R230). -/
def State.writeJobCtrl (s : State) (p : Port) (part : Part) (w : Word) : State :=
  if !part.hasLow then s
  else
    let s := if bitOf w 0 then s.jobEnable p else s
    if bitOf w 1 then s.jobEnd p else s

/-- JOB_EXPERT_CMD: only a 64-bit write acts (R236). -/
def State.writeExpert (s : State) (p : Port) (part : Part) (w : Word) : State :=
  if part ≠ .full then s.denied else s.expertCmd p (w.field 57 56) (w.field 31 0)

/-- OPT_CBn: FADING cleared by software is no longer in the order of R287. -/
def State.writeCartridge (s : State) (off : Nat) (part : Part) (w : Word) : State :=
  let s := s.writeFields .optCb off part w
  if part.hasLow && bitOf w 5 then
    { s with light := { s.light with fading := s.light.fading.filter fun n => decide (n ≠ (off - 0x17000) / 8) } }
  else s

/-- OPT_CB_CMD (R298). -/
def State.writeCbCmd (s : State) (part : Part) (w : Word) : State :=
  if part.hasLow then s.cbCommand (w.field 5 3) (w.field 2 0) (w.field 11 8) else s

/-- OPT_SPARE: a write of the low half writes TARGET, which starts a switch (R275, R299). -/
def State.writeSpare (s : State) (part : Part) (w : Word) : State :=
  let s := if part.hasHigh && bitOf w 61 then s.setField 0x17048 61 61 0 else s
  if part.hasLow then (s.setField 0x17048 4 4 (boolBit (bitOf w 4))).spareSwitch (w.field 3 0) else s

/-- PBL_EPOCH_CMD and OPT_FEPOCH_CMD (R265, R301). -/
def State.writeEpochCmd (s : State) (fibre : Bool) (part : Part) (w : Word) : State :=
  if !part.hasLow then s
  else if fibre then s.epochWrite true (w.field 25 24) (w.field 23 0)
  else s.epochWrite false (w.field 17 16) (w.field 15 0)

/-- FEED_CTRL: UNLATCH beside the sustained limit (R385). -/
def State.writeFeed (s : State) (part : Part) (w : Word) : State :=
  let s := s.writeFields .feedCtrl 0x19000 part w
  let s := if part.hasLow && bitOf w 0 then s.unlatch false else s
  if part.hasLow && bitOf w 1 then s.unlatch true else s

/-- THM_CTRL: a write of INLET sets INLET_VALID (R388). -/
def State.writeThermal (s : State) (part : Part) (w : Word) : State :=
  let s := if part.hasLow then s.setField 0x1A000 0 0 (w.field 0 0) else s
  if part.hasHigh then s.setInlet (w.field 39 32) else s

/-- SEC_CTRL: a host port writes STAGE_DIS, the management port ACT_DIS, the processors both (R394, R453, R454). -/
def State.writeSecurity (s : State) (p : Port) (part : Part) (w : Word) : State × Nat :=
  if !part.hasLow then (s, 0)
  else
    let stage := decide (p ≠ .management)
    let act := !Port.isHost p
    let st := s.keptStatus ((if stage then [.field 0x1B000 0 0] else []) ++ if act then [.field 0x1B000 8 8] else [])
    let s := if stage then s.setKept 0x1B000 0 0 (w.field 0 0) else s
    (if act then s.setKept 0x1B000 8 8 (w.field 8 8) else s, st)

/-- DMP_CTRL by parts. -/
def State.writeDump (s : State) (part : Part) (w : Word) : State :=
  s.dumpCtrl ((s.reg 0x1C000 &&& ~~~part.mask) ||| (w &&& part.mask))

/-- DMP_RING_BASE and DMP_RING_SLOTS stand while dumps run (R518). -/
def State.writeRing (s : State) (r : Reg) (off : Nat) (part : Part) (w : Word) : State :=
  if bitOf (s.reg 0x1C000) 0 then s.dumpIgnored else s.writeFields r off part w

/-- VLT_CTRL.INVALIDATE (R341). -/
def State.writeVault' (s : State) (off : Nat) (part : Part) (w : Word) : State :=
  if part.hasLow && bitOf w 0 then s.setField off 0 0 1 else s

/-- CLK_TOWER_CTRL: each request bit that changes asks for sleep or for a wake (R362, R384). -/
def State.writeTower (s : State) (t : Fin 8) (part : Part) (w : Word) : State :=
  if !part.hasLow then s
  else
    let s := (List.range 16).foldl (fun (s : State) r =>
      let old := bitOf (s.reg (towerCtrl t)) r
      if bitOf w r && !old then s.rowSleep t r else if !bitOf w r && old then s.rowWake t r else s) s
    let old := bitOf (s.reg (towerCtrl t)) 16
    if bitOf w 16 && !old then s.towerDeep t else if !bitOf w 16 && old then s.deepWake t else s

/-- CORE_CTRL: STOP beside the nap fields (R72). -/
def State.writeCore (s : State) (off : Nat) (part : Part) (w : Word) : State :=
  let s := s.writeFields .coreCtrl off part w
  if part.hasLow then s.stopThreads (coreAtOff off) (w.extractLsb' 0 8) else s

/-- MEM_CHc: the pin mark (R338). -/
def State.writeMark (s : State) (off : Nat) (part : Part) (w : Word) : State :=
  if part.hasHigh then s.markWrite (36 * (endAtOff off - 8) + off % 0x20000 / 8 - 32) (bitOf w 52) (w.field 51 48) else s

/-- A permitted write: the register's own behaviour, or its access codes; with the Elvef status. -/
def State.apply (s : State) (p : Port) (r : Reg) (off : Nat) (part : Part) (w : Word) : State × Nat :=
  let st := s.writeStatus r off part
  match r with
  | .modId => s.writeModId part w
  | .modStart => (s.writeStart p part w, st)
  | .modReset => (s.writeReset part w, 0)
  | .modReplay => (s.writeReplay part w, 0)
  | .modCkptCtrl => (s.writeCkpt part w, st)
  | .timeSet => (if part = .full then s.timeSet w else s.denied, 0)
  | .jobCtrl => (s.writeJobCtrl p part w, 0)
  | .jobExpertCmd => (s.writeExpert p part w, 0)
  | .modHcmdBase => (s.hcmdBase part w, 0)
  | .modHcmdCtrl => (if part.hasLow then s.hcmdCtrl w else s, 0)
  | .modHcmdTail => (if part.hasLow then s.hcmdTail (w.field 11 0) else s, 0)
  | .modHdbRing => (s.bellWrite p ((off - 0x11108) / 16) part w, 0)
  | .pblEpochCmd => (s.writeEpochCmd false part w, 0)
  | .optFepochCmd => (s.writeEpochCmd true part w, 0)
  | .optCb => (s.writeCartridge off part w, 0)
  | .optCbCmd => (s.writeCbCmd part w, 0)
  | .optSpare => (s.writeSpare part w, 0)
  | .feedCtrl => (s.writeFeed part w, st)
  | .thmCtrl => (s.writeThermal part w, 0)
  | .secCtrl => s.writeSecurity p part w
  | .dmpCtrl => (s.writeDump part w, 0)
  | .dmpRingBase => (s.writeRing r off part w, 0)
  | .dmpRingSlots => (s.writeRing r off part w, 0)
  | .vltCtrl => (s.writeVault' off part w, 0)
  | .clkTowerCtrl => (s.writeTower (coreAtOff off).tower part w, 0)
  | .coreCtrl => (s.writeCore off part w, 0)
  | .memCh => (s.writeMark off part w, st)
  | _ => (s.writeFields r off part w, st)

/-! The MSI-X tables (R405, R406). -/

/-- A write to the MSI-X table of a host port; a vector unmasked with its pending bit set is sent. -/
def State.writeMsix (s : State) (port i : Nat) (part : Part) (w : Word) : State :=
  s.modPorts fun p =>
    let key := 8 * port + i
    let new := (p.msix.get 0 key &&& ~~~part.mask) ||| (w &&& part.mask)
    let v := 4 * port + i / 2
    let p := { p with msix := p.msix.set 0 key new }
    if i % 2 = 1 && !bitOf new 32 && p.msixPending.get false v then
      { p with msixPending := p.msixPending.set false v false, msixSent := p.msixSent.modify 0 v (· + 1) }
    else p

/-! A write by a path. -/

/-- What a refused write does beyond nothing: on a host port DENIED rises (R393); ENABLE by another path is row 0x52 of R222 (R229). -/
def State.refuseWrite (s : State) (p : Port) (r : Reg) (part : Part) (w : Word) : State :=
  if Port.isHost p then s.denied
  else if r = .jobCtrl ∧ part.hasLow ∧ bitOf w 0 then s.jobEnable p
  else s

/-- A write of an MRS register, or of a half of one, by a path; with the Elvef status it has (R18 to R23, R392 to R394, R405, R424). -/
def State.writeReg (s : State) (p : Port) (off : Nat) (part : Part) (value : Word) : State × Nat :=
  let w := part.place value
  let s := s.endLatch p off
  if off < 0x1000 then (if Port.isHost p then (s.denied, 3) else (s, 3))
  else if Port.isHost p ∧ 0xF000 ≤ off ∧ off < 0xF040 then (s.writeMsix (Port.path p) ((off - 0xF000) / 8) part w, 0)
  else match Reg.at? off with
    | none => (s, 0)
    | some r =>
      if !s.mayWrite p r off then (s.refuseWrite p r part w, 3)
      else if !s.readable off then (s, 0)
      else s.apply p r off part w

/-! Commands. -/

/-- Offsets of registers are multiples of 8 (R18). -/
def aligned8 (off : BitVec 24) : Bool := decide (off.toNat % 8 = 0)

/-- What the last read of a path returned. -/
def State.answer (s : State) (p : Port) (v : Word) : State :=
  s.modPorts fun x => { x with answers := x.answers.set none (Port.path p) (some v) }

/-- An access that is narrower than 32 bits or not aligned has no effect but to be counted; a read of it returns 0 (R18, R420). -/
def State.badAccess (s : State) (p : Port) (read : Bool) : State :=
  let s := s.count 0x1000 63 48 1
  if read then s.answer p 0 else s

/-- A write to a register, 64 bits or one half (R18, R20). -/
def execRegisterWrite (p : Port) (off : BitVec 24) (part : Part) (value : Word) (s : State) : Host.Outcome State Fault Refusal :=
  if aligned8 off then .next (s.writeReg p off.toNat part value).1 else .next (s.badAccess p false)

/-- A 64-bit read (R19, R20). -/
def execRegisterReadClear (p : Port) (off : BitVec 24) (s : State) : Host.Outcome State Fault Refusal :=
  if aligned8 off then
    let (s, v) := s.readFull p off.toNat
    .next (s.answer p v)
  else .next (s.badAccess p true)

/-- A 32-bit read of bits [31:0] (R19). -/
def execRegReadLowHalf (p : Port) (off : BitVec 24) (s : State) : Host.Outcome State Fault Refusal :=
  if aligned8 off then
    let (s, v) := s.readLow p off.toNat
    .next (s.answer p (v.setWidth 64))
  else .next (s.badAccess p true)

/-- A 32-bit read of bits [63:32] (R19). -/
def execRegReadHighHalf (p : Port) (off : BitVec 24) (s : State) : Host.Outcome State Fault Refusal :=
  if aligned8 off then
    let (s, v) := s.readHigh p off.toNat
    .next (s.answer p (v.setWidth 64))
  else .next (s.badAccess p true)

/-- An access narrower than 32 bits or unaligned: a read returns 0, and the access is counted (R18, R420). -/
def execRegAccessNarrow (p : Port) (read : Bool) (s : State) : Host.Outcome State Fault Refusal := .next (s.badAccess p read)

/-- A write of MOD_ID.MODULE (R407). -/
def execModIdWrite (p : Port) (module : BitVec 10) (s : State) : Host.Outcome State Fault Refusal :=
  .next (s.writeReg p 0x10000 .full (BitVec.ofNat 64 (module.toNat * 2 ^ 54))).1

/-- A write of VALUE_LO by a host port or the processors (R409). -/
def execHostDoorbellValueLo (p : Port) (n : Fin 64) (value : BitVec 32) (s : State) : Host.Outcome State Fault Refusal :=
  .next (s.writeReg p (0x11108 + 16 * n.val) .low (value.setWidth 64)).1

/-- A write of VALUE_HI (R409). -/
def execHostDoorbellRing (p : Port) (n : Fin 64) (value : BitVec 32) (s : State) : Host.Outcome State Fault Refusal :=
  .next (s.writeReg p (0x11108 + 16 * n.val) .high (value.setWidth 64)).1

/-- MOD_HCMD_CTRL written with EN = 1 (R411). -/
def execHcmdEnable (p : Port) (size : BitVec 4) (s : State) : Host.Outcome State Fault Refusal :=
  .next (s.writeReg p 0x11008 .full (BitVec.ofNat 64 (16 + size.toNat))).1

/-- MOD_HCMD_CTRL written with EN = 0 (R411). -/
def execHcmdDisable (p : Port) (size : BitVec 4) (s : State) : Host.Outcome State Fault Refusal :=
  .next (s.writeReg p 0x11008 .full (BitVec.ofNat 64 size.toNat)).1

/-- MOD_HCMD_TAIL written (R411). -/
def execHcmdTailWrite (p : Port) (tail : BitVec 12) (s : State) : Host.Outcome State Fault Refusal :=
  .next (s.writeReg p 0x11010 .full (tail.setWidth 64)).1

end Sys2Proof.Machine
end

