-- ==== Sys2Proof/Machine/Retry.lean ====
section
/-!
DEFINITION. Re-sends and bounds of the packets that a requester has sent (R182, R186, R189, R327).
-/
namespace Sys2Proof.Machine
open Sys2Proof

/-! Re-sending and bounds (R182, R186). -/

/-- Does a packet stay inside its endpoint (R185)? -/
def State.stays (s : State) (ctx dest : Nat) : Bool := decide (dest = s.moduleId * 32 + ctx / 2048)

/-- The re-send interval (R182). -/
def State.resendAfter (s : State) (dest : Nat) : Nat := if dest / 32 = s.moduleId then 2000 else 20000

/-- May the packet be sent again: unanswered, fewer than three re-sends, and neither the end of its interval nor the present moment at
its bound or past it (R182)? -/
def State.resends (s : State) (ctx : Nat) (f : Flight) : Bool :=
  f.open && decide (f.reading = 0) && decide (f.tries < 3) && !s.stays ctx f.dest &&
  decide (max s.now (f.lastSent + s.resendAfter f.dest) < f.firstSent + f.bound)

/-- A packet unanswered within its interval is sent again with TRY one higher and its first SEQ (R181, R182). -/
def execResendIntervalExpired (ctx : BitVec 16) (dest seq : Nat) (s : State) : Host.Outcome State Fault Refusal :=
  let c := ctx.toNat
  match s.flightOf c dest seq with
  | some (o, f) =>
    if s.resends c f then
      let s := s.reach (f.lastSent + s.resendAfter dest)
      let again := fun (n : Nat) => s.modFlight c o.id dest seq
        (fun f => { f with tries := f.tries + 1, lastSent := s.now, reading := n, source := [] }) fun o => o
      (match towerCtx c with
       | some x =>
         if fromSpad c f.piece then .next ((again f.piece.units).readSource x o.id seq dest f.piece)
         else .next ((again 0).sendPiece c dest f.piece seq (f.tries + 1) (o.pieceData f.piece))
       | none => .next ((again 0).sendPiece c dest f.piece seq (f.tries + 1) (o.pieceData f.piece)))
    else .next s
  | none =>
    match (s.vault (c / 2048)).fills.find? fun x => decide (x.ctx = c) && (match x.flight with
        | some g => decide (g.dest = dest) && decide (g.seq = seq)
        | none => false) with
    | none => .next s
    | some x => match x.flight with
      | none => .next s
      | some g =>
        if s.resends c g then
          let s := s.reach (g.lastSent + s.resendAfter dest)
          let g' := { g with tries := g.tries + 1, lastSent := s.now }
          let s := s.modVault (c / 2048) fun v => { v with fills := v.fills.map fun y => if y = x then { y with flight := some g' } else y }
          .next (((s.ctxPulse c 0x0C1).ctxPulse c 0x0C2).emit (c / 2048) (s.piecePacket c g.piece seq g'.tries []))
        else .next s

/-- A fill fails: every read that waits on it fails at that moment, as its own operation would; its entry goes to
the reads that wait for one (R327). -/
def State.failFill (s : State) (t : Nat) (x : Fill) (bound : Bool) (cause : Nat) : State :=
  let s := s.modVault t fun v => { v with fills := v.fills.erase x }
  let s := match x.flight with
    | some g => s.noteLost x.ctx g.dest g.seq
    | none => s
  x.waiting.foldl (fun s w =>
    match (s.endp t).txns.find? fun y => decide (y.id = w.1) with
    | none => s
    | some y =>
      let s := s.modEnd t fun d => { d with txns := d.txns.filter fun z => decide (z.id ≠ w.1) }
      let dest := s.moduleId * 32 + t
      match s.flightOf y.pkt.srcCtx dest y.pkt.seq with
      | none => s
      | some (o, _) => s.failFlight y.pkt.srcCtx o.id dest y.pkt.seq bound cause) s |>.nextFills t

/-- The destination by which a response that has landed at endpoint `e` names its packet (R181). -/
def State.responseDest (s : State) (e : Nat) (t : Transit) : Nat :=
  let p := t.pkt
  let inner := decide (gaEndpoint p.addr = 31) && decide (gaModule p.addr = s.moduleId) && decide (t.by' = e) && decide (e < 8)
  gaModule p.addr * 32 + if inner then e else homeOf p.addr

/-- Has the response of a packet landed at its requester's endpoint? It then wins over the packet's bound (R189, assumption 118). -/
def State.responseAtHand (s : State) (ctx dest seq : Nat) : Bool :=
  (s.endp (ctx / 2048)).landed.any fun t => t.pkt.isResponse && decide (t.pkt.srcCtx = ctx) && decide (t.pkt.seq = seq) &&
    decide (s.responseDest (ctx / 2048) t = dest)

/-- A packet's bound passes with no response (R186). A read in the cached view of the own tower has no bound of its own
(R327), and the bound of a packet runs from its first send. -/
def execPacketBoundPassed (ctx : BitVec 16) (dest seq : Nat) (s : State) : Host.Outcome State Fault Refusal :=
  let c := ctx.toNat
  match s.flightOf c dest seq with
  | some (o, f) =>
    if !f.open ∨ (f.tries = 0 ∧ 0 < f.reading) ∨ (s.stays c dest ∧ s.cachedRead c f.piece.op f.piece.far) ∨
        s.responseAtHand c dest seq then .next s
    else .next ((s.reach (f.firstSent + f.bound)).failFlight c o.id dest seq true 0)
  | none =>
    match (s.vault (c / 2048)).fills.find? fun x => decide (x.ctx = c) && (match x.flight with
        | some g => decide (g.dest = dest) && decide (g.seq = seq) && !g.answered
        | none => false) with
    | none => .next s
    | some x => match x.flight with
      | none => .next s
      | some g => .next ((s.reach (g.firstSent + g.bound)).failFill (c / 2048) x true 0)

end Sys2Proof.Machine
end

