-- ==== Sys2Proof/Machine/Arrive.lean ====
section
/-!
DEFINITION. Packets as they arrive (R166, R168, R172 to R175, R183 to R185, R189, R463, R464): windows, the performance of requests, and
responses at the requester.
-/
namespace Sys2Proof
open Machine

/-- LOAD or GET. -/
def Packet.reads (p : Packet) : Bool := decide (p.op = 1) || decide (p.op = 5)

/-- Bytes a read asks for (R169). -/
def Packet.span (p : Packet) : Nat := if p.op = 1 then p.size else p.getBytes

/-- Bytes a STORE or PUT writes (R168). -/
def Packet.payload (p : Packet) : List Byte := if p.op = 2 then bytesOf p.size p.operand.toNat else p.data

end Sys2Proof

namespace Sys2Proof.Machine
open Sys2Proof

/-! Arrival. -/

/-- A packet has drained out of an external lane's FIFO into its X-chiplet: the freed count of its class rises (R291), and the fibre's bytes
are counted (R506). -/
def State.freed (s : State) (key : Nat) (p : Packet) : State :=
  let s := s.modLane key fun l =>
    if p.isRequest then { l with freedReq := (l.freedReq + p.flits) % 4096 } else { l with freedRsp := (l.freedRsp + p.flits) % 4096 }
  s.countWrap (endBlock (laneDst key) + 0x4F08 + 16 * (extPair key % 4)) 63 0 (36 * p.flits)

/-- The external lane a packet came in on, at its X-chiplet. -/
def cameOn (e : Nat) (on : Option LaneId) : Option Nat :=
  match on with
  | some (.ext f j) => if e = 16 + f.val / 4 then some (extIn f.val j.val) else none
  | _ => none

/-- A packet that came in on an external lane and is dropped frees its flits. -/
def State.drained (s : State) (e : Nat) (p : Packet) (on : Option LaneId) : State :=
  match cameOn e on with
  | some key => s.freed key p
  | none => s

/-- The packet taken from what has landed at an endpoint, with the endpoint that sent it; one that is not there has come from outside
the lanes the model holds. -/
def State.take (s : State) (e : Nat) (p : Packet) (on : Option LaneId) : State × Transit :=
  match (s.endp e).landed.find? fun t => decide (t.pkt = p) with
  | some t => (s.modEnd e fun d => { d with landed := d.landed.erase t }, t)
  | none => (s.drained e p on, { pkt := p, by' := if p.srcModule = s.moduleId then p.srcCtx / 2048 else 16, dest := e, fibre := none })

/-! Performing a request where its address lies (R160, R172, R173, R190). -/

/-- The 32-byte units of a read: position, address, bytes. -/
def readUnits (a n : Nat) : List (Nat × Nat × Nat) :=
  (List.range ((n + 31) / 32)).map fun i => (32 * i, a + 32 * i, min 32 (n - 32 * i))

/-- Did the request stay inside its endpoint (R185)? -/
def State.within (s : State) (e : Nat) (t : Transit) : Bool := decide (t.by' = e) && decide (t.pkt.srcModule = s.moduleId)

/-- A GET of a core of the tower, whose bytes go straight to its scratchpad (R324). -/
def State.ownGet (s : State) (e : Nat) (t : Transit) : Bool := s.within e t && decide (t.pkt.op = 5) && decide (t.pkt.srcCtx < 16384)

/-- At the vault: an own core's access waits for the core's turns, one from the base for the side phase (R323, R325). -/
def State.performVault (s : State) (e a : Nat) (t : Transit) : State :=
  let p := t.pkt
  let own := s.within e t
  let acts : List (Nat × VaultAct) :=
    if p.reads then (readUnits a p.span).map fun u => (u.1, .read u.2.1 u.2.2)
    else if p.op = 3 then [(0, .atomic a)]
    else (unitsOf a p.payload).map fun u => (0, .write u.1 u.2)
  let (s, id) := s.openTxn e t (acts.length + if p.op = 3 ∧ p.fetches ∧ !own then 1 else 0) (own && s.ownGet e t)
  let reqs := acts.map fun x => (⟨id, x.1, x.2, s.now⟩ : VaultReq)
  s.modVault e fun v =>
    if own then
      let core := p.srcCtx / 8 % 256
      { v with coreReqs := v.coreReqs.set [] core (v.coreReqs.get [] core ++ reqs) }
    else
      let cls := if p.reads then 1 else 0
      { v with sideReqs := v.sideReqs.set [] cls (v.sideReqs.get [] cls ++ reqs) }

/-- In the cached view of the tower's own vault (R162, R327). -/
def State.performCached (s : State) (e : Nat) (t : Transit) : State :=
  let us := readUnits (gaOffset t.pkt.addr % 2 ^ 48) t.pkt.span
  let (s, id) := s.openTxn e t us.length (s.ownGet e t)
  us.foldl (fun s u => s.cachedUnit e (t.pkt.srcCtx / 8 % 256) id u.1 u.2.1 u.2.2) s

/-- At a scratchpad: a write or an atomic comes down the bonds and through the inbound port, a read leaves by the outbound port (R48,
R324); a core in row sleep or tower deep is not read or written (R69). -/
def State.performSpad (s : State) (e core a : Nat) (t : Transit) : State :=
  let p := t.pkt
  let k : CoreId := ⟨⟨e % 8, Nat.mod_lt _ (by decide)⟩, ⟨core % 256, Nat.mod_lt _ (by decide)⟩⟩
  if s.absent k || s.coreAsleep k then s.refuse e p 0x13
  else
    let acts : List PortAct :=
      if p.reads then (readUnits a p.span).map fun u => .read u.2.1 u.2.2 u.1
      else if p.op = 3 then [.atomic a]
      else (unitsOf a p.payload).map fun u => .write u.1 u.2
    let (s, id) := s.openTxn e t acts.length
    let us := acts.map fun x => (⟨.txn id, x⟩ : PortUnit)
    if p.reads then s.modCore k fun c => { c with outbound := c.outbound ++ us }
    else s.modVault e fun v => { v with down := v.down.set [] core (v.down.get [] core ++ us) }

/-- In the control SRAM, or by any unit that answers at once: `bytes` read, or an old value. -/
def State.performed (s : State) (e : Nat) (t : Transit) (bytes : List Byte) (old : Option Word) : State :=
  let (s, id) := s.openTxn e t 1
  s.unitDone e id 0 bytes old none

/-- At a control chiplet's SRAM. -/
def State.performSram (s : State) (e a : Nat) (t : Transit) : State :=
  let p := t.pkt
  let b := (e - 22) * 2 ^ 23 + a
  if p.reads then s.performed e t (s.csram.read b p.span) none
  else if p.op = 3 then
    let n := atomicSize p.func
    let old := s.csram.readNat b n
    { s with csram := s.csram.write b (bytesOf n (p.atomic old)) }.performed e t [] (some (BitVec.ofNat 64 old))
  else { s with csram := s.csram.write b p.payload }.performed e t [] none

/-- The path of a context of a control chiplet (R19, R163, R399). -/
def ctxPath (ctx : Nat) : Port :=
  if ctx / 2048 = 23 then (if ctx / 8 % 256 = 0x7F then .hostB else .window1) else if ctx / 8 % 256 = 0x7F then .hostA else .window0

/-- A register read by a context of a tower: no path of its own, so no latch (R163). -/
def State.readPlain (s : State) (off : Nat) : State × Word :=
  (if s.readable off then s.clearRc off fun _ => true else s, s.readReg off)

/-- At the register window (R163): 8-byte accesses, and 4-byte ones to one half. -/
def State.performWindow (s : State) (e a : Nat) (t : Transit) : State :=
  let p := t.pkt
  let off := endBlock e + a / 8 * 8
  let port := ctxPath p.srcCtx
  let part : Part := if p.size = 8 then .full else if a % 8 = 4 then .high else .low
  if p.op = 2 then (s.writeReg port off part p.operand).1.performed e t [] none
  else if p.srcCtx < 16384 then
    let (s, v) := s.readPlain off
    s.performed e t (bytesOf 8 v.toNat) none
  else match part with
    | .full =>
      let (s, v) := s.readFull port off
      s.performed e t (bytesOf 8 v.toNat) none
    | .low =>
      let (s, v) := s.readLow port off
      s.performed e t (bytesOf 4 v.toNat) none
    | .high =>
      let (s, v) := s.readHigh port off
      s.performed e t (bytesOf 4 v.toNat) none

/-- At a memory port: the request joins its owner's queue; on a failed channel it is refused (R314, R318). None: the queue is full and
the packet waits (R193, R319). -/
def State.performHashed (s : State) (e : Nat) (t : Transit) : Option State :=
  let p := t.pkt
  let off := hashedOff p
  let c := hashChannel off
  if (s.chan c).st = .failed then some (s.refuse e p 0x14)
  else if s.queueFull e c (ownerOf p t.by') then none
  else if p.reads then some (s.acceptRead e t p.span)
  else if p.op = 3 then some (s.acceptAtomic e t)
  else some (s.acceptWrite e t p.payload)

/-- Perform a request at its endpoint. A host window access waits for the host (R402). None: it waits in the landing port. -/
def State.perform (s : State) (e : Nat) (t : Transit) : Option State :=
  let p := t.pkt
  if gaEndpoint p.addr = 31 then
    if e < 8 then some (s.performCached e t) else s.performHashed e t
  else match s.rangeOf e (gaOffset p.addr) with
    | some (.vault _ a, _) => some (s.performVault e a t)
    | some (.spad _ k a, _) => if (s.coreAt (e * 256 + k)).inReset then none else some (s.performSpad e k a t)
    | some (.csram _ a, _) => some (s.performSram e a t)
    | some (.window _ a, _) => some (s.performWindow e a t)
    | some (.host _ _, _) => some (s.openTxn e t 1).1
    | _ => none

/-! Windows (R183, R184, R464). -/

/-- How a request finds its window. -/
inductive Found where
  /-- Not yet seen, or a duplicate that is read anew. -/
  | fresh
  /-- A duplicate answered from the window. -/
  | again (r : Packet)
  /-- A duplicate whose original is not yet performed, or one older than the window. -/
  | drop
  /-- No window is free. -/
  | busy
  /-- Its requester's window was cleared by a reset (R464). -/
  | cleared
  deriving DecidableEq, Repr

/-- What the window keeps decides a duplicate (R183). -/
def Seen.verdict (v : Seen) (p : Packet) : Found :=
  match v with
  | .waiting => .drop
  | .refused c => .again (p.nack c)
  | .readDone => .fresh
  | .written => .again p.ack
  | .fetched old => .again (p.dataAnswer old)

/-- A window that has received a packet. -/
def Window.note (w : Window) (seq now : Nat) : Window × Option Seen :=
  let ahead := (seq + 65536 - w.high) % 65536
  if 0 < ahead ∧ ahead < 32768 then
    ({ w with high := seq, last := now, seen := (seq, .waiting) :: w.seen.filter fun x => decide ((seq + 65536 - x.1) % 65536 < 64) }, none)
  else match w.seenOf seq with
    | some v => ({ w with last := now }, some v)
    | none => ({ w with last := now, seen := (seq, .waiting) :: w.seen }, none)

/-- Is a SEQ older than the 64 the window keeps? -/
def Window.tooOld (w : Window) (seq : Nat) : Bool :=
  let behind := (w.high + 65536 - seq) % 65536
  decide (64 ≤ behind) && decide (behind ≤ 32768)

def freshWindow (p : Packet) (now : Nat) : Window :=
  { srcModule := p.srcModule, srcCtx := p.srcCtx, srcInc := p.srcInc, high := p.seq, seen := [(p.seq, .waiting)], last := now }

/-- Has 1 ms passed with no packet (R184)? -/
def Window.expired (w : Window) (now : Nat) : Bool := decide (w.last + 1000000 ≤ now)

/-- The window of a request takes its SEQ (R183, R184). -/
def State.takeUp (s : State) (e : Nat) (p : Packet) : State × Found :=
  let s := s.modEnd e fun d => { d with windows := d.windows.filter fun w => !w.expired s.now }
  let d := s.endp e
  match d.windows.find? fun w => decide (w.srcModule = p.srcModule) && decide (w.srcCtx = p.srcCtx) with
  | some w =>
    if w.srcInc ≠ p.srcInc then
      (s.modEnd e fun d => { d with windows := d.windows.map fun x => if x = w then freshWindow p s.now else x }, .fresh)
    else if w.tooOld p.seq then (s, .drop)
    else
      let (w', v) := w.note p.seq s.now
      let s := s.modEnd e fun d => { d with windows := d.windows.map fun x => if x = w then w' else x }
      (match v with
       | none => (s, .fresh)
       | some v => (s, v.verdict p))
  | none =>
    let closed := match d.clearedAt with
      | some t => decide (0 < p.tries) && decide (s.now < t + s.remoteBound)
      | none => false
    if closed then (s, .cleared)
    else if 8192 ≤ d.windows.length then (s, .busy)
    else (s.modEnd e fun d => { d with windows := d.windows ++ [freshWindow p s.now] }, .fresh)

/-- A request that has landed at its endpoint; the packet stays where it is while the unit that takes it has no room or is in reset
(R249, R463). -/
def State.request (s : State) (e : Nat) (p : Packet) (on : Option LaneId) : State :=
  let (s', t) := s.take e p on
  if s'.within e t then (s'.perform e t).getD s
  else
    match s'.takeUp e p with
    | (s', .fresh) => (s'.perform e t).getD s
    | (s', .again r) => (s'.endEvent e 2 1).emit e r
    | (s', .drop) => s'.endEvent e 2 1
    | (s', .busy) => (s'.endEvent e 3 1).emit e (p.nack 0)
    | (s', .cleared) => s'.emit e (p.nack 0x14)

/-! Responses at the requester (R172, R175, R189, R463). -/

/-- Was the packet sent before its context was last cleared (R181, R463)? -/
def State.oldInc (s : State) (ctx inc : Nat) : Bool :=
  let since := (s.req ctx).since
  decide (((s.endp (ctx / 2048)).srcInc + 256 - since) % 256 < (inc + 256 - since) % 256)

/-- The fill a response belongs to (R327). -/
def State.fillOf (s : State) (ctx dest seq : Nat) : Option Fill :=
  (s.vault (ctx / 2048)).fills.find? fun x => decide (x.ctx = ctx) && (match x.flight with
    | some g => decide (g.dest = dest) && decide (g.seq = seq) && !g.answered
    | none => false)

/-- A response to a fill's GET: the vault takes the data, or the fill fails. -/
def State.fillAnswer (s : State) (x : Fill) (p : Packet) : State :=
  let t := x.ctx / 2048
  if p.op = 0x44 then
    s.modVault t fun v => { v with fills := v.fills.map fun y =>
      if y = x then { y with data := some p.data, flight := y.flight.map fun g => { g with answered := true } } else y }
  else if p.op = 0x42 then
    if p.sub = 0 then s.ctxPulse x.ctx 0x0C3 else s.failFill t x false p.sub
  else s

/-- A response that belongs to no packet still open: counted where its packet had failed (R189), and dropped. -/
def State.lateAnswer (s : State) (ctx dest seq : Nat) : State :=
  if (s.req ctx).lost.contains (dest, seq) then
    (s.endEvent (ctx / 2048) 4 1).ctxPulse ctx 0x0C6
  else s

/-- A response to a packet of an operation. -/
def State.opAnswer (s : State) (o : RemoteOp) (f : Flight) (p : Packet) : State :=
  let ctx := p.srcCtx
  match p.op with
  | 0x41 => s.answerFlight ctx o.id f.dest f.seq fun o => o
  | 0x42 => if p.sub = 0 then s.ctxPulse ctx 0x0C3 else s.failFlight ctx o.id f.dest f.seq false p.sub
  | 0x43 => s.answerFlight ctx o.id f.dest f.seq fun o => { o with value := some p.operand }
  | _ => s.writeGot ctx o.id f.dest f.seq (p.operand.toNat % 2 ^ 20) p.data

/-- A response reaches the tracking entry of its requester. -/
def State.response (s : State) (e : Nat) (p : Packet) (on : Option LaneId) : State :=
  let (s, t) := s.take e p on
  let ctx := p.srcCtx
  let dest := s.responseDest e t
  match s.fillOf ctx dest p.seq with
  | some x => s.fillAnswer x p
  | none =>
    if s.oldInc ctx p.srcInc then (s.endEvent e 5 1).ctxPulse ctx 0x0C7
    else match s.flightOf ctx dest p.seq with
      | some (o, f) => if f.open then s.opAnswer o f p else s.lateAnswer ctx dest p.seq
      | none => s.lateAnswer ctx dest p.seq

/-! Windows expire. -/

/-- A window is freed once 1 ms has passed with no packet from its requester (R184). -/
def execWindowExpired (e : Endpoint) (srcModule srcCtx : Nat) (s : State) : Host.Outcome State Fault Refusal :=
  match (s.endp e.val).windows.find? fun w => decide (w.srcModule = srcModule) && decide (w.srcCtx = srcCtx) with
  | none => .next s
  | some w => .next ((s.reach (w.last + 1000000)).modEnd e.val fun d => { d with windows := d.windows.erase w })

/-! Multicast (R260). -/

/-- The pieces of a multicast's copy for one endpoint. -/
def multiPieces (p : Packet) (far : Word) : List Piece :=
  if p.op = 4 then bulkPieces true far 0 p.data.length p.ken p.knum p.kctx
  else [onePiece 0x02 (p.sub % 4) far p.size (BitVec.ofNat 64 (p.operand.toNat % 2 ^ (8 * p.size))) 0 p.db]

/-- A context of a control chiplet stores or puts to a set of endpoints of its module, at one offset; the checks of R161 hold for each
copy. -/
def execMulticastPut (ctx : BitVec 16) (targets : BitVec 24) (offset : BitVec 49) (p : Packet) (s : State) :
    Host.Outcome State Fault Refusal :=
  let c := ctx.toNat
  let fars := ((List.range 24).filter fun e => targets.getLsbD e).map fun e =>
    (BitVec.ofNat 64 (s.moduleId * 2 ^ 54 + e * 2 ^ 49 + offset.toNat) : Word)
  let n := if p.op = 4 then p.data.length else p.size
  let ok := fars.all fun a => s.addressOk a (if p.op = 4 then .bulk else .store) n (if p.op = 4 then 32 else n) (c / 2048) false &&
    (!p.ken || s.counterOk a p.kctx)
  if (p.op = 2 ∨ p.op = 4) ∧ 22 ≤ c / 2048 ∧ s.isContext c ∧ ok ∧ n % 32 = (if p.op = 4 then 0 else n) ∧ fars ≠ [] then
    .next (s.enterOp c { id := 0, thread := c % 8, pc := 0, kind := .multi, unsent := fars.flatMap (multiPieces p), flights := [],
                         failure := none, value := none, bytes := p.data, spills := none })
  else .next s

end Sys2Proof.Machine
end

