-- ==== Sys2Proof/Machine/Gateway.lean ====
section
/-!
DEFINITION. X-chiplets and gateways (R164, R195 to R197, R207), and the commands of arriving packets (R166, R168).
-/
namespace Sys2Proof.Machine
open Sys2Proof

/-! Leaving on a fibre (R164, R295). -/

/-- The fibre pair a packet leaves on: the one chosen for it while that is ACTIVE, else one chosen anew (R295). -/
def State.leaveOn (s : State) (e : Nat) (p : Packet) (fibre : Option Nat) : Option Nat :=
  match fibre with
  | some x => if 16 + x / 4 = e ∧ s.fibreOpen x then some x else s.fibreFor (Packet.toModule p)
  | none => s.fibreFor (Packet.toModule p)

/-- A packet for another module goes on: to its fibre pair here, or across the base to that pair's X-chiplet. -/
def State.outward (s : State) (e : Nat) (p : Packet) (fibre : Option Nat) : State :=
  match fibre with
  | none => s.stage e p 48 none
  | some f => if e = 16 + f / 4 then s.stage e p (24 + f) none else s.stage e p (16 + f / 4) (some f)

/-! Frames (R196). -/

/-- Bytes of packet flits. -/
def frameBytes (ps : List Packet) : Nat := 36 * (ps.map Packet.flits).sum

/-- A gateway closes a frame: it leaves on its fibre pair. -/
def State.closeFrame (s : State) (e : Nat) (g : Gather) : State :=
  let d := s.endp e
  let f : Frame := { number := d.frameNo, srcModule := s.moduleId, srcGw := e, dstModule := g.dstModule,
                     dstGw := Config.farGateway g.dstModule, packets := g.packets.length,
                     flits := (g.packets.map Packet.flits).sum, body := g.packets }
  (s.modEnd e fun d => { d with frames := d.frames.erase g, frameNo := (d.frameNo + 1) % 2 ^ 32, sentFrame := some f }).countWrap
    (endBlock e + 0x4F00 + 16 * (g.fibre % 4)) 63 0 (36 * (1 + f.flits))

/-- A packet joins the frame for its module on its fibre pair; a frame it would bring above 64 KiB closes first. -/
def State.gather (s : State) (e m fibre : Nat) (p : Packet) : State :=
  let fresh : Gather := { dstModule := m, fibre := fibre, packets := [p], first := s.now }
  match (s.endp e).frames.find? fun g => decide (g.dstModule = m) && decide (g.fibre = fibre) with
  | none => s.modEnd e fun d => { d with frames := d.frames ++ [fresh] }
  | some g =>
    if 65536 < frameBytes (g.packets ++ [p]) then (s.closeFrame e g).modEnd e fun d => { d with frames := d.frames ++ [fresh] }
    else s.modEnd e fun d => { d with frames := d.frames.map fun x => if x = g then { x with packets := x.packets ++ [p] } else x }

/-! LOADs as GETs (R195). -/

/-- The GET of the 32-byte unit that holds a LOAD's bytes. -/
def Packet.asGet (p : Packet) : Packet :=
  { p with op := 5, sub := 0, gw := true, operand := 0, addr := p.addr - BitVec.ofNat 64 (gaOffset p.addr % 32) }

/-- Do two packets carry one number (R167, R181)? -/
def Packet.sameNumber (p q : Packet) : Bool :=
  decide (p.srcModule = q.srcModule) && decide (p.srcCtx = q.srcCtx) && decide (p.srcInc = q.srcInc) && decide (p.seq = q.seq) &&
  decide (p.addr = q.addr)

/-- The LOAD answered by the GET's response. -/
def Packet.loadAnswer (load r : Packet) : Packet :=
  if r.op = 0x44 then
    load.dataAnswer (BitVec.ofNat 64 (ofBytes ((r.data.drop (gaOffset load.addr % 32)).take load.size)))
  else load.nack r.sub

/-- A response enters this module at an X-chiplet: the one to a LOAD that went out as a GET becomes its DATA. The gateway keeps what it turned
until the number is used anew, since a re-sent LOAD can bring a second GDATA. -/
def State.enter (s : State) (e : Nat) (p : Packet) : State :=
  match (s.endp e).turned.find? fun x => p.isResponse && Packet.sameNumber p x.1 with
  | none => s.emit e p
  | some x => s.emit e (Packet.loadAnswer x.2 p)

/-- A packet leaves this module at an X-chiplet; where the route is a gateway's, R195 handles it. -/
def State.leave (s : State) (e : Nat) (p : Packet) (fibre : Option Nat) : State :=
  let m := Packet.toModule p
  let f := s.leaveOn e p fibre
  let gathered := match f with
    | some x => if 16 + x / 4 = e then s.gather e m x p else s.outward e p f
    | none => s.outward e p f
  if p.isRequest && bitOf (s.route m) 62 then
    match p.op with
    | 1 =>
      let g := Packet.asGet p
      (s.modEnd e fun d => { d with turned := (g, p) :: d.turned.filter fun x => !(Packet.sameNumber g x.1) }).outward e g f
    | 3 => if passesGateway p.func then gathered else s.emit e (p.nack 0x12)
    | 5 => s.outward e { p with gw := true } f
    | _ => gathered
  else if p.isResponse && p.gw then gathered
  else s.outward e p f

/-- FLAGS.DOMAIN of the job; 0 with no job loaded (R207). -/
def State.domainOpen (s : State) : Bool := decide (3 ≤ s.jobState) && decide (s.jobState ≤ 5) && pkgDomain s.mod.job.live

/-- A packet passes an X-chiplet. A request from a fibre is dropped while DOMAIN is 0 (R207). -/
def State.pass (s : State) (e : Nat) (p : Packet) (fibre : Option Nat) (outside : Bool) : State :=
  if outside && p.isRequest && !s.domainOpen then s.endEvent e 12 1
  else if Packet.toModule p = s.moduleId then s.enter e p
  else s.leave e p fibre

/-- A packet at an X-chiplet: from a fibre, or from the base on its way out. -/
def State.atX (s : State) (e : Nat) (p : Packet) (on : Option LaneId) : State :=
  let (s, t) := s.take e p on
  s.pass e p t.fibre (on.isSome || decide (Packet.toModule p = s.moduleId))

/-! The ingress FIFOs of the fibres (R291). -/

/-- Has the base room for a packet that came in on a fibre (R249, R291)? -/
def State.fibreRoom (s : State) (e : Nat) (p : Packet) : Bool :=
  let d := (s.nextHop e p).1
  (p.isRequest && !s.domainOpen) || decide (d = 48) || decide (d = e) || (decide (24 ≤ d) && s.framed p) || s.pathRoom e d p []

/-- The packet an X-chiplet drains next from an external lane: the response at the head of its FIFO, else the request, where there is room. -/
def State.fibreHead (s : State) (key : Nat) : Option (Packet × Bool) :=
  let head := fun (q : List FifoPkt) => match q with
    | f :: _ => if s.fibreRoom (laneDst key) f.tr.pkt then some f.tr.pkt else none
    | [] => none
  match head (s.ln key).fifoRsp with
  | some p => some (p, false)
  | none => (head (s.ln key).fifoReq).map fun p => (p, true)

/-- An X-chiplet drains an external lane into the base for as long as there is room. -/
def State.drainFibre (s : State) (key : Nat) : Nat → State
  | 0 => s
  | n + 1 => match s.fibreHead key with
    | none => s
    | some (p, request) =>
      let s := s.modLane key fun l => if request then { l with fifoReq := l.fifoReq.drop 1 } else { l with fifoRsp := l.fifoRsp.drop 1 }
      ((s.freed key p).pass (laneDst key) p none true).drainFibre key n

/-- Flits that stand in a FIFO. -/
def fifoFlits (q : List FifoPkt) : Nat := flitsOf (q.map (·.tr))

/-- A packet comes in on an external lane: it stands in the ingress FIFO of its class, which holds 1,024 flits, until the X-chiplet drains it
(R291). A receiver that resynchronises or has declared the lane failed drops it. -/
def State.fromFibre (s : State) (key : Nat) (p : Packet) : State :=
  let l := s.ln key
  let q := if p.isRequest then l.fifoReq else l.fifoRsp
  if l.failed || l.resync.isSome || decide (1024 < fifoFlits q + p.flits) then s
  else
    let f : FifoPkt := ⟨⟨p, laneDst key, laneDst key, none⟩, 100 * s.now, 0⟩
    let s := s.modLane key fun l => if p.isRequest then { l with fifoReq := l.fifoReq ++ [f] } else { l with fifoRsp := l.fifoRsp ++ [f] }
    s.drainFibre key ((s.ln key).fifoReq.length + (s.ln key).fifoRsp.length)

/-! Placing packets (R247, R295). -/

/-- A staged packet for another module whose fibre pair is not ACTIVE, or that had none, takes its way anew; at an X-chiplet it leaves as any
packet does (R195, R295). -/
def State.rehop (s : State) (e : Nat) (t : Transit) : State :=
  let s := s.modEnd e fun x => { x with staged := x.staged.erase t }
  if 16 ≤ e ∧ e < 22 then s.leave e t.pkt none
  else
    let (d, f) := s.nextHop e t.pkt
    s.modEnd e fun x => { x with staged := x.staged ++ [{ t with dest := d, fibre := f }] }

/-- An X-chiplet drains what its fibres hold. -/
def State.drainFibres (s : State) (e : Nat) : State :=
  let keys := (s.lanes.map (·.1)).filter fun k => decide (17152 ≤ k) && decide (laneDst k = e)
  keys.foldl (fun s k => s.drainFibre k ((s.ln k).fifoReq.length + (s.ln k).fifoRsp.length)) s

/-- The next packet of an endpoint's staging queue for a destination is placed on a lane, or stays staged (R247). A packet that had no ACTIVE
fibre pair of its route, or whose pair has left service, takes one now (R295). An X-chiplet also drains what its fibres hold. -/
def execPacketPlaced (e : Endpoint) (dest : Fin 49) (s : State) : Host.Outcome State Fault Refusal :=
  let q := (s.endp e.val).staged.filter fun t => decide (t.dest = dest.val)
  let s' := if dest.val = 48 ∨ (24 ≤ dest.val ∧ !s.fibreOpen (dest.val - 24)) then
      (match q.find? fun t => decide ((s.nextHop e.val t.pkt).1 ≠ dest.val) with
       | none => s
       | some t => s.rehop e.val t)
    else match s.placeable e.val q with
      | none => s
      | some (t, k) => (s.modEnd e.val fun x => { x with staged := x.staged.erase t }).putOnLane k t
  .next (s'.drainFibres e.val)

/-! The commands of arriving packets. -/

/-- Is the packet at an endpoint it can be at: one on its path, or its last? -/
def State.addressed (s : State) (e : Nat) (p : Packet) : Bool :=
  if 16 ≤ e ∧ e < 22 then true
  else if p.isRequest then decide (gaModule p.addr = s.moduleId) && (decide (homeOf p.addr = e) || (decide (e < 8) && decide (gaEndpoint p.addr = 31)))
  else decide (p.srcModule = s.moduleId) && decide (p.srcCtx / 2048 = e)

/-- Was the packet handed over inside the endpoint? No flit of it was formed, so it is never lost (R32, R185). -/
def State.inside (s : State) (e : Nat) (p : Packet) (on : Option LaneId) : Bool :=
  on.isNone && (s.endp e).landed.any fun t => decide (t.pkt = p) && decide (t.by' = e)

/-- A re-send that meets the near gateway in reset is lost (R197). -/
def State.lostAtGateway (s : State) (e : Nat) (p : Packet) : State :=
  if 16 ≤ e ∧ e < 22 ∧ 0 < p.tries ∧ Packet.toModule p ≠ s.moduleId ∧ bitOf (s.route (Packet.toModule p)) 62 then (s.take e p none).1 else s

/-- A packet of one type, whole or with a flit that could not be corrected, reaches an endpoint (R166): at one in reset it waits (R463), but for a
re-send at a gateway (R197). One that comes in on a fibre first stands in its FIFO (R291). -/
def State.packet (s : State) (op : Nat) (e : Endpoint) (p : Packet) (bad : Bool) (on : Option LaneId) : State :=
  if p.op ≠ op ∨ !s.addressed e.val p then s
  else if (s.endp e.val).inReset then s.lostAtGateway e.val p
  else if bad ∧ !s.inside e.val p on then (s.take e.val p on).1.endEvent e.val 0 1
  else if 16 ≤ e.val ∧ e.val < 22 then
    (match cameOn e.val on with
     | some key => s.fromFibre key p
     | none => s.atX e.val p on)
  else if p.isRequest then s.request e.val p on
  else s.response e.val p on

/-- LOAD (R172). -/
def execLoadPacket (e : Endpoint) (p : Packet) (bad : Bool) (on : Option LaneId) (s : State) : Host.Outcome State Fault Refusal :=
  .next (s.packet 0x01 e p bad on)
/-- STORE (R172). -/
def execStorePacket (e : Endpoint) (p : Packet) (bad : Bool) (on : Option LaneId) (s : State) : Host.Outcome State Fault Refusal :=
  .next (s.packet 0x02 e p bad on)
/-- ATOMIC (R190). -/
def execAtomicPacket (e : Endpoint) (p : Packet) (bad : Bool) (on : Option LaneId) (s : State) : Host.Outcome State Fault Refusal :=
  .next (s.packet 0x03 e p bad on)
/-- PUT (R172). -/
def execPutPacket (e : Endpoint) (p : Packet) (bad : Bool) (on : Option LaneId) (s : State) : Host.Outcome State Fault Refusal :=
  .next (s.packet 0x04 e p bad on)
/-- GET (R172). -/
def execGetPacket (e : Endpoint) (p : Packet) (bad : Bool) (on : Option LaneId) (s : State) : Host.Outcome State Fault Refusal :=
  .next (s.packet 0x05 e p bad on)
/-- ACK (R172). -/
def execAckPacket (e : Endpoint) (p : Packet) (bad : Bool) (on : Option LaneId) (s : State) : Host.Outcome State Fault Refusal :=
  .next (s.packet 0x41 e p bad on)
/-- NACK (R175). -/
def execNackPacket (e : Endpoint) (p : Packet) (bad : Bool) (on : Option LaneId) (s : State) : Host.Outcome State Fault Refusal :=
  .next (s.packet 0x42 e p bad on)
/-- DATA (R172). -/
def execDataPacket (e : Endpoint) (p : Packet) (bad : Bool) (on : Option LaneId) (s : State) : Host.Outcome State Fault Refusal :=
  .next (s.packet 0x43 e p bad on)
/-- GDATA (R172). -/
def execGdataPacket (e : Endpoint) (p : Packet) (bad : Bool) (on : Option LaneId) (s : State) : Host.Outcome State Fault Refusal :=
  .next (s.packet 0x44 e p bad on)

/-- Is a packet type of R168 reserved? The flits of R244 and R291 never reach the packet layer (R240). -/
def reservedOp (op : Nat) : Bool :=
  !(decide (1 ≤ op) && decide (op ≤ 5)) && !(decide (0x41 ≤ op) && decide (op ≤ 0x44)) && decide (op ≠ 0x08) && decide (op ≠ 0x7F) &&
  !(decide (0xC0 ≤ op) && decide (op ≤ 0xC2))

/-- A packet with a reserved OP is dropped and counted (R168). -/
def execReservedOpPacket (e : Endpoint) (p : Packet) (bad : Bool) (on : Option LaneId) (s : State) : Host.Outcome State Fault Refusal :=
  if !reservedOp p.op ∨ (s.endp e.val).inReset then .next s
  else .next ((s.take e.val p on).1.endEvent e.val (if bad then 0 else 1) 1)

/-! Frame commands. -/

/-- A gateway closes a frame 1 µs after its first packet (R196). -/
def execGatewayFrameClose (x : Fin 6) (dst : Nat) (fibre : Fin 4) (s : State) : Host.Outcome State Fault Refusal :=
  let e := 16 + x.val
  match (s.endp e).frames.find? fun g => decide (g.dstModule = dst) && decide (g.fibre = 4 * x.val + fibre.val) with
  | none => .next s
  | some g => .next ((s.reach (g.first + 1000)).closeFrame e g)

/-- Is a frame what its head says (R196)? -/
def Frame.sound (f : Frame) : Bool := decide (f.packets = f.body.length) && decide (f.flits = (f.body.map Packet.flits).sum)

/-- A gateway takes a frame whole and issues its packets with GW = 1; one that is inconsistent or cannot be read is dropped and counted,
and one that meets the gateway in reset is lost (R195 to R197). -/
def execFrameReceived (x : Fin 6) (f : Frame) (bad : Bool) (s : State) : Host.Outcome State Fault Refusal :=
  let e := 16 + x.val
  if (s.endp e).inReset then .next s
  else if bad || !Frame.sound f then .next (s.endEvent e 13 1)
  else .next (f.body.foldl (fun s p => s.pass e { p with gw := true } none true) s)

end Sys2Proof.Machine
end

