-- ==== Sys2Proof/Machine/Window.lean ====
section
/-!
DEFINITION. The health window and its snapshots (R413 to R419).
-/
namespace Sys2Proof.Machine
open Sys2Proof

/-! HW_WARN (R417). -/

/-- A plane or fibre pair retired by force: RETIRED with a CAUSE above 0x01 (R267, R305). -/
def State.forcedOut (s : State) (i : Nat) : Bool :=
  decide (s.plane i = .retired) && decide (1 < s.field (planeReg i) (if 16 ≤ i then 63 else 55) (if 16 ≤ i then 56 else 48))

/-- The conditions, by bit. -/
def State.warned (s : State) (i : Nat) : Bool :=
  match i with
  | 0 => s.lanes.any fun p => warningAt (isExt p.1) p.2.errBits
  | 1 => (List.range 6).any fun n => bitOf (s.reg (0x17000 + 8 * n)) 5 && decide (s.light.proc ≠ some n) && !s.spareReady
  | 2 => s.light.ringFlag
  | 3 => (decide (s.jobState = 4) || decide (s.jobState = 5)) && !s.timeLocked
  | 4 => (List.range 8).any fun t => bitOf (s.reg (endBlock t + 0x100)) 63
  | 5 => (List.range 293).any s.power.thermal.warns
  | 6 => !bitOf (s.reg 0x1A000) 47
  | 7 => s.power.thermal.conservative
  | 8 => decide (s.power.feedA.st ≠ .active) || decide (s.power.feedB.st ≠ .active)
  | 9 => s.power.vauxA.failed || s.power.vauxB.failed
  | 10 => decide (s.power.queue ≠ [])
  | 11 => (List.range 288).any fun c => decide ((s.chan c).st = .marked) || decide ((s.chan c).st = .failed)
  | 12 => (List.range 8).any fun t =>
      decide (s.field (endBlock t + 0x30) 15 0 ≠ 0) || (s.vault t).bonds.any fun p => p.2.retired
  | 13 => (List.range 40).any s.forcedOut
  | 14 => s.linkOn && !s.mod.pair.up
  | _ => false

/-- The unit an entry of a raised warning names: the lowest plane, endpoint, Bimetal node or channel that meets the condition; 0xFFF where the
condition has none (R418, assumption 83). -/
def State.warnUnit (s : State) (i : Nat) : Nat :=
  (match i with
  | 0 => (List.range 40).find? fun p => s.lanes.any fun l => warningAt (isExt l.1) l.2.errBits && decide (lanePlaneIx l.1 = p)
  | 1 => ((List.range 6).find? fun n => bitOf (s.reg (0x17000 + 8 * n)) 5 && decide (s.light.proc ≠ some n)).map (241 + ·)
  | 4 => (List.range 8).find? fun t => bitOf (s.reg (endBlock t + 0x100)) 63
  | 5 => (List.range 293).find? s.power.thermal.warns
  | 11 => (List.range 288).find? fun c => decide ((s.chan c).st = ChanState.marked) || decide ((s.chan c).st = ChanState.failed)
  | 12 => (List.range 8).find? fun t => decide (s.field (endBlock t + 0x30) 15 0 ≠ 0) || (s.vault t).bonds.any fun p => p.2.retired
  | 13 => (List.range 40).find? s.forcedOut
  | _ => none).getD 0xFFF

def State.warnWord (s : State) : Word := BitVec.ofNat 64 (maskBelow 15 s.warned)

/-! The words (R414 to R416, R418). -/

/-- HW_FAULT. -/
def State.faultWord (s : State) : Word :=
  match s.hwFault with
  | none => 0
  | some (cause, t) => putFields 0 [(63, 63, 1), (55, 48, cause), (47, 0, t)]

/-- HW_SUMMARY, its SERVER bit put in as it is read. -/
def State.summaryWord (s : State) (snap : Nat) (warn : Word) : Word :=
  putFields 0 [
    (63, 32, snap), (31, 31, boolBit s.ok), (30, 30, boolBit s.hwFault.isSome), (29, 29, boolBit (decide (warn ≠ 0))),
    (27, 27, boolBit s.mod.start.primary1), (26, 24, s.mod.start.stage), (19, 16, s.mod.pair.role)]

/-- HW_LOG_HEAD. -/
def State.logHead (s : State) : Word := putFields 0 [(63, 32, s.logTotal), (7, 0, s.logTotal % 256)]

/-- The registers whose images the window holds: its word, and the register's offset. -/
def windowImages : List (Nat × Nat) :=
  [(0x040, 0x10808), (0x048, 0x10838), (0x050, 0x18000), (0x058, 0x19008), (0x060, 0x19010), (0x068, 0x19018), (0x070, 0x19020),
   (0x078, 0x1A008), (0x080, 0x10418), (0x088, 0x14008), (0x090, 0x17048)] ++
  (List.range 7).map (fun n => (0x098 + 8 * n, 0x17000 + 8 * n)) ++
  (List.range 8).map (fun m => (0x0D0 + 8 * m, endBlock (8 + m))) ++
  (List.range 8).map (fun t => (0x110 + 8 * t, endBlock t + 8)) ++
  (List.range 8).map (fun t => (0x150 + 8 * t, endBlock t + 0x100)) ++
  (List.range 8).map fun t => (0x190 + 8 * t, endBlock t + 0x208)

/-- The window of a snapshot. -/
def State.windowWords (s : State) (snap : Nat) (warn : Word) : Tab Word :=
  let put := fun (t : Tab Word) (e : Nat × Word) => t.set 0 (e.1 / 8) e.2
  let head := [(0x000, s.summaryWord snap warn), (0x008, BitVec.ofNat 64 s.now), (0x010, s.faultWord), (0x018, warn), (0x020, s.logHead)]
  let images := windowImages.map fun e => (e.1, s.readReg e.2)
  let logs := (List.range 256).map fun i => (0x800 + 8 * i, s.log.get 0 i)
  (head ++ images ++ logs).foldl put []

/-- A word of the window last made visible. -/
def State.shown (s : State) (off : Nat) : Word := s.mod.ports.window.get 0 (off / 8)

/-- An IBI with its data byte, where target events are enabled and the target has an address (R421). -/
def State.ibi (s : State) (b : Nat) : State :=
  s.modPorts fun p => if p.i3c.events && p.i3c.address.isSome then { p with i3c := { p.i3c with ibi := some b } } else p

/-! The pins (R419, R532, R534, R537). -/

/-- HEALTH_OK is high: it follows OK, and reads low while the module has no power. -/
def State.healthOkPin (s : State) : Bool := s.power.on && s.ok

/-- FAULT_N is pulled low: a fault decision stands. Without power it is released. -/
def State.faultPin (s : State) : Bool := s.power.on && s.hwFault.isSome

/-- Every microsecond a snapshot is taken and made visible as a whole, and SNAP rises; each HW_WARN bit that has changed is logged, a fault
decision's entry behind them, and a change of OK, FAULT or a warning is sent (R406, R413, R417, R418, R421). -/
def execHealthSnapshot (s : State) : Host.Outcome State Fault Refusal :=
  let s := s.periodic keySnap 1000
  let old := s.shown 0x018
  let warn := s.warnWord
  let s := (List.range 15).foldl (fun (s : State) i =>
    if bitOf warn i && !bitOf old i then s.logEvent 1 i (s.warnUnit i)
    else if !bitOf warn i && bitOf old i then s.logEvent 2 i 0xFFF else s) s
  let s := s.flushLog
  let before := s.shown 0x000
  let snap := (s.mod.ports.snap + 1) % 2 ^ 32
  let words := s.windowWords snap warn
  let s := s.modPorts fun p => { p with window := words, snap := snap }
  let changed := decide (old ≠ warn) || decide (before.field 31 30 ≠ (s.shown 0x000).field 31 30)
  .next (if changed then (s.msi 0).ibi 1 else s)

end Sys2Proof.Machine
end

