-- ==== Sys2Proof/Machine/Host.lean ====
section
/-!
DEFINITION. The CXL host ports (R396 to R403, R408, R435, R532) and the host command ring with image staging (R411, R412, R447).
-/
namespace Sys2Proof.Machine
open Sys2Proof

/-! CXL.mem (R400, R401). -/

/-- H of R400: the job's HDM while it is RUNNING or ENDING. -/
def State.hdmBase (s : State) : Nat := if s.jobState = 4 ∨ s.jobState = 5 then pkgHdm s.mod.job.live else 0

/-- The hashed offset of the 64 bytes at a device physical address. -/
def State.hdmOffset (s : State) (a : Nat) : Nat := s.hdmBase * 2 ^ 36 + a / 64 * 64

/-- Which line a host port's operation works on. -/
def OpKind.memLineOf (k : OpKind) (port : Bool) : Option Nat :=
  match k with
  | .memRead p _ off => if p = port then some (memLine off) else none
  | .memWrite p _ off => if p = port then some (memLine off) else none
  | _ => none

/-- Has the port an outstanding or waiting request to a line? -/
def State.lineBusy (s : State) (port : Bool) (line : Nat) : Bool :=
  (s.requesters.any fun e => e.2.ops.any fun o => decide (o.kind.memLineOf port = some line)) ||
  s.mod.ports.waiting.any fun w => decide (w.port = port) && decide (memLine w.off = line)

/-- A CXL.mem request. -/
def State.memRequest (s : State) (port : Bool) (tag a : Nat) (data : Option (List Byte)) : State :=
  let off := s.hdmOffset a
  if hashedLimit ≤ off then
    ((s.count 0x1000 31 16 1).memAnswer port { tag := tag, data := [], poison := data.isNone }).logRas port
  else if s.lineBusy port (memLine off) then
    s.modPorts fun p => { p with waiting := p.waiting ++ [{ port := port, tag := tag, off := off, data := data }] }
  else s.enterOp (memStream port tag) (memOp s.moduleId off port tag data)

/-- A read of 64 bytes through a host port (true: B). -/
def execCxlMemRead (port : Bool) (tag : BitVec 16) (addr : BitVec 36) (s : State) : Host.Outcome State Fault Refusal :=
  .next (s.memRequest port tag.toNat addr.toNat none)

/-- A write of 64 bytes. -/
def execCxlMemWrite (port : Bool) (tag : BitVec 16) (addr : BitVec 36) (data : Vector Byte 64) (s : State) : Host.Outcome State Fault Refusal :=
  .next (s.memRequest port tag.toNat addr.toNat (some data.toList))

/-! The host window (R402). -/

/-- The host has carried out the lines of a packet to the host window: the bytes read, or global observation of every line. A failure is
logged and sent on vector 3 (R406). -/
def execHostWindowAccess (c1 : Bool) (txn : Nat) (bytes : List Byte) (failed : Bool) (s : State) : Host.Outcome State Fault Refusal :=
  let e := if c1 then 23 else 22
  match (s.endp e).txns.find? fun t => decide (t.id = txn) with
  | none => .next s
  | some t =>
    match s.rangeOf (gaEndpoint t.pkt.addr) (gaOffset t.pkt.addr) with
    | some (.host _ _, _) =>
      let data := if t.pkt.reads && !failed then bytes.take t.pkt.span else []
      .next ((if failed then s.logRas c1 else s).unitDone e txn 0 data none (if failed then some 0x14 else none))
    | _ => .next s

/-- A host-to-device snoop is answered RspIHitI: the module holds no host line (R396, R402). -/
def execHostSnoop (_port : Bool) (_addr : Word) (s : State) : Host.Outcome State Fault Refusal := .next s

/-! MMIO to endpoint blocks (R403). -/

/-- Does an MRS offset lie in an endpoint block (R405)? -/
def inEndBlock (off : Nat) : Bool := decide (0x100000 ≤ off) && decide (off < 0x400000)

/-- The global address of an MRS offset's register, or of its high half. -/
def State.windowAddr (s : State) (off : Nat) (part : Part) : Word :=
  BitVec.ofNat 64 (s.moduleId * 2 ^ 54 + (off - 0x100000) / 0x20000 * 2 ^ 49 + 0x1F0000000 + off % 0x20000 + if part = .high then 4 else 0)

/-- A host access to a register of an endpoint block leaves as one packet of thread 0 of the port's stream 0x7F (R399, R403); one that
is not aligned is handled in the chiplet (R18). -/
def execHostMmioEndpoint (port write : Bool) (off : BitVec 24) (part : Part) (value : Word) (s : State) : Host.Outcome State Fault Refusal :=
  let o := off.toNat
  if !inEndBlock o then .next s
  else if !aligned8 off then .next (s.badAccess (if port then .hostB else .hostA) (!write))
  else
    let size := if part = .full then 8 else 4
    let ctx := (if port then 23 else 22) * 2048 + 0x7F * 8
    let v : Word := if write then BitVec.ofNat 64 (value.toNat % 2 ^ (8 * size)) else 0
    .next (s.enterOp ctx
      { id := 0, thread := 0, pc := 0, kind := if write then .mmioWrite else .mmioRead port size,
        unsent := [onePiece (if write then 2 else 1) (sizeCode size) (s.windowAddr o part) size v 0 false], flights := [],
        failure := none, value := none, bytes := [], spills := none })

/-! Links (R398, R408, R435, R532). -/

def State.modCxl (s : State) (port : Bool) (f : Cxl → Cxl) : State :=
  s.modPorts fun p => if port then { p with cxlB := f p.cxlB } else { p with cxlA := f p.cxlA }
def State.cxl (s : State) (port : Bool) : Cxl := if port then s.mod.ports.cxlB else s.mod.ports.cxlA

/-- One more retrain of a port (R408). -/
def State.retrain (s : State) (port : Bool) : State := if port then s.count 0x10008 63 56 1 else s.count 0x10008 31 24 1

/-- A link reset or conventional reset of a port: its streams' operations are abandoned and its chiplet's SRC_INC advances (R398). -/
def execHostLinkReset (port : Bool) (s : State) : Host.Outcome State Fault Refusal :=
  let e := if port then 23 else 22
  let s := (s.advanceInc e).clearContexts fun c => decide (c / 2048 = e) && decide (0x40 ≤ c / 8 % 256) && decide (c / 8 % 256 < 0x80)
  .next ((s.modPorts fun p => { p with waiting := p.waiting.filter fun w => decide (w.port ≠ port) }).retrain port)

/-- PERST of a port is released (R532). -/
def execPerstRelease (port : Bool) (s : State) : Host.Outcome State Fault Refusal := .next (s.modCxl port fun c => { c with perst := false })

/-- Can a port's link train: PERST released and the management image running on its chiplet (R532)? -/
def State.mayTrain (s : State) (port : Bool) : Bool :=
  !(s.cxl port).perst && (s.mod.start.running.get none (boolBit port)).isSome

/-- A width, rate and flit format of R396. -/
def linkMode (width rate : Nat) (lopt : Bool) : Bool :=
  (decide (width = 8) || decide (width = 4)) && (decide (rate = 2) || (decide (rate = 1) && !lopt))

/-- A port's link comes up or retrains in a mode, or goes down (R408, R435). A link that was up and comes up anew has retrained. -/
def execCxlLinkChange (port up lopt : Bool) (width : Fin 16) (rate : Fin 4) (s : State) : Host.Outcome State Fault Refusal :=
  if !up then .next (s.modCxl port fun c => { Cxl.down with perst := c.perst })
  else if s.mayTrain port && linkMode width.val rate.val lopt then
    let s := if (s.cxl port).up then s.retrain port else s
    .next (s.modCxl port fun c => { c with up := true, width := width.val, rate := rate.val, lopt := lopt })
  else .next s

/-! The host command ring (R411, R412). -/

/-- Entry HEAD is processed while EN is 1 and HEAD differs from TAIL: `work` gives its STATUS and RESULT. -/
def State.ringEntry (s : State) (work : State → State × Nat × List Byte) : State :=
  let head := s.field 0x11018 11 0
  if bitOf (s.reg 0x11008) 4 && decide (head ≠ s.field 0x11010 11 0) then
    let (s, status, result) := work s
    let s := s.modPorts fun p => { p with hcmd := some { index := head, status := status, result := result } }
    (s.setField 0x11018 11 0 ((head + 1) % s.ringSize)).msi 1
  else s

/-- NOP. -/
def execHcmdNop (s : State) : Host.Outcome State Fault Refusal := .next (s.ringEntry fun s => (s, 1, []))

/-! Staging (R447). -/

/-- Is staging not permitted now: STAGE_DIS, or a firmware activation in progress (R412, R447)? -/
def State.stagingClosed (s : State) : Bool := bitOf (s.reg 0x1B000) 0 || s.mod.start.act.isSome

/-- Reason 0x01: no slot, the active bank, or a bank a pending activation names. -/
def State.slotTaken (s : State) (slot : Nat) : Bool :=
  decide (5 < slot) || decide (s.activeBank (slot / 2 + 1) = slot % 2) || decide (s.field (secImage (slot / 2 + 1)) 5 5 = 1)

/-- The reason an image is rejected for, in the order of the table; `genuine`: the vendor signature verifies;
`back`: the slot read back as written. -/
def State.stageReason (s : State) (slot length : Nat) (img : List Byte) (genuine back : Bool) : Option Nat :=
  let kind := slot / 2 + 1
  if !headerOk img kind || decide (img.length < 128) then some 2
  else if length ≠ 128 + imgLength img + 3284 ∨ !sizeOk img then some 3
  else if imgSvn img < s.svnMin kind then some 4
  else if !contentOk img genuine then some 5
  else if !back then some 6
  else none

/-- A rejection: STATUS 0x0005, the reason in RESULT byte 0 and in LAST_REJECT. -/
def State.rejectStage (s : State) (reason : Nat) : State × Nat × List Byte := (s.setField 0x1B008 63 56 reason, 5, bytesOf 1 reason)

/-- STAGE_IMAGE: the image bytes as the host's memory gave them (none: that access failed), whether their vendor signature verifies
(assumption 42), and whether the slot read back as written. -/
def State.stageImage (s : State) (slot length : Nat) (image : Option (List Byte)) (genuine back : Bool) : State × Nat × List Byte :=
  if s.stagingClosed then (s, 3, [])
  else if s.slotTaken slot then s.rejectStage 1
  else match image with
    | none => (s, 4, [])
    | some img =>
      match s.stageReason slot length img genuine back with
      | some 6 => (s.modBank slot fun _ => Bank.empty).rejectStage 6
      | some r => s.rejectStage r
      | none => (s.modBank slot fun _ => { st := 1, image := img, genuine := genuine }, 1, [])

def execStageImage (slot length : BitVec 32) (image : Option (List Byte)) (genuine back : Bool) (s : State) : Host.Outcome State Fault Refusal :=
  .next (s.ringEntry fun s => s.stageImage slot.toNat length.toNat image genuine back)

/-- STAGE_ABORT erases a slot. -/
def State.stageAbort (s : State) (slot : Nat) : State × Nat × List Byte :=
  if s.stagingClosed then (s, 3, [])
  else if s.slotTaken slot then s.rejectStage 1
  else (s.modBank slot fun _ => Bank.empty, 1, [])

def execStageAbort (slot : BitVec 32) (s : State) : Host.Outcome State Fault Refusal := .next (s.ringEntry fun s => s.stageAbort slot.toNat)

/-- STAGE_QUERY: SEC_IMAGE1 to SEC_IMAGE3 and SEC_STATUS. -/
def execStageQuery (s : State) : Host.Outcome State Fault Refusal :=
  .next (s.ringEntry fun s =>
    (s, 1, ([0x1B010, 0x1B018, 0x1B020, 0x1B008] : List Nat).flatMap fun o => bytesOf 8 (s.readReg o).toNat))

end Sys2Proof.Machine
end

