-- ==== Sys2Proof/Machine/Manage.lean ====
section
/-!
DEFINITION. The management port (R421 to R424), firmware activation (R448, R449), the service port (R431 to R433).
-/
namespace Sys2Proof.Machine
open Sys2Proof

/-! What Elvef and the UART answer. -/

/-- The MOD_ID image and the serial number (R423). -/
def State.idBytes (s : State) : List Byte := bytesOf 8 (s.readReg 0x10000).toNat ++ bytesOf 8 s.serial

/-- 256 bytes of the health window from an offset, as a chiplet serves it (R413, R423). -/
def State.healthBytes (s : State) (c1 : Bool) (off : Nat) : List Byte :=
  (List.range 32).flatMap fun i => bytesOf 8 (s.windowWord c1 (off + 8 * i)).toNat

/-- Is an offset a multiple of 256 inside the window? -/
def healthOffset (off : Nat) : Bool := decide (off % 256 = 0) && decide (off < 4096)

/-- Entries of HW_LOG from an index on (R418). -/
def State.logBytes (s : State) (index count : Nat) : List Byte :=
  (List.range count).flatMap fun i => bytesOf 8 (s.log.get 0 ((index + i) % 256)).toNat

def logCount (n : Nat) : Bool := decide (1 ≤ n) && decide (n ≤ 32)

/-- Does a 4-byte argument name a register of the 16 MiB of the MRS (R18, R404)? -/
def mrsOffset (off : Nat) : Bool := decide (off < 2 ^ 24) && decide (off % 8 = 0)

/-! Elvef (R422 to R424). -/

def execElvefFrameError (seq : BitVec 8) (s : State) : Host.Outcome State Fault Refusal := .next (s.elvef seq 2 [])

def execElvefGetId (seq : BitVec 8) (s : State) : Host.Outcome State Fault Refusal := .next (s.elvef seq 0 s.idBytes)

def execElvefGetHealth (seq : BitVec 8) (off : BitVec 16) (s : State) : Host.Outcome State Fault Refusal :=
  if healthOffset off.toNat then .next (s.elvef seq 0 (s.healthBytes s.mod.start.primary1 off.toNat)) else .next (s.elvef seq 4 [])

def execElvefReadReg (seq : BitVec 8) (off : BitVec 32) (s : State) : Host.Outcome State Fault Refusal :=
  if mrsOffset off.toNat then
    let (s, v) := s.readFull .management off.toNat
    .next (s.elvef seq 0 (bytesOf 8 v.toNat))
  else .next (s.elvef seq 4 [])

/-- A refused write has status 0x03, one its register refuses in the present state 0x05, and one that waits for the MRAM window 0x06. -/
def execElvefWriteReg (seq : BitVec 8) (off : BitVec 32) (value : Word) (s : State) : Host.Outcome State Fault Refusal :=
  if mrsOffset off.toNat then
    let (s, st) := s.writeReg .management off.toNat .full value
    .next (s.elvef seq st [])
  else .next (s.elvef seq 4 [])

/-- SET_INLET (R372, R423). -/
def execElvefSetInlet (seq : BitVec 8) (celsius : BitVec 8) (s : State) : Host.Outcome State Fault Refusal :=
  .next ((s.setInlet celsius.toNat).elvef seq 0 [])

/-- Any job ends as a module reset ends it: JOB_STATUS has its Reset values and the idle tables are in force (R231, R423). -/
def State.dropJob (s : State) : State :=
  let s := (s.idleJob.setReg 0x10808 0).modJob fun j => { Job.none with record := j.record }
  s.modLadder fun l => { l with jobPoint := none }

/-- POWER 0: both enables fall, and any job ends (R423, R533). -/
def execElvefPowerOff (seq : BitVec 8) (s : State) : Host.Outcome State Fault Refusal := .next (s.dropJob.vcoreOff.elvef seq 0 [])

/-- POWER 1: VCORE is enabled, and a hold ends; refused while a shutdown is latched (R376, R423, R437). -/
def execElvefPowerOn (seq : BitVec 8) (s : State) : Host.Outcome State Fault Refusal :=
  if s.power.thermal.shutdown then .next (s.elvef seq 5 [])
  else .next ((if s.mod.start.holding then s.endHold else s.vcoreOn).elvef seq 0 [])

/-- RESET: the request is taken or refused as a write of MOD_RESET, and answered before it takes effect (R422, R462). -/
def execElvefReset (seq : BitVec 8) (domain : BitVec 8) (unit : BitVec 16) (s : State) : Host.Outcome State Fault Refusal :=
  let (s, st) := s.askReset domain.toNat unit.toNat
  .next (s.elvef seq st [])

/-- SERVICE 0 locks scan only while SCAN_USED is 0 (R432). -/
def execElvefServiceLock (seq : BitVec 8) (s : State) : Host.Outcome State Fault Refusal :=
  if bitOf (s.reg 0x10010) 62 then .next (s.elvef seq 5 []) else .next ((s.setField 0x10010 63 63 0).elvef seq 0 [])

/-- SERVICE 1 unlocks scan only in IDLE with no active role (R432). -/
def execElvefServiceUnlock (seq : BitVec 8) (s : State) : Host.Outcome State Fault Refusal :=
  if s.jobState = 0 ∧ s.mod.pair.role ≠ 1 then .next ((s.setField 0x10010 63 63 1).elvef seq 0 []) else .next (s.elvef seq 5 [])

def execElvefLogRead (seq : BitVec 8) (index count : BitVec 8) (s : State) : Host.Outcome State Fault Refusal :=
  if logCount count.toNat then .next (s.elvef seq 0 (s.logBytes index.toNat count.toNat)) else .next (s.elvef seq 4 [])

/-! Firmware activation (R448, R449). -/

/-- The kinds a mask names. -/
def kindsOf (mask : Nat) : List Nat := ([1, 2, 3] : List Nat).filter fun k => mask / 2 ^ (k - 1) % 2 = 1

/-- The status that refuses an activation: 0x05 in the present state, 0x04 for its arguments; `live`: MODE 1. -/
def State.activateRefusal (s : State) (mask : Nat) (live : Bool) : Option Nat :=
  if s.mod.start.stage < 3 ∨ s.mod.start.act.isSome ∨ bitOf (s.reg 0x1B000) 8 then some 5
  else if mask = 0 ∨ 8 ≤ mask ∨ (live ∧ mask ≠ 1) then some 4
  else if (kindsOf mask).any fun k => decide ((s.flashBank (slotOf k (1 - s.activeBank k))).st ≠ 1) then some 4
  else none

/-- PENDING of the named kinds. -/
def State.setPending (s : State) (mask v : Nat) : State := (kindsOf mask).foldl (fun s k => s.setKept (secImage k) 5 5 v) s

/-- The kept PENDING fields of the named kinds. -/
def pendingItems (mask : Nat) : List MramItem := (kindsOf mask).map fun k => .field (secImage k) 5 5

/-- MODE 0: the other bank of every named kind becomes active at the next start. -/
def execFwActivateNextStart (seq : BitVec 8) (mask : BitVec 8) (s : State) : Host.Outcome State Fault Refusal :=
  match s.activateRefusal mask.toNat false with
  | some st => .next (s.elvef seq st [])
  | none => .next ((s.setPending mask.toNat 1).elvef seq (s.keptStatus (pendingItems mask.toNat)) [])

/-- MODE 2: a pending activation of the named kinds is cancelled. -/
def execFwActivateCancel (seq : BitVec 8) (mask : BitVec 8) (s : State) : Host.Outcome State Fault Refusal :=
  match s.activateRefusal mask.toNat false with
  | some st => .next (s.elvef seq st [])
  | none => .next ((s.setPending mask.toNat 0).elvef seq (s.keptStatus (pendingItems mask.toNat)) [])

def itemActive : MramItem := .field (secImage 1) 0 0

/-- MODE 1: the active bank becomes the other bank, and C1's management processors restart. -/
def execFwActivateLive (seq : BitVec 8) (mask : BitVec 8) (s : State) : Host.Outcome State Fault Refusal :=
  match s.activateRefusal mask.toNat true with
  | some st => .next (s.elvef seq st [])
  | none =>
    let old := s.activeBank 1
    let s := s.elvef seq (s.keptStatus [itemActive]) []
    .next ((s.setKept (secImage 1) 0 0 (1 - old)).modStart fun x => { x with act := some { state := 1, oldBank := old, since := s.now } })

/-- An activation ends with a result. -/
def State.endActivation (s : State) (result : Nat) : State := (s.setField 0x1B008 41 40 result).modStart fun x => { x with act := none }

/-- The active bank returns to the old image, and a chiplet already restarted runs it again (R449). -/
def State.revert (s : State) (a : Activation) : State :=
  let s := s.setKept (secImage 1) 0 0 a.oldBank
  let s := s.runImage 1 a.oldBank 1
  let s := if a.state = 1 then s else s.runImage 1 a.oldBank 0
  (s.passPrimary false).endActivation 2

/-- Management processors of C0 (false) or C1 have restarted: the chiplet checks the image (R441) and, once healthy, C1 takes the primary
role, or C0 takes it back. A failed check reverts (R449). -/
def execManagementProcessorsRestarted (c1 healthy : Bool) (s : State) : Host.Outcome State Fault Refusal :=
  match s.mod.start.act with
  | none => .next s
  | some a =>
    let bank := s.activeBank 1
    if c1 ∧ a.state = 1 then
      if !s.bankPasses 1 bank then .next ((s.checkBank 1 bank).revert a)
      else if !healthy then .next s
      else .next (((s.runImage 1 bank 1).passPrimary true).modStart fun x => { x with act := some { a with state := 2, since := s.now } })
    else if !c1 ∧ 2 ≤ a.state then
      if !s.bankPasses 1 bank then .next ((s.checkBank 1 bank).revert a)
      else
        let s := s.runImage 1 bank 0
        if healthy then .next ((s.passPrimary false).endActivation 1)
        else .next (s.modStart fun x => { x with act := some { a with state := 3 } })
    else .next s

/-- A chiplet is not healthy within 2 s of its restart (R449). -/
def execLiveActivationTimeout (s : State) : Host.Outcome State Fault Refusal :=
  match s.mod.start.act with
  | none => .next s
  | some a => .next ((s.reach (a.since + 2000000000)).revert a)

/-! The I3C target (R421). -/

def State.modI3c (s : State) (f : I3c → I3c) : State := s.modPorts fun p => { p with i3c := f p.i3c }

/-- The data a CCC returns. -/
def State.ccc (s : State) (data : List Byte) : State := s.modI3c fun x => { x with answer := data }

/-- The 48-bit provisional ID, most significant byte first. -/
def State.provisionalId (s : State) : List Byte :=
  bigBytes 6 (Config.mipiManufacturer % 2 ^ 15 * 2 ^ 33 + 0x0F07 * 2 ^ 16 + s.serial % 2 ^ 16)

/-- A target with no dynamic address takes one, and answers its provisional ID, BCR and DCR. -/
def execI3cEntdaa (addr : BitVec 7) (s : State) : Host.Outcome State Fault Refusal :=
  if s.mod.ports.i3c.address.isSome then .next s
  else .next ((s.ccc (s.provisionalId ++ [0x06, 0x00])).modI3c fun x => { x with address := some addr.toNat })
/-- The address for the target at static address 0x3A. -/
def execI3cSetdasa (addr : BitVec 7) (s : State) : Host.Outcome State Fault Refusal :=
  if s.mod.ports.i3c.address.isSome then .next s else .next (s.modI3c fun x => { x with address := some addr.toNat })
def execI3cRstdaa (s : State) : Host.Outcome State Fault Refusal := .next (s.modI3c fun x => { x with address := none })
/-- Target events are enabled and disabled by bit 0 of the event byte. -/
def execI3cEnec (events : BitVec 8) (s : State) : Host.Outcome State Fault Refusal :=
  .next (s.modI3c fun x => { x with events := x.events || events.getLsbD 0 })
def execI3cDisec (events : BitVec 8) (s : State) : Host.Outcome State Fault Refusal :=
  .next (s.modI3c fun x => { x with events := x.events && !events.getLsbD 0 })
def execI3cGetpid (s : State) : Host.Outcome State Fault Refusal := .next (s.ccc s.provisionalId)
def execI3cGetbcr (s : State) : Host.Outcome State Fault Refusal := .next (s.ccc [0x06])
def execI3cGetdcr (s : State) : Host.Outcome State Fault Refusal := .next (s.ccc [0x00])
/-- The status is not given: a free value. -/
def execI3cGetstatus (s : State) : Host.Outcome State Fault Refusal :=
  .next ({ s with freeNo := s.freeNo + 1 }.ccc ((List.range 2).map (Config.i3cStatus s.freeNo)))
/-- Lengths stay at or below 262 bytes. -/
def execI3cSetmwl (n : BitVec 16) (s : State) : Host.Outcome State Fault Refusal := .next (s.modI3c fun x => { x with mwl := min 262 n.toNat })
def execI3cGetmwl (s : State) : Host.Outcome State Fault Refusal := .next (s.ccc (bigBytes 2 s.mod.ports.i3c.mwl))
def execI3cSetmrl (n : BitVec 16) (s : State) : Host.Outcome State Fault Refusal := .next (s.modI3c fun x => { x with mrl := min 262 n.toNat })
/-- The length, and the one data byte of an IBI. -/
def execI3cGetmrl (s : State) : Host.Outcome State Fault Refusal := .next (s.ccc (bigBytes 2 s.mod.ports.i3c.mrl ++ [1]))
/-- Peripheral reset only: defining bytes 0x00 (none) and 0x01. -/
def execI3cRstact (action : BitVec 8) (s : State) : Host.Outcome State Fault Refusal :=
  if action.toNat ≤ 1 then .next (s.modI3c fun x => { x with rstact := action.toNat }) else .next s

/-! The UART (R433). -/

def State.uartAnswer (s : State) (status : Nat) (payload : List Byte) : State :=
  s.modPorts fun p => { p with uart := some { seq := 0, status := status, payload := payload } }

def execUartId (s : State) : Host.Outcome State Fault Refusal := .next (s.uartAnswer 0 s.idBytes)

/-- A register as the UART reads it: through C0, with no latch of its own. -/
def State.serviceRead (s : State) (off : Nat) : State × Word :=
  if off < 0x1000 then (s, s.windowWord false off) else s.readPlain off

def execUartR (off : BitVec 32) (s : State) : Host.Outcome State Fault Refusal :=
  if mrsOffset off.toNat then
    let (s, v) := s.serviceRead off.toNat
    .next (s.uartAnswer 0 (bytesOf 8 v.toNat))
  else .next (s.uartAnswer 4 [])

def execUartH (off : BitVec 16) (s : State) : Host.Outcome State Fault Refusal :=
  if healthOffset off.toNat then .next (s.uartAnswer 0 (s.healthBytes false off.toNat)) else .next (s.uartAnswer 4 [])

def execUartLog (index count : BitVec 8) (s : State) : Host.Outcome State Fault Refusal :=
  if logCount count.toNat then .next (s.uartAnswer 0 (s.logBytes index.toNat count.toNat)) else .next (s.uartAnswer 4 [])

/-- A byte the self-test of a unit left in that unit's memory; one outside the unit is not written. -/
def State.testByte (s : State) (u : TestUnit) (w : Nat × Byte) : State :=
  match u with
  | .memoryPort m =>
    if w.1 < hashedLimit ∧ hashPort w.1 = 8 + m.val then
      { s with lpddr := s.lpddr.write w.1 [w.2] }.healUnits [w.1 / 32]
    else s
  | .plane _ => s
  | .tower t =>
    if w.1 < 2 ^ 31 then s.putVault t.val w.1 [w.2] s.vaultNow
    else if 2 ^ 32 ≤ w.1 ∧ w.1 < 2 ^ 32 + 2 ^ 28 then
      let k : CoreId := ⟨t, ⟨(w.1 - 2 ^ 32) / 2 ^ 20 % 256, Nat.mod_lt _ (by decide)⟩⟩
      if s.absent k then s else s.putLane k (w.1 % 2 ^ 20 / 32) (placed (w.1 % 2 ^ 20) [w.2])
    else s

/-- A self-test in IDLE: its report, and what it left in the memory of its unit, are operands. -/
def execUartSelftest (unit : TestUnit) (report : List Byte) (writes : List (Nat × Byte)) (s : State) : Host.Outcome State Fault Refusal :=
  if s.jobState ≠ 0 then .next (s.uartAnswer 5 [])
  else .next ((writes.foldl (fun s w => s.testByte unit w) s).uartAnswer 0 report)

/-! JTAG (R431, R432). -/

def State.scanUnlocked (s : State) : Bool := bitOf (s.reg 0x10010) 63

/-- An instruction is selected; one that is not permitted selects BYPASS (R393, R431). -/
def State.selectJtag (s : State) (code : Nat) (permitted : Bool) : State :=
  s.modPorts fun p => { p with jtag := if permitted then code else 0, jtagOut := none }

/-- IDCODE: part number 0xF070 and Zhevino's JEDEC manufacturer code, which the manual names and does not give, in the places of IEEE 1149.1
(R431, assumption 46). -/
def idcode : Nat := Config.jtagVersion % 16 * 2 ^ 28 + 0xF070 * 2 ^ 12 + Config.jedecManufacturer % 2 ^ 11 * 2 + 1

def execJtagBypass (s : State) : Host.Outcome State Fault Refusal := .next (s.selectJtag 0 true)
def execJtagIdcode (s : State) : Host.Outcome State Fault Refusal :=
  .next ((s.selectJtag 1 true).modPorts fun p => { p with jtagOut := some idcode })
def execJtagSamplePreload (s : State) : Host.Outcome State Fault Refusal := .next (s.selectJtag 2 true)
def execJtagExtest (s : State) : Host.Outcome State Fault Refusal := .next (s.selectJtag 3 s.scanUnlocked)
def execJtagClamp (s : State) : Host.Outcome State Fault Refusal := .next (s.selectJtag 4 s.scanUnlocked)
def execJtagHighz (s : State) : Host.Outcome State Fault Refusal := .next (s.selectJtag 5 s.scanUnlocked)

/-- The place of a die among those whose clocks a scan has stopped. -/
def dieNo : Die → Nat
  | .compute t => t.val
  | .memoryPort m => 8 + m.val
  | .xChiplet x => 16 + x.val
  | .control c1 => if c1 then 23 else 22
  | .vault t => 24 + t.val

/-- A die's clocks stop, and its state is lost: it stands in reset until a module reset. -/
def State.stopDie (s : State) (d : Die) : State :=
  let s := s.modPorts fun p => { p with scanned := p.scanned.set false (dieNo d) true }
  match d with
  | .compute t => (s.loseDie t).modEnd t.val fun e => { e with inReset := true }
  | .vault t =>
    s.modVault t.val fun v => { Vault.reset with bonds := v.bonds, turning := v.turning, damage := v.damage, scrubLane := v.scrubLane }
  | _ => s.resetChiplet (dieNo d)

/-- A private scan or memory-test instruction, while scan is unlocked: SCAN_USED is set, and the dies it reaches lose their state (R432). -/
def execJtagPrivateScan (dies : List Die) (s : State) : Host.Outcome State Fault Refusal :=
  if s.scanUnlocked then .next (dies.foldl State.stopDie ((s.setField 0x10010 62 62 1).selectJtag 6 true))
  else .next (s.selectJtag 6 false)

end Sys2Proof.Machine
end

