-- ==== Sys2Proof/Machine/Vector.lean ====
section
/-!
DEFINITION. The vector, predicate, special-function and top-k instructions (R125 to R131).
-/
namespace Sys2Proof.Machine
open Sys2Proof

/-- The lanes a governing predicate selects, in order. -/
def governed (pg : Word) : List Nat := (List.range 64).filter fun i => pg.getLsbD i

/-- ROUND of CORE_NUMCTL as it acts on vector arithmetic: 0b01 toward zero, every other value nearest even (R96, R97). -/
def Thread.rounding (t : Thread) : Rounding := if t.numctl.field 62 61 = 1 then .towardZero else .nearestEven

/-! The shapes. -/

/-- A vector result on governed lanes, with latency `lat` (R61, R126, R129). -/
def vecOp (lat : Nat) (c : Ctx) (pg : PReg) (vd : VReg) (deps : List Dep) (f : Thread → Nat → Lane) (s : State) :
    Host.Outcome State Fault Refusal :=
  let s := s.arrive c
  .next (s.issueSeq c (needs (.p pg :: .v vd :: deps)) fun s =>
    let t := s.th c
    (s.startLong c lat (.v vd.val ((governed (t.pr pg)).map fun i => (i, f t i)))).pulse c.coreId 0x048 (some c.thread.val) 1)

/-- Two source vectors, lane by lane. -/
def vec2 (lat : Nat) (f : Rounding → Lane → Lane → Lane) (c : Ctx) (pg : PReg) (vd va vb : VReg) (s : State) :
    Host.Outcome State Fault Refusal :=
  vecOp lat c pg vd [.v va, .v vb] (fun t i => f t.rounding (t.lane va i) (t.lane vb i)) s

/-- One source vector, lane by lane. -/
def vec1 (lat : Nat) (f : Lane → Lane) (c : Ctx) (pg : PReg) (vd va : VReg) (s : State) : Host.Outcome State Fault Refusal :=
  vecOp lat c pg vd [.v va] (fun t i => f (t.lane va i)) s

/-- One stage of a reduction: lane i becomes the combination of lanes i and i + h (R128). -/
def reduceStage (f : Lane → Lane → Lane) (h : Nat) (xs : List Lane) : List Lane :=
  (List.range h).map fun i => f (xs.getD i 0) (xs.getD (i + h) 0)

/-- The six stages of R128. -/
def reduce (f : Lane → Lane → Lane) (xs : List Lane) : Lane :=
  ([32, 16, 8, 4, 2, 1].foldl (fun ys h => reduceStage f h ys) xs).getD 0 0

/-- A reduction: `idle` stands for an ungoverned lane; lane 0 receives the result and lanes 1 to 63 receive +0 (R128). -/
def reduceOp (f : Rounding → Lane → Lane → Lane) (idle : Lane) (c : Ctx) (pg : PReg) (vd va : VReg) (s : State) :
    Host.Outcome State Fault Refusal :=
  let s := s.arrive c
  .next (s.issueSeq c (needs [.p pg, .v vd, .v va]) fun s =>
    let t := s.th c
    let xs := (List.range 64).map fun i => if (t.pr pg).getLsbD i then t.lane va i else idle
    (s.startLong c 8 (.v vd.val ((List.range 64).map fun i => (i, if i = 0 then reduce (f t.rounding) xs else 0)))).pulse
      c.coreId 0x048 (some c.thread.val) 1)

/-- A local vector load (R125). -/
def vloadOp (kind : LoadKind) (n : Nat) (c : Ctx) (pg : PReg) (vd : VReg) (xs : XReg) (imm : BitVec 32) (s : State) :
    Host.Outcome State Fault Refusal :=
  let s := s.arrive c
  let off := localOffset ((s.th c).xr xs) imm
  .next (s.issueSeq c { needs [.p pg, .v vd, .x xs] with early := [.x xs], fault := localFault off 32 n } fun s =>
    s.startLoad c kind vd.val off.toNat n ((s.th c).pr pg))

/-- A local vector store: `w` bytes for each governed lane (R125). -/
def vstoreOp (w : Nat) (f : Thread → Lane → Nat) (c : Ctx) (pg : PReg) (vs : VReg) (xs : XReg) (imm : BitVec 32) (s : State) :
    Host.Outcome State Fault Refusal :=
  let s := s.arrive c
  let off := localOffset ((s.th c).xr xs) imm
  .next (s.issueSeq c { needs [.p pg, .v vs, .x xs] with early := [.x xs], fault := localFault off 32 (64 * w) } fun s =>
    let t := s.th c
    s.startStore c ((governed (t.pr pg)).flatMap fun i => placed (off.toNat + w * i) (bytesOf w (f t (t.lane vs i)))))

/-- A predicate result, written at issue (R130). -/
def predNow (c : Ctx) (pd : PReg) (deps : List Dep) (f : Thread → Word) (s : State) : Host.Outcome State Fault Refusal :=
  let s := s.arrive c
  .next (s.issueSeq c (needs (.p pd :: deps)) fun s => s.modTh c fun t => t.setP pd (f t))

/-- A special-function operation: latency 16, its unit held for 4 cycles (R45, R131). -/
def sfuOp (fn : Config.Sfu) (c : Ctx) (pg : PReg) (vd va : VReg) (s : State) : Host.Outcome State Fault Refusal :=
  let s := s.arrive c
  .next (s.issueSeq c { needs [.p pg, .v vd, .v va] with free := (s.core c.coreId).sfuFree } fun s =>
    let t := s.th c
    ((s.startLong c 16 (.v vd.val ((governed (t.pr pg)).map fun i => (i, sfu fn (t.lane va i))))).modCore c.coreId fun k =>
      { k with sfuFree := k.cycle + 4 }).pulse c.coreId 0x049 (some c.thread.val) 1)

/-! The meanings. -/

/-- `vld` (R125). -/
def execVld (c : Ctx) (pg : PReg) (vd : VReg) (xs : XReg) (imm : BitVec 32) (s : State) := vloadOp .vec32 256 c pg vd xs imm s
/-- `vldbf` (R125). -/
def execVldbf (c : Ctx) (pg : PReg) (vd : VReg) (xs : XReg) (imm : BitVec 32) (s : State) := vloadOp .vecBf 128 c pg vd xs imm s
/-- `vldh` (R125). -/
def execVldh (c : Ctx) (pg : PReg) (vd : VReg) (xs : XReg) (imm : BitVec 32) (s : State) := vloadOp .vecHalf 128 c pg vd xs imm s
/-- `vst` (R97, R103, R125). -/
def execVst (c : Ctx) (pg : PReg) (vs : VReg) (xs : XReg) (imm : BitVec 32) (s : State) := vstoreOp 4 (fun _ w => w.toNat) c pg vs xs imm s
/-- `vstbf` (R97, R103, R125). -/
def execVstbf (c : Ctx) (pg : PReg) (vs : VReg) (xs : XReg) (imm : BitVec 32) (s : State) := vstoreOp 2 (fun _ w => toBf16 (f32 w)) c pg vs xs imm s
/-- `vsth` (R97, R103, R125). -/
def execVsth (c : Ctx) (pg : PReg) (vs : VReg) (xs : XReg) (imm : BitVec 32) (s : State) := vstoreOp 2 (fun t w => toF16 t.rounding (f32 w)) c pg vs xs imm s
/-- `vstp`: LEN bytes of the image from OFF, written at xs; no alignment rule (R125). -/
def execVstp (c : Ctx) (vs : VReg) (xs : XReg) (off lenM1 : BitVec 8) (s : State) : Host.Outcome State Fault Refusal :=
  let s := s.arrive c
  let len := lenM1.toNat + 1
  let at' := localOffset ((s.th c).xr xs) 0
  let fault := if 256 < off.toNat + len then some (1, 0) else localFault at' 1 len
  .next (s.issueSeq c { needs [.v vs, .x xs] with early := [.x xs], fault := fault } fun s =>
    s.startStore c (placed at'.toNat ((((s.th c).image vs).drop off.toNat).take len)))
/-- `vadd` (R126). -/
def execVadd (c : Ctx) (pg : PReg) (vd va vb : VReg) (s : State) := vec2 4 (fAdd) c pg vd va vb s
/-- `vsub` (R126). -/
def execVsub (c : Ctx) (pg : PReg) (vd va vb : VReg) (s : State) := vec2 4 (fSub) c pg vd va vb s
/-- `vmul` (R126). -/
def execVmul (c : Ctx) (pg : PReg) (vd va vb : VReg) (s : State) := vec2 4 (fMul) c pg vd va vb s
/-- `vmin` (R126). -/
def execVmin (c : Ctx) (pg : PReg) (vd va vb : VReg) (s : State) := vec2 4 (fun _ => fMin) c pg vd va vb s
/-- `vmax` (R126). -/
def execVmax (c : Ctx) (pg : PReg) (vd va vb : VReg) (s : State) := vec2 4 (fun _ => fMax) c pg vd va vb s
/-- `vfma`: va x vb + vc, rounded once (R126). -/
def execVfma (c : Ctx) (pg : PReg) (vd va vb vc : VReg) (s : State) :=
  vecOp 4 c pg vd [.v va, .v vb, .v vc] (fun t i => fFma t.rounding (t.lane va i) (t.lane vb i) (t.lane vc i)) s
/-- `vabs` (R126). -/
def execVabs (c : Ctx) (pg : PReg) (vd va : VReg) (s : State) := vec1 4 fAbs c pg vd va s
/-- `vneg` (R126). -/
def execVneg (c : Ctx) (pg : PReg) (vd va : VReg) (s : State) := vec1 4 fNeg c pg vd va s
/-- `vcmp`: bit i of pd is the result for lane i under PG, and 0 elsewhere (R127). -/
def execVcmp (c : Ctx) (pg : PReg) (cc : Cond) (pd : PReg) (va vb : VReg) (s : State) : Host.Outcome State Fault Refusal :=
  let s := s.arrive c
  .next (s.issueSeq c (needs [.p pg, .p pd, .v va, .v vb]) fun s =>
    let t := s.th c
    (s.startLong c 4 (.p pd.val (maskOf fun i => (t.pr pg).getLsbD i && cc.holds (t.lane va i) (t.lane vb i)))).pulse
      c.coreId 0x048 (some c.thread.val) 1)
/-- `vsel`: va where PG is 1, vb where PG is 0; all lanes written (R126). -/
def execVsel (c : Ctx) (pg : PReg) (vd va vb : VReg) (s : State) : Host.Outcome State Fault Refusal :=
  let s := s.arrive c
  .next (s.issueSeq c (needs [.p pg, .v vd, .v va, .v vb]) fun s =>
    let t := s.th c
    (s.startLong c 4 (.v vd.val ((List.range 64).map fun i =>
      (i, if (t.pr pg).getLsbD i then t.lane va i else t.lane vb i)))).pulse c.coreId 0x048 (some c.thread.val) 1)
/-- `vredsum` (R128). -/
def execVredsum (c : Ctx) (pg : PReg) (vd va : VReg) (s : State) := reduceOp (fAdd) 0x80000000 c pg vd va s
/-- `vredmax` (R128). -/
def execVredmax (c : Ctx) (pg : PReg) (vd va : VReg) (s : State) := reduceOp (fun _ => fMax) nan32 c pg vd va s
/-- `vredmin` (R128). -/
def execVredmin (c : Ctx) (pg : PReg) (vd va : VReg) (s : State) := reduceOp (fun _ => fMin) nan32 c pg vd va s
/-- `viadd` (R129). -/
def execViadd (c : Ctx) (pg : PReg) (vd va vb : VReg) (s : State) := vec2 4 (fun _ a b => a + b) c pg vd va vb s
/-- `visub` (R129). -/
def execVisub (c : Ctx) (pg : PReg) (vd va vb : VReg) (s : State) := vec2 4 (fun _ a b => a - b) c pg vd va vb s
/-- `viand` (R129). -/
def execViand (c : Ctx) (pg : PReg) (vd va vb : VReg) (s : State) := vec2 4 (fun _ a b => a &&& b) c pg vd va vb s
/-- `vior` (R129). -/
def execVior (c : Ctx) (pg : PReg) (vd va vb : VReg) (s : State) := vec2 4 (fun _ a b => a ||| b) c pg vd va vb s
/-- `vixor` (R129). -/
def execVixor (c : Ctx) (pg : PReg) (vd va vb : VReg) (s : State) := vec2 4 (fun _ a b => a ^^^ b) c pg vd va vb s
/-- `vishl` (R129). -/
def execVishl (c : Ctx) (pg : PReg) (vd va vb : VReg) (s : State) := vec2 4 (fun _ a b => a <<< (b.toNat % 32)) c pg vd va vb s
/-- `vishr` (R129). -/
def execVishr (c : Ctx) (pg : PReg) (vd va vb : VReg) (s : State) := vec2 4 (fun _ a b => a >>> (b.toNat % 32)) c pg vd va vb s
/-- `visra` (R129). -/
def execVisra (c : Ctx) (pg : PReg) (vd va vb : VReg) (s : State) := vec2 4 (fun _ a b => a.sshiftRight (b.toNat % 32)) c pg vd va vb s
/-- `vimin` (R129). -/
def execVimin (c : Ctx) (pg : PReg) (vd va vb : VReg) (s : State) := vec2 4 (fun _ a b => if a.slt b then a else b) c pg vd va vb s
/-- `vimax` (R129). -/
def execVimax (c : Ctx) (pg : PReg) (vd va vb : VReg) (s : State) := vec2 4 (fun _ a b => if a.slt b then b else a) c pg vd va vb s
/-- `viminu` (R129). -/
def execViminu (c : Ctx) (pg : PReg) (vd va vb : VReg) (s : State) := vec2 4 (fun _ a b => if a < b then a else b) c pg vd va vb s
/-- `vimaxu` (R129). -/
def execVimaxu (c : Ctx) (pg : PReg) (vd va vb : VReg) (s : State) := vec2 4 (fun _ a b => if a < b then b else a) c pg vd va vb s
/-- `vcvtfi`: FP32 to signed integer (R129). -/
def execVcvtfi (c : Ctx) (pg : PReg) (vd va : VReg) (s : State) := vec1 4 fToInt c pg vd va s
/-- `vcvtif`: signed integer to FP32 (R129). -/
def execVcvtif (c : Ctx) (pg : PReg) (vd va : VReg) (s : State) := vec1 4 intToF c pg vd va s
/-- `vmov`: copy (R129). -/
def execVmov (c : Ctx) (pg : PReg) (vd va : VReg) (s : State) := vec1 2 (fun a => a) c pg vd va s
/-- `vbcast`: xs[31:0] into every governed lane (R129). -/
def execVbcast (c : Ctx) (pg : PReg) (vd : VReg) (xs : XReg) (s : State) :=
  vecOp 2 c pg vd [.x xs] (fun t _ => (t.xr xs).truncate 32) s
/-- `vidx`: lane i receives i (R129). -/
def execVidx (c : Ctx) (pg : PReg) (vd : VReg) (s : State) := vecOp 2 c pg vd [] (fun _ i => BitVec.ofNat 32 i) s
/-- `vext`: one lane, zero-extended, into xd; latency 2 (R129). -/
def execVext (c : Ctx) (xd : XReg) (va : VReg) (lane : Fin 64) (s : State) : Host.Outcome State Fault Refusal :=
  let s := s.arrive c
  .next (s.issueSeq c (needs [.x xd, .v va]) fun s =>
    (s.startLong c 2 (.x xd.val (((s.th c).lane va lane.val).zeroExtend 64))).pulse c.coreId 0x048 (some c.thread.val) 1)
/-- `vins`: xs[31:0] into one lane, the others kept; latency 2 (R129). -/
def execVins (c : Ctx) (vd : VReg) (xs : XReg) (lane : Fin 64) (s : State) : Host.Outcome State Fault Refusal :=
  let s := s.arrive c
  .next (s.issueSeq c (needs [.v vd, .x xs]) fun s =>
    (s.startLong c 2 (.v vd.val [(lane.val, ((s.th c).xr xs).truncate 32)])).pulse c.coreId 0x048 (some c.thread.val) 1)
/-- `pand` (R130). -/
def execPand (c : Ctx) (pd pa pb : PReg) (s : State) := predNow c pd [.p pa, .p pb] (fun t => let a := t.pr pa; let b := t.pr pb; a &&& b) s
/-- `por` (R130). -/
def execPor (c : Ctx) (pd pa pb : PReg) (s : State) := predNow c pd [.p pa, .p pb] (fun t => let a := t.pr pa; let b := t.pr pb; a ||| b) s
/-- `pxor` (R130). -/
def execPxor (c : Ctx) (pd pa pb : PReg) (s : State) := predNow c pd [.p pa, .p pb] (fun t => let a := t.pr pa; let b := t.pr pb; a ^^^ b) s
/-- `pandn` (R130). -/
def execPandn (c : Ctx) (pd pa pb : PReg) (s : State) := predNow c pd [.p pa, .p pb] (fun t => let a := t.pr pa; let b := t.pr pb; a &&& ~~~b) s
/-- `pnot` (R130). -/
def execPnot (c : Ctx) (pd pa : PReg) (s : State) := predNow c pd [.p pa] (fun t => ~~~(t.pr pa)) s
/-- `pmovx` (R130). -/
def execPmovx (c : Ctx) (pd : PReg) (xs : XReg) (s : State) := predNow c pd [.x xs] (fun t => t.xr xs) s
/-- `pmovp` (R130). -/
def execPmovp (c : Ctx) (xd : XReg) (pa : PReg) (s : State) : Host.Outcome State Fault Refusal :=
  let s := s.arrive c
  .next (s.issueSeq c (needs [.x xd, .p pa]) fun s => s.modTh c fun t => t.setX xd (t.pr pa))
/-- `vsf.exp` (R131). -/
def execVsfExp (c : Ctx) (pg : PReg) (vd va : VReg) (s : State) := sfuOp .exp c pg vd va s
/-- `vsf.log` (R131). -/
def execVsfLog (c : Ctx) (pg : PReg) (vd va : VReg) (s : State) := sfuOp .log c pg vd va s
/-- `vsf.rsqrt` (R131). -/
def execVsfRsqrt (c : Ctx) (pg : PReg) (vd va : VReg) (s : State) := sfuOp .rsqrt c pg vd va s
/-- `vsf.sigmoid` (R131). -/
def execVsfSigmoid (c : Ctx) (pg : PReg) (vd va : VReg) (s : State) := sfuOp .sigmoid c pg vd va s
/-- `vsf.erf` (R131). -/
def execVsfErf (c : Ctx) (pg : PReg) (vd va : VReg) (s : State) := sfuOp .erf c pg vd va s
/-- `topk`: N checked first (0x07), then alignment, then range; the unit and its local turns held (R45, R63, R131). -/
def execTopk (c : Ctx) (vd : VReg) (xa xn : XReg) (s : State) : Host.Outcome State Fault Refusal :=
  let s := s.arrive c
  let n := ((s.th c).xr xn).toNat
  let off := low20 ((s.th c).xr xa)
  let fault := if n < 1 ∨ 1024 < n then some (7, 0) else localFault off 32 (4 * n)
  .next (s.issueSeq c { needs [.v vd, .x xa, .x xn] with
      early := [.x xa, .x xn], fault := fault, free := (s.core c.coreId).topkFree } fun s =>
    ((s.startTopk c vd.val off n).modCore c.coreId fun k => { k with topkFree := k.cycle + 40 }).pulse
      c.coreId 0x04A (some c.thread.val) 1)

end Sys2Proof.Machine
end

