-- ==== Sys2Proof/Machine/Pack.lean ====
section
/-!
DEFINITION. The pack and unpack instructions (R100 to R102, R132, R133).
-/
namespace Sys2Proof.Machine
open Sys2Proof

/-- A dense element format other than BF16: codes 0x0 to 0x5 (R133). -/
def mxElem (code : BitVec 4) : Option Elem :=
  match Fmt.ofCode code with
  | some (.dense .bf16) => none
  | some (.dense e) => some e
  | _ => none

/-- An S24 element format: codes 0x8 to 0xA (R133). -/
def s24Elem (code : BitVec 4) : Option Elem :=
  match Fmt.ofCode code with
  | some (.s24 e) => some e
  | _ => none

/-- Stochastic rounding is in force (R96, R97). -/
def Thread.stochastic (t : Thread) : Bool := decide (t.numctl.field 62 61 = 2)

/-- How value `j` of a pack is rounded: field j mod 4 of draw floor(j / 4) in the stochastic mode (R99 to R101). -/
def packRound (t : Thread) (key : Word) (thread : Nat) (j : Nat) : ElemRound :=
  if t.stochastic then .stochastic (drawField (drawOf key thread (t.numctl.field 60 0 + j / 4)) (j % 4))
  else .det t.rounding

/-- DRAWS after a pack that takes `n` draws; none are taken outside the stochastic mode (R98, R100). -/
def Thread.takeDraws (t : Thread) (n : Nat) : Thread :=
  if t.stochastic then { t with numctl := putField t.numctl 60 0 (t.numctl.field 60 0 + n) } else t

/-- The lanes of a 256-byte image. -/
def imageLanes (bs : List Byte) : List (Nat × Lane) :=
  (List.range 64).map fun i => (i, BitVec.ofNat 32 (ofBytes ((bs.drop (4 * i)).take 4)))

/-- The MX image of two blocks (R132). -/
def mxImage (e : Elem) (blocks : List (Nat × List Nat)) : List Byte :=
  let w := e.width
  let els := blocks.flatMap fun b => bytesOf (4 * w) (joinBits w b.2)
  els ++ List.replicate (64 - els.length) 0 ++ blocks.map (fun b => BitVec.ofNat 8 b.1) ++ List.replicate 190 0

/-- One S24 block as its bytes (R89). -/
def s24Bytes (e : Elem) (b : Nat × List Nat × List Nat) : List Byte :=
  bytesOf (s24Size e) (b.1 + 2 ^ 8 * joinBits 3 b.2.1 + 2 ^ 32 * joinBits e.width b.2.2)

/-- A pack: image and report written with latency 4, draws taken at issue (R133). -/
def packOp (c : Ctx) (vd va : VReg) (xd : XReg) (accepted : Bool) (draws : Nat) (f : Thread → Word → List Byte × Word) (s : State) :
    Host.Outcome State Fault Refusal :=
  let s := s.arrive c
  .next (s.issueSeq c { needs [.v vd, .v va, .x xd] with fault := if accepted then none else some (1, 0) } fun s =>
    let t := s.th c
    let (img, rep) := f t (s.core c.coreId).key
    ((s.startLong c 4 (.vx vd.val (imageLanes img) xd.val rep)).modTh c fun t => t.takeDraws draws).pulse
      c.coreId 0x048 (some c.thread.val) 1)

/-- Lanes 0-31 or 32-63 of a register (R100). -/
def Thread.blockOf (t : Thread) (v : VReg) (b : Nat) : List Lane := (List.range 32).map fun i => t.lane v (32 * b + i)

/-- `vpk`: the MX image of va's two blocks (R100, R133). -/
def execVpk (c : Ctx) (vd va : VReg) (xd : XReg) (code : BitVec 4) (s : State) : Host.Outcome State Fault Refusal :=
  match mxElem code with
  | none => packOp c vd va xd false 0 (fun _ _ => ([], 0)) s
  | some e => packOp c vd va xd true 16 (fun t key =>
      let bl := [0, 1].map fun b => mxPack e (fun i => packRound t key c.thread.val (32 * b + i)) (t.blockOf va b)
      (mxImage e bl, zeroReport e bl)) s

/-- `vpk24`: the S24 image of va's two blocks (R101, R133). -/
def execVpk24 (c : Ctx) (vd va : VReg) (xd : XReg) (code : BitVec 4) (s : State) : Host.Outcome State Fault Refusal :=
  match s24Elem code with
  | none => packOp c vd va xd false 0 (fun _ _ => ([], 0)) s
  | some e => packOp c vd va xd true 8 (fun t key =>
      let bl := [0, 1].map fun b => s24Pack e (fun j => packRound t key c.thread.val (16 * b + j)) (t.blockOf va b)
      let img := bl.flatMap (s24Bytes e)
      (img ++ List.replicate (256 - img.length) 0, zeroReport e (bl.map fun b => (b.1, b.2.2)))) s

/-- Bytes of an image from a position, as one number. -/
def imageNat (img : List Byte) (start n : Nat) : Nat := ofBytes ((img.drop start).take n)

/-- `vupk`: 64 FP32 values from the MX image in va (R102, R133). -/
def execVupk (c : Ctx) (vd va : VReg) (code : BitVec 4) (s : State) : Host.Outcome State Fault Refusal :=
  let s := s.arrive c
  let e := (mxElem code).getD .e4m3
  .next (s.issueSeq c { needs [.v vd, .v va] with fault := if (mxElem code).isSome then none else some (1, 0) } fun s =>
    let t := s.th c
    let img := t.image va
    let w := e.width
    (s.startLong c 4 (.v vd.val ((List.range 64).map fun i =>
      (i, unpackElem e t.rounding (imageNat img (64 + i / 32) 1)
        (bitField (imageNat img (4 * w * (i / 32)) (4 * w)) (w * (i % 32)) w))))).pulse c.coreId 0x048 (some c.thread.val) 1)

/-- `vupk24`: 64 FP32 values from the S24 image in va; pruned positions and reserved groups give zero, and each reserved
group is counted (R88, R102, R133). -/
def execVupk24 (c : Ctx) (vd va : VReg) (code : BitVec 4) (s : State) : Host.Outcome State Fault Refusal :=
  let s := s.arrive c
  let e := (s24Elem code).getD .e4m3
  .next (s.issueSeq c { needs [.v vd, .v va] with fault := if (s24Elem code).isSome then none else some (1, 0) } fun s =>
    let t := s.th c
    let img := t.image va
    let z := s24Size e
    let blk := fun b => imageNat img (z * b) z
    let s := s.startLong c 4 (.v vd.val ((List.range 64).map fun i =>
      let b := blk (i / 32)
      (i, if bitField b 0 8 = 255 then nan32
          else match s24At e b (i % 32) with
            | none => 0
            | some code => unpackElem e t.rounding (bitField b 0 8) code)))
    let s := s.pulse c.coreId 0x045 none (s24Reserved (blk 0) + s24Reserved (blk 1))
    s.pulse c.coreId 0x048 (some c.thread.val) 1)

end Sys2Proof.Machine
end

