-- ==== Sys2Proof/Machine/RemoteMem.lean ====
section
/-!
DEFINITION. Remote loads, stores and atomics (R139, R140), one meaning for each.
-/
namespace Sys2Proof.Machine
open Sys2Proof

/-- `rld1u` (R139). -/
def execRld1u (c : Ctx) (xd xa : XReg) (s : State) := rloadOp 1 false c xd xa s
/-- `rld2u` (R139). -/
def execRld2u (c : Ctx) (xd xa : XReg) (s : State) := rloadOp 2 false c xd xa s
/-- `rld4u` (R139). -/
def execRld4u (c : Ctx) (xd xa : XReg) (s : State) := rloadOp 4 false c xd xa s
/-- `rld8` (R139). -/
def execRld8 (c : Ctx) (xd xa : XReg) (s : State) := rloadOp 8 false c xd xa s
/-- `rld1s` (R139). -/
def execRld1s (c : Ctx) (xd xa : XReg) (s : State) := rloadOp 1 true c xd xa s
/-- `rld2s` (R139). -/
def execRld2s (c : Ctx) (xd xa : XReg) (s : State) := rloadOp 2 true c xd xa s
/-- `rld4s` (R139). -/
def execRld4s (c : Ctx) (xd xa : XReg) (s : State) := rloadOp 4 true c xd xa s
/-- `rst1` (R139). -/
def execRst1 (c : Ctx) (xv xa : XReg) (s : State) := rstoreOp 1 false c xv xa s
/-- `rst1.db` (R139). -/
def execRst1Db (c : Ctx) (xv xa : XReg) (s : State) := rstoreOp 1 true c xv xa s
/-- `rst2` (R139). -/
def execRst2 (c : Ctx) (xv xa : XReg) (s : State) := rstoreOp 2 false c xv xa s
/-- `rst2.db` (R139). -/
def execRst2Db (c : Ctx) (xv xa : XReg) (s : State) := rstoreOp 2 true c xv xa s
/-- `rst4` (R139). -/
def execRst4 (c : Ctx) (xv xa : XReg) (s : State) := rstoreOp 4 false c xv xa s
/-- `rst4.db` (R139). -/
def execRst4Db (c : Ctx) (xv xa : XReg) (s : State) := rstoreOp 4 true c xv xa s
/-- `rst8` (R139). -/
def execRst8 (c : Ctx) (xv xa : XReg) (s : State) := rstoreOp 8 false c xv xa s
/-- `rst8.db` (R139). -/
def execRst8Db (c : Ctx) (xv xa : XReg) (s : State) := rstoreOp 8 true c xv xa s
/-- `radd4` (R140). -/
def execRadd4 (c : Ctx) (xa xs : XReg) (s : State) := atomicOp 0 4 c xa xs s
/-- `radd4.f` (R140). -/
def execRadd4F (c : Ctx) (xd xa xs : XReg) (s : State) := fetchOp 0 4 none c xd xa xs s
/-- `radd8` (R140). -/
def execRadd8 (c : Ctx) (xa xs : XReg) (s : State) := atomicOp 1 8 c xa xs s
/-- `radd8.f` (R140). -/
def execRadd8F (c : Ctx) (xd xa xs : XReg) (s : State) := fetchOp 1 8 none c xd xa xs s
/-- `rfadd` (R140). -/
def execRfadd (c : Ctx) (xa xs : XReg) (s : State) := atomicOp 2 4 c xa xs s
/-- `rfadd.f` (R140). -/
def execRfaddF (c : Ctx) (xd xa xs : XReg) (s : State) := fetchOp 2 4 none c xd xa xs s
/-- `rbfadd` (R140). -/
def execRbfadd (c : Ctx) (xa xs : XReg) (s : State) := atomicOp 3 2 c xa xs s
/-- `rbfadd.f` (R140). -/
def execRbfaddF (c : Ctx) (xd xa xs : XReg) (s : State) := fetchOp 3 2 none c xd xa xs s
/-- `rfmin` (R140). -/
def execRfmin (c : Ctx) (xa xs : XReg) (s : State) := atomicOp 4 4 c xa xs s
/-- `rfmin.f` (R140). -/
def execRfminF (c : Ctx) (xd xa xs : XReg) (s : State) := fetchOp 4 4 none c xd xa xs s
/-- `rfmax` (R140). -/
def execRfmax (c : Ctx) (xa xs : XReg) (s : State) := atomicOp 5 4 c xa xs s
/-- `rfmax.f` (R140). -/
def execRfmaxF (c : Ctx) (xd xa xs : XReg) (s : State) := fetchOp 5 4 none c xd xa xs s
/-- `rmin4` (R140). -/
def execRmin4 (c : Ctx) (xa xs : XReg) (s : State) := atomicOp 6 4 c xa xs s
/-- `rmin4.f` (R140). -/
def execRmin4F (c : Ctx) (xd xa xs : XReg) (s : State) := fetchOp 6 4 none c xd xa xs s
/-- `rmin8` (R140). -/
def execRmin8 (c : Ctx) (xa xs : XReg) (s : State) := atomicOp 7 8 c xa xs s
/-- `rmin8.f` (R140). -/
def execRmin8F (c : Ctx) (xd xa xs : XReg) (s : State) := fetchOp 7 8 none c xd xa xs s
/-- `rmax4` (R140). -/
def execRmax4 (c : Ctx) (xa xs : XReg) (s : State) := atomicOp 8 4 c xa xs s
/-- `rmax4.f` (R140). -/
def execRmax4F (c : Ctx) (xd xa xs : XReg) (s : State) := fetchOp 8 4 none c xd xa xs s
/-- `rmax8` (R140). -/
def execRmax8 (c : Ctx) (xa xs : XReg) (s : State) := atomicOp 9 8 c xa xs s
/-- `rmax8.f` (R140). -/
def execRmax8F (c : Ctx) (xd xa xs : XReg) (s : State) := fetchOp 9 8 none c xd xa xs s
/-- `rminu4` (R140). -/
def execRminu4 (c : Ctx) (xa xs : XReg) (s : State) := atomicOp 10 4 c xa xs s
/-- `rminu4.f` (R140). -/
def execRminu4F (c : Ctx) (xd xa xs : XReg) (s : State) := fetchOp 10 4 none c xd xa xs s
/-- `rminu8` (R140). -/
def execRminu8 (c : Ctx) (xa xs : XReg) (s : State) := atomicOp 11 8 c xa xs s
/-- `rminu8.f` (R140). -/
def execRminu8F (c : Ctx) (xd xa xs : XReg) (s : State) := fetchOp 11 8 none c xd xa xs s
/-- `rmaxu4` (R140). -/
def execRmaxu4 (c : Ctx) (xa xs : XReg) (s : State) := atomicOp 12 4 c xa xs s
/-- `rmaxu4.f` (R140). -/
def execRmaxu4F (c : Ctx) (xd xa xs : XReg) (s : State) := fetchOp 12 4 none c xd xa xs s
/-- `rmaxu8` (R140). -/
def execRmaxu8 (c : Ctx) (xa xs : XReg) (s : State) := atomicOp 13 8 c xa xs s
/-- `rmaxu8.f` (R140). -/
def execRmaxu8F (c : Ctx) (xd xa xs : XReg) (s : State) := fetchOp 13 8 none c xd xa xs s
/-- `rand8` (R140). -/
def execRand8 (c : Ctx) (xa xs : XReg) (s : State) := atomicOp 14 8 c xa xs s
/-- `rand8.f` (R140). -/
def execRand8F (c : Ctx) (xd xa xs : XReg) (s : State) := fetchOp 14 8 none c xd xa xs s
/-- `ror8` (R140). -/
def execRor8 (c : Ctx) (xa xs : XReg) (s : State) := atomicOp 15 8 c xa xs s
/-- `ror8.f` (R140). -/
def execRor8F (c : Ctx) (xd xa xs : XReg) (s : State) := fetchOp 15 8 none c xd xa xs s
/-- `rxor8` (R140). -/
def execRxor8 (c : Ctx) (xa xs : XReg) (s : State) := atomicOp 16 8 c xa xs s
/-- `rxor8.f` (R140). -/
def execRxor8F (c : Ctx) (xd xa xs : XReg) (s : State) := fetchOp 16 8 none c xd xa xs s
/-- `rswap8.f` (R140). -/
def execRswap8F (c : Ctx) (xd xa xs : XReg) (s : State) := fetchOp 0x11 8 none c xd xa xs s
/-- `rcas8.f` (R140). -/
def execRcas8F (c : Ctx) (xd xa xs xc : XReg) (s : State) := fetchOp 0x12 8 (some xc) c xd xa xs s

end Sys2Proof.Machine
end

