-- ==== Sys2Proof/Machine/Scalar.lean ====
section
/-!
DEFINITION. The scalar instructions (R120 to R124).
-/
namespace Sys2Proof.Machine
open Sys2Proof

/-- The results of the scalar ALU (R120). -/
def aluAdd (a b : Word) : Word := a + b
def aluSub (a b : Word) : Word := a - b
def aluAnd (a b : Word) : Word := a &&& b
def aluOr (a b : Word) : Word := a ||| b
def aluXor (a b : Word) : Word := a ^^^ b
def aluShl (a b : Word) : Word := a <<< (b.toNat % 64)
def aluShr (a b : Word) : Word := a >>> (b.toNat % 64)
def aluSra (a b : Word) : Word := a.sshiftRight (b.toNat % 64)
def aluSlt (a b : Word) : Word := if a.slt b then 1 else 0
def aluSltu (a b : Word) : Word := if a < b then 1 else 0
def aluMin (a b : Word) : Word := if a.slt b then a else b
def aluMax (a b : Word) : Word := if a.slt b then b else a
def aluMinu (a b : Word) : Word := if a < b then a else b
def aluMaxu (a b : Word) : Word := if a < b then b else a
/-- Leading zero bits, 0 to 64 (R120). -/
def aluClz (a : Word) : Word := BitVec.ofNat 64 (if a = 0 then 64 else 63 - Nat.log2 a.toNat)
/-- One bits (R120). -/
def aluPopc (a : Word) : Word := BitVec.ofNat 64 (popCount a.toNat)

/-! Multiply and divide (R121). A zero divisor gives all ones and the dividend; -2^63 by -1 gives -2^63 and 0. -/

def mulLow (a b : Word) : Word := a * b
def mulHigh (a b : Word) : Word := BitVec.ofInt 64 (a.toInt * b.toInt / 2 ^ 64)
def mulHighU (a b : Word) : Word := BitVec.ofNat 64 (a.toNat * b.toNat / 2 ^ 64)
def divS (a b : Word) : Word := if b = 0 then BitVec.allOnes 64 else BitVec.ofInt 64 (a.toInt.tdiv b.toInt)
def divU (a b : Word) : Word := if b = 0 then BitVec.allOnes 64 else BitVec.ofNat 64 (a.toNat / b.toNat)
def remS (a b : Word) : Word := if b = 0 then a else BitVec.ofInt 64 (a.toInt.tmod b.toInt)
def remU (a b : Word) : Word := if b = 0 then a else BitVec.ofNat 64 (a.toNat % b.toNat)

/-! The shapes of the scalar instructions. -/

/-- A scalar result of latency 1, written at issue (R43, R45). -/
def scalarNow (c : Ctx) (xd : XReg) (deps : List Dep) (f : Thread → Word) (s : State) : Host.Outcome State Fault Refusal :=
  let s := s.arrive c
  .next (s.issueSeq c (needs (.x xd :: deps)) fun s => s.modTh c fun t => t.setX xd (f t))

/-- A register-form ALU instruction: xd receives f of xs1 and xs2 (R120). -/
def aluReg (f : Word → Word → Word) (c : Ctx) (xd xs1 xs2 : XReg) (s : State) : Host.Outcome State Fault Refusal :=
  scalarNow c xd [.x xs1, .x xs2] (fun t => f (t.xr xs1) (t.xr xs2)) s

/-- An immediate-form ALU instruction: the second operand is IMM32, sign-extended (R116, R120). -/
def aluImm (f : Word → Word → Word) (c : Ctx) (xd xs1 : XReg) (imm : BitVec 32) (s : State) :
    Host.Outcome State Fault Refusal :=
  scalarNow c xd [.x xs1] (fun t => f (t.xr xs1) (imm.signExtend 64)) s

/-- A multiply: latency 3, no unit held (R45, R121). -/
def mulOp (f : Word → Word → Word) (c : Ctx) (xd xs1 xs2 : XReg) (s : State) : Host.Outcome State Fault Refusal :=
  let s := s.arrive c
  .next (s.issueSeq c (needs [.x xd, .x xs1, .x xs2]) fun s =>
    s.startLong c 3 (.x xd.val (f ((s.th c).xr xs1) ((s.th c).xr xs2))))

/-- A divide: latency 36, the divider held for 36 cycles (R45, R46, R121). -/
def divOp (f : Word → Word → Word) (c : Ctx) (xd xs1 xs2 : XReg) (s : State) : Host.Outcome State Fault Refusal :=
  let s := s.arrive c
  .next (s.issueSeq c { needs [.x xd, .x xs1, .x xs2] with free := (s.core c.coreId).divFree } fun s =>
    (s.startLong c 36 (.x xd.val (f ((s.th c).xr xs1) ((s.th c).xr xs2)))).modCore c.coreId fun k =>
      { k with divFree := k.cycle + 36 })

/-- A branch: the target becomes the next instruction when `taken` holds (R123). -/
def branchOp (c : Ctx) (deps : List Dep) (taken : Thread → Bool) (target : BitVec 13) (s : State) :
    Host.Outcome State Fault Refusal :=
  let s := s.arrive c
  .next (s.issue c (needs deps) fun s => s.modTh c fun t => if taken t then { t with pc := target } else t.step)

/-- A local scalar load (R124): checked for alignment, then for range. -/
def loadOp (size : Nat) (signed : Bool) (c : Ctx) (xd xs : XReg) (imm : BitVec 32) (s : State) :
    Host.Outcome State Fault Refusal :=
  let s := s.arrive c
  let off := localOffset ((s.th c).xr xs) imm
  .next (s.issueSeq c { needs [.x xd, .x xs] with early := [.x xs], fault := localFault off size size } fun s =>
    s.startLoad c (.scalar size signed) xd.val off.toNat size 0)

/-- A local scalar store (R124): the low bytes of xv. -/
def storeOp (size : Nat) (c : Ctx) (xv xs : XReg) (imm : BitVec 32) (s : State) : Host.Outcome State Fault Refusal :=
  let s := s.arrive c
  let off := localOffset ((s.th c).xr xs) imm
  .next (s.issueSeq c { needs [.x xv, .x xs] with early := [.x xs], fault := localFault off size size } fun s =>
    s.startStore c (placed off.toNat (bytesOf size ((s.th c).xr xv).toNat)))

/-! The meanings. -/

/-- `add` (R120). -/
def execAdd (c : Ctx) (xd xs1 xs2 : XReg) (s : State) := aluReg aluAdd c xd xs1 xs2 s
/-- `sub` (R120). -/
def execSub (c : Ctx) (xd xs1 xs2 : XReg) (s : State) := aluReg aluSub c xd xs1 xs2 s
/-- `and` (R120). -/
def execAnd (c : Ctx) (xd xs1 xs2 : XReg) (s : State) := aluReg aluAnd c xd xs1 xs2 s
/-- `or` (R120). -/
def execOr (c : Ctx) (xd xs1 xs2 : XReg) (s : State) := aluReg aluOr c xd xs1 xs2 s
/-- `xor` (R120). -/
def execXor (c : Ctx) (xd xs1 xs2 : XReg) (s : State) := aluReg aluXor c xd xs1 xs2 s
/-- `shl` (R120). -/
def execShl (c : Ctx) (xd xs1 xs2 : XReg) (s : State) := aluReg aluShl c xd xs1 xs2 s
/-- `shr` (R120). -/
def execShr (c : Ctx) (xd xs1 xs2 : XReg) (s : State) := aluReg aluShr c xd xs1 xs2 s
/-- `sra` (R120). -/
def execSra (c : Ctx) (xd xs1 xs2 : XReg) (s : State) := aluReg aluSra c xd xs1 xs2 s
/-- `slt` (R120). -/
def execSlt (c : Ctx) (xd xs1 xs2 : XReg) (s : State) := aluReg aluSlt c xd xs1 xs2 s
/-- `sltu` (R120). -/
def execSltu (c : Ctx) (xd xs1 xs2 : XReg) (s : State) := aluReg aluSltu c xd xs1 xs2 s
/-- `min` (R120). -/
def execMin (c : Ctx) (xd xs1 xs2 : XReg) (s : State) := aluReg aluMin c xd xs1 xs2 s
/-- `max` (R120). -/
def execMax (c : Ctx) (xd xs1 xs2 : XReg) (s : State) := aluReg aluMax c xd xs1 xs2 s
/-- `minu` (R120). -/
def execMinu (c : Ctx) (xd xs1 xs2 : XReg) (s : State) := aluReg aluMinu c xd xs1 xs2 s
/-- `maxu` (R120). -/
def execMaxu (c : Ctx) (xd xs1 xs2 : XReg) (s : State) := aluReg aluMaxu c xd xs1 xs2 s
/-- `clz` (R120). -/
def execClz (c : Ctx) (xd xs1 : XReg) (s : State) := scalarNow c xd [.x xs1] (fun t => aluClz (t.xr xs1)) s
/-- `popc` (R120). -/
def execPopc (c : Ctx) (xd xs1 : XReg) (s : State) := scalarNow c xd [.x xs1] (fun t => aluPopc (t.xr xs1)) s
/-- `addi` (R120). -/
def execAddi (c : Ctx) (xd xs1 : XReg) (imm : BitVec 32) (s : State) := aluImm aluAdd c xd xs1 imm s
/-- `subi` (R120). -/
def execSubi (c : Ctx) (xd xs1 : XReg) (imm : BitVec 32) (s : State) := aluImm aluSub c xd xs1 imm s
/-- `andi` (R120). -/
def execAndi (c : Ctx) (xd xs1 : XReg) (imm : BitVec 32) (s : State) := aluImm aluAnd c xd xs1 imm s
/-- `ori` (R120). -/
def execOri (c : Ctx) (xd xs1 : XReg) (imm : BitVec 32) (s : State) := aluImm aluOr c xd xs1 imm s
/-- `xori` (R120). -/
def execXori (c : Ctx) (xd xs1 : XReg) (imm : BitVec 32) (s : State) := aluImm aluXor c xd xs1 imm s
/-- `shli` (R120). -/
def execShli (c : Ctx) (xd xs1 : XReg) (imm : BitVec 32) (s : State) := aluImm aluShl c xd xs1 imm s
/-- `shri` (R120). -/
def execShri (c : Ctx) (xd xs1 : XReg) (imm : BitVec 32) (s : State) := aluImm aluShr c xd xs1 imm s
/-- `srai` (R120). -/
def execSrai (c : Ctx) (xd xs1 : XReg) (imm : BitVec 32) (s : State) := aluImm aluSra c xd xs1 imm s
/-- `slti` (R120). -/
def execSlti (c : Ctx) (xd xs1 : XReg) (imm : BitVec 32) (s : State) := aluImm aluSlt c xd xs1 imm s
/-- `sltui` (R120). -/
def execSltui (c : Ctx) (xd xs1 : XReg) (imm : BitVec 32) (s : State) := aluImm aluSltu c xd xs1 imm s
/-- `mini` (R120). -/
def execMini (c : Ctx) (xd xs1 : XReg) (imm : BitVec 32) (s : State) := aluImm aluMin c xd xs1 imm s
/-- `maxi` (R120). -/
def execMaxi (c : Ctx) (xd xs1 : XReg) (imm : BitVec 32) (s : State) := aluImm aluMax c xd xs1 imm s
/-- `minui` (R120). -/
def execMinui (c : Ctx) (xd xs1 : XReg) (imm : BitVec 32) (s : State) := aluImm aluMinu c xd xs1 imm s
/-- `maxui` (R120). -/
def execMaxui (c : Ctx) (xd xs1 : XReg) (imm : BitVec 32) (s : State) := aluImm aluMaxu c xd xs1 imm s
/-- `mul` (R121). -/
def execMul (c : Ctx) (xd xs1 xs2 : XReg) (s : State) := mulOp mulLow c xd xs1 xs2 s
/-- `mulh` (R121). -/
def execMulh (c : Ctx) (xd xs1 xs2 : XReg) (s : State) := mulOp mulHigh c xd xs1 xs2 s
/-- `mulhu` (R121). -/
def execMulhu (c : Ctx) (xd xs1 xs2 : XReg) (s : State) := mulOp mulHighU c xd xs1 xs2 s
/-- `div` (R121). -/
def execDiv (c : Ctx) (xd xs1 xs2 : XReg) (s : State) := divOp divS c xd xs1 xs2 s
/-- `divu` (R121). -/
def execDivu (c : Ctx) (xd xs1 xs2 : XReg) (s : State) := divOp divU c xd xs1 xs2 s
/-- `rem` (R121). -/
def execRem (c : Ctx) (xd xs1 xs2 : XReg) (s : State) := divOp remS c xd xs1 xs2 s
/-- `remu` (R121). -/
def execRemu (c : Ctx) (xd xs1 xs2 : XReg) (s : State) := divOp remU c xd xs1 xs2 s
/-- `li`: IMM32 sign-extended (R122). -/
def execLi (c : Ctx) (xd : XReg) (imm : BitVec 32) (s : State) := scalarNow c xd [] (fun _ => imm.signExtend 64) s
/-- `lih`: IMM32 to xd[63:32], xd[31:0] kept (R122). -/
def execLih (c : Ctx) (xd : XReg) (imm : BitVec 32) (s : State) :=
  scalarNow c xd [] (fun t => putField (t.xr xd) 63 32 imm.toNat) s
/-- `beq` (R123). -/
def execBeq (c : Ctx) (xs1 xs2 : XReg) (target : BitVec 13) (s : State) :=
  branchOp c [.x xs1, .x xs2] (fun t => let a := t.xr xs1; let b := t.xr xs2; a == b) target s
/-- `bne` (R123). -/
def execBne (c : Ctx) (xs1 xs2 : XReg) (target : BitVec 13) (s : State) :=
  branchOp c [.x xs1, .x xs2] (fun t => let a := t.xr xs1; let b := t.xr xs2; a != b) target s
/-- `blt` (R123). -/
def execBlt (c : Ctx) (xs1 xs2 : XReg) (target : BitVec 13) (s : State) :=
  branchOp c [.x xs1, .x xs2] (fun t => let a := t.xr xs1; let b := t.xr xs2; a.slt b) target s
/-- `bge` (R123). -/
def execBge (c : Ctx) (xs1 xs2 : XReg) (target : BitVec 13) (s : State) :=
  branchOp c [.x xs1, .x xs2] (fun t => let a := t.xr xs1; let b := t.xr xs2; !(a.slt b)) target s
/-- `bltu` (R123). -/
def execBltu (c : Ctx) (xs1 xs2 : XReg) (target : BitVec 13) (s : State) :=
  branchOp c [.x xs1, .x xs2] (fun t => let a := t.xr xs1; let b := t.xr xs2; decide (a < b)) target s
/-- `bgeu` (R123). -/
def execBgeu (c : Ctx) (xs1 xs2 : XReg) (target : BitVec 13) (s : State) :=
  branchOp c [.x xs1, .x xs2] (fun t => let a := t.xr xs1; let b := t.xr xs2; !(decide (a < b))) target s
/-- `bpany` (R123). -/
def execBpany (c : Ctx) (p : PReg) (target : BitVec 13) (s : State) := branchOp c [.p p] (fun t => t.pr p != 0) target s
/-- `bpall` (R123). -/
def execBpall (c : Ctx) (p : PReg) (target : BitVec 13) (s : State) := branchOp c [.p p] (fun t => t.pr p == BitVec.allOnes 64) target s
/-- `bpnone` (R123). -/
def execBpnone (c : Ctx) (p : PReg) (target : BitVec 13) (s : State) := branchOp c [.p p] (fun t => t.pr p == 0) target s
/-- `jal`: xd receives the index of the next instruction (R123). -/
def execJal (c : Ctx) (xd : XReg) (target : BitVec 13) (s : State) : Host.Outcome State Fault Refusal :=
  let s := s.arrive c
  .next (s.issue c (needs [.x xd]) fun s => s.modTh c fun t =>
    { t.setX xd ((t.pc + 1).zeroExtend 64) with pc := target })
/-- `jr`: to xs[12:0] (R123). -/
def execJr (c : Ctx) (xs : XReg) (s : State) : Host.Outcome State Fault Refusal :=
  let s := s.arrive c
  .next (s.issue c (needs [.x xs]) fun s => s.modTh c fun t => { t with pc := (t.xr xs).truncate 13 })
/-- `ld1u` (R124). -/
def execLd1u (c : Ctx) (xd xs : XReg) (imm : BitVec 32) (s : State) := loadOp 1 false c xd xs imm s
/-- `ld2u` (R124). -/
def execLd2u (c : Ctx) (xd xs : XReg) (imm : BitVec 32) (s : State) := loadOp 2 false c xd xs imm s
/-- `ld4u` (R124). -/
def execLd4u (c : Ctx) (xd xs : XReg) (imm : BitVec 32) (s : State) := loadOp 4 false c xd xs imm s
/-- `ld8` (R124). -/
def execLd8 (c : Ctx) (xd xs : XReg) (imm : BitVec 32) (s : State) := loadOp 8 false c xd xs imm s
/-- `ld1s` (R124). -/
def execLd1s (c : Ctx) (xd xs : XReg) (imm : BitVec 32) (s : State) := loadOp 1 true c xd xs imm s
/-- `ld2s` (R124). -/
def execLd2s (c : Ctx) (xd xs : XReg) (imm : BitVec 32) (s : State) := loadOp 2 true c xd xs imm s
/-- `ld4s` (R124). -/
def execLd4s (c : Ctx) (xd xs : XReg) (imm : BitVec 32) (s : State) := loadOp 4 true c xd xs imm s
/-- `st1` (R124). -/
def execSt1 (c : Ctx) (xv xs : XReg) (imm : BitVec 32) (s : State) := storeOp 1 c xv xs imm s
/-- `st2` (R124). -/
def execSt2 (c : Ctx) (xv xs : XReg) (imm : BitVec 32) (s : State) := storeOp 2 c xv xs imm s
/-- `st4` (R124). -/
def execSt4 (c : Ctx) (xv xs : XReg) (imm : BitVec 32) (s : State) := storeOp 4 c xv xs imm s
/-- `st8` (R124). -/
def execSt8 (c : Ctx) (xv xs : XReg) (imm : BitVec 32) (s : State) := storeOp 8 c xv xs imm s
/-- The earliest turn of the parts of local stores that wait. -/
def Core.nextStore (c : Core) : Option Nat := (c.stores.map LaneStore.turn).min?

/-- A pending local store is written in its turn: the core comes to that cycle (R124). -/
def execLocalStorePerformed (k : CoreId) (s : State) : Host.Outcome State Fault Refusal :=
  match (s.core k).nextStore with
  | none => .next s
  | some n => .next (s.toCycle k n)

/-- The local long operation whose result is due first writes it (R43): the core comes to that cycle, and its next issue is a later one. -/
def execLocalLongOpComplete (k : CoreId) (s : State) : Host.Outcome State Fault Refusal :=
  match earliest (s.core k).longOps with
  | none => .next s
  | some o =>
    if s.coreAsleep k then .next s
    else
      let s := s.toCycle k o.due
      let s := State.longResults k (s.core k).cycle 1 s
      .next ((s.modCore k fun c => { c with nextIssue := max c.nextIssue (c.cycle + 1) }).wakeLocal k)

end Sys2Proof.Machine
end

