-- ==== Sys2Proof/Machine/Tensor.lean ====
section
/-!
DEFINITION. The tensor instructions: `tmma`, tile transfers, `tmov`, and the events of the unit (R56 to R60, R134 to R137, R478).
-/
namespace Sys2Proof.Machine
open Sys2Proof

/-! Ownership (R56, R74). -/

/-- Does thread `t` own the unit whose owner field starts at bit `lo` of CORE_UNIT_MAP? -/
def State.owns (s : State) (k : CoreId) (t : Fin 8) (lo : Nat) : Bool :=
  let w := s.reg (coreBlock k + 0x18)
  bitOf w (lo + 3) && decide (w.field (lo + 2) lo = t.val)

def State.ownsUnit (s : State) (c : Ctx) : Bool := s.owns c.coreId c.thread 0
def State.ownsTile (s : State) (c : Ctx) (t : TReg) : Bool := s.owns c.coreId c.thread (4 + 4 * t.val)

/-! Checks. -/

def orElseFault (a b : Option (Nat × Word)) : Option (Nat × Word) :=
  match a with
  | some f => some f
  | none => b

def failIf (p : Bool) (cause : Nat) (addr : Word) : Option (Nat × Word) := if p then some (cause, addr) else none

/-- The checks of R136, in the order of R119. `regions` are the offsets in use with their lengths: of several that fail one check the
first is the one whose offset is saved, in the order A, B, skip bitmap, block map. The spec names none of them (assumption 120). -/
def tmmaFault (fields unit tile formats : Bool) (regions : List (Nat × Nat)) : Option (Nat × Word) :=
  orElseFault (failIf (!fields) 1 0) <|
  orElseFault (failIf (!unit) 4 0) <|
  orElseFault (failIf (!tile) 5 0) <|
  orElseFault (failIf (!formats) 6 0) <|
  orElseFault (regions.findSome? fun r => if r.1 % 32 ≠ 0 then some (2, BitVec.ofNat 64 r.1) else none)
    (regions.findSome? fun r => if 2 ^ 20 < r.1 + r.2 then some (3, BitVec.ofNat 64 r.1) else none)

/-- A `tmma` waits for its tile unless only earlier `tmma`s of its own thread accumulate into it (R43). -/
def Core.tileHeldFor (c : Core) (t : Nat) (thread : Nat) : Bool :=
  decide (c.heldTile = some t) || c.tensor.any fun o => decide (o.tile = t) && !(match o.act with
    | .mma _ => decide (o.thread = thread)
    | _ => false)

/-- Queue an operation for the tensor unit (R60). -/
def State.enqueueTensor (s : State) (c : Ctx) (t : TReg) (act : TensorAct) (captured : Bool) : State :=
  s.modCore c.coreId fun k => { k with
    tensor := k.tensor ++ [.queued c.thread.val (s.th c).pc t.val act captured] }

/-! The witness capture (R478). -/

/-- Is the core armed, and does the record of an operation with these regions fit? -/
def State.captures (s : State) (c : Ctx) (bytes : Nat) : Bool :=
  match s.mod.witness.sample with
  | some x => decide (x.core = c.coreId.index) && x.cap.isNone && decide (bytes ≤ 555008)
  | none => false

/-- The word of a `tmma` (R115, R134). -/
def tmmaWord (t : TReg) (xa xb xm xs : XReg) (afmt bfmt : BitVec 4) (kb : BitVec 8) (me se we : Bool) : Word :=
  BitVec.ofNat 64 (0x18 * 2 ^ 58 + xa.val * 2 ^ 47 + xb.val * 2 ^ 42 + xm.val * 2 ^ 37 + xs.val * 2 ^ 32 + t.val * 2 ^ 30 +
    afmt.toNat * 2 ^ 26 + bfmt.toNat * 2 ^ 22 + kb.toNat * 2 ^ 14 + boolBit me * 2 ^ 13 + boolBit se * 2 ^ 12 + boolBit we * 2 ^ 11)

/-- Note the captured operation in its sample. -/
def State.noteCapture (s : State) (x : Capture) : State :=
  { s with mod := { s.mod with witness := { s.mod.witness with
      sample := s.mod.witness.sample.map fun y => { y with cap := some x } } } }

/-- `tmma` (R134, R136): its checks, then its tile and the queue; the mask and ROUND as they stand at issue. -/
def execTmma (c : Ctx) (t : TReg) (xa xb xm xs : XReg) (afmt bfmt : BitVec 4) (kb : BitVec 8) (me se we : Bool) (s : State) :
    Host.Outcome State Fault Refusal :=
  let s := s.arrive c
  let th := s.th c
  let fa := Fmt.ofCode afmt
  let fb := Fmt.ofCode bfmt
  let ok := match fa, fb with
    | some a, some b => (blockCycles a b).isSome && decide (1 ≤ kb.toNat) && decide (kb.toNat ≤ 128)
    | _, _ => false
  let a := fa.getD (.dense .bf16)
  let b := fb.getD (.dense .bf16)
  let aoff := low20 (th.xr xa)
  let boff := low20 (th.xr xb)
  let skip := low20 (th.xr xs)
  let map := (th.xr xs).field 51 32
  let n := kb.toNat
  let fields := (me || decide (xm = 0)) && (se || we || decide (xs = 0))
  let regions := [(aoff, n * stride a), (boff, n * stride b)] ++
    (if se then [(skip, 8 * n)] else []) ++ (if we then [(map, n)] else [])
  let k := s.core c.coreId
  .next (s.issueSeq c
    { early := [.x xa, .x xb, .x xs], fault := tmmaFault fields (s.ownsUnit c) (s.ownsTile c t) ok regions,
      deps := [.x xa, .x xb, .x xm, .x xs], hold := k.tileHeldFor t.val c.thread.val || !k.tensorRoom, free := 0 } fun s =>
    let cap := s.captures c (n * stride a + n * stride b)
    let s := if cap then s.noteCapture
        { ctx := c.id, word := tmmaWord t xa xb xm xs afmt bfmt kb me se we, xa := (s.th c).xr xa, xb := (s.th c).xr xb, xm := (s.th c).xr xm,
          xs := (s.th c).xr xs, round := (s.th c).numctl.field 62 61, tile := t.val } else s
    (s.enqueueTensor c t (.mma
      { xa := aoff, xb := boff, mask := if me then (s.th c).xr xm else BitVec.allOnes 64,
        skip := if se then some skip else none, map := if we then some map else none, afmt := a, bfmt := b, kb := n,
        mode := if (s.th c).numctl.field 62 61 = 1 then .towardZero else .nearestEven }) cap).pulse c.coreId 0x040 (some c.thread.val) 1)

/-- A tile transfer or clear, of the offset its address register gives (R137): ownership of the unit and the tile, then alignment and
range. -/
def transferOp (c : Ctx) (t : TReg) (xa : Option XReg) (act : Nat → TensorAct) (s : State) : Host.Outcome State Fault Refusal :=
  let s := s.arrive c
  let k := s.core c.coreId
  let off := (xa.map fun r => low20 ((s.th c).xr r)).getD 0
  let deps := xa.toList.map Dep.x
  .next (s.issueSeq c
    { early := deps, fault := tmmaFault true (s.ownsUnit c) (s.ownsTile c t) true (xa.toList.map fun _ => (act off).extent), deps := deps,
      hold := k.tileBusy t.val || !k.tensorRoom, free := 0 } fun s =>
    (s.enqueueTensor c t (act off) false).pulse c.coreId 0x046 (some c.thread.val) 1)

/-- `tld` (R137). -/
def execTld (c : Ctx) (t : TReg) (xa : XReg) (s : State) : Host.Outcome State Fault Refusal := transferOp c t (some xa) .load s
/-- `tst` (R137). -/
def execTst (c : Ctx) (t : TReg) (xa : XReg) (s : State) : Host.Outcome State Fault Refusal := transferOp c t (some xa) .store s
/-- `tstbf` (R137). -/
def execTstbf (c : Ctx) (t : TReg) (xa : XReg) (s : State) : Host.Outcome State Fault Refusal := transferOp c t (some xa) .storeBf s
/-- `tclr` (R137). -/
def execTclr (c : Ctx) (t : TReg) (s : State) : Host.Outcome State Fault Refusal := transferOp c t none (fun _ => .clear) s

/-- `tmov`: a tile row into a vector register, latency 6; it needs the tile only (R56, R137). -/
def execTmov (c : Ctx) (vd : VReg) (t : TReg) (xr : XReg) (s : State) : Host.Outcome State Fault Refusal :=
  let s := s.arrive c
  let k := s.core c.coreId
  .next (s.issueSeq c
    { early := [], fault := failIf (!s.ownsTile c t) 5 0, deps := [.v vd, .x xr], hold := k.tileBusy t.val, free := 0 } fun s =>
    let row := ((s.th c).xr xr).field 5 0
    s.startLong c 6 (.v vd.val ((List.range 64).map fun col => (col, (s.core c.coreId).tileAt t.val row col))))

/-! Events of the unit. -/

/-- The next queued tensor operation starts on the unit, in the first cycle the unit is free (R60). -/
def execTensorOpStart (k : CoreId) (s : State) : Host.Outcome State Fault Refusal :=
  if s.coreAsleep k || (s.core k).tensor.all (fun o => o.times.isSome) then .next s
  else
    let s := s.toCycle k (max (s.core k).cycle (s.core k).tensorFree)
    .next ((s.tensorTurns k (s.core k).cycle).wakeLocal k)

/-- The started operation whose tile is written first. -/
def firstDone : List TensorOp → Option Nat
  | [] => none
  | o :: os => match o.times, firstDone os with
    | some t, some d => some (min t.2 d)
    | some t, none => some t.2
    | none, d => d

/-- The started operation whose turn comes first writes its tile (R43, R60). -/
def execTensorOpComplete (k : CoreId) (s : State) : Host.Outcome State Fault Refusal :=
  match firstDone (s.core k).tensor with
  | none => .next s
  | some n =>
    if s.coreAsleep k then .next s
    else
      let s := s.toCycle k (max (s.core k).cycle n)
      let m := (s.core k).cycle
      let s := State.tensorResults k m 1 (s.tensorTurns k m)
      .next ((s.modCore k fun c => { c with nextIssue := max c.nextIssue (m + 1) }).wakeLocal k)

end Sys2Proof.Machine
end

