-- ==== Sys2Proof/Machine/Dispatch.lean ====
section
/-!
DEFINITION. One arm per command: each is one direct call of its meaning, or rejected by name.
-/
namespace Sys2Proof.Machine
open Sys2Proof

/-- The effect of a command on everything but the queue. -/
def exec (i : Instr) (s : State) : Host.Outcome State Fault Refusal :=
  match i with
  | .add c xd xs1 xs2 => Sys2Proof.Machine.execAdd c xd xs1 xs2 s
  | .sub c xd xs1 xs2 => Sys2Proof.Machine.execSub c xd xs1 xs2 s
  | .and c xd xs1 xs2 => Sys2Proof.Machine.execAnd c xd xs1 xs2 s
  | .or c xd xs1 xs2 => Sys2Proof.Machine.execOr c xd xs1 xs2 s
  | .xor c xd xs1 xs2 => Sys2Proof.Machine.execXor c xd xs1 xs2 s
  | .shl c xd xs1 xs2 => Sys2Proof.Machine.execShl c xd xs1 xs2 s
  | .shr c xd xs1 xs2 => Sys2Proof.Machine.execShr c xd xs1 xs2 s
  | .sra c xd xs1 xs2 => Sys2Proof.Machine.execSra c xd xs1 xs2 s
  | .slt c xd xs1 xs2 => Sys2Proof.Machine.execSlt c xd xs1 xs2 s
  | .sltu c xd xs1 xs2 => Sys2Proof.Machine.execSltu c xd xs1 xs2 s
  | .min c xd xs1 xs2 => Sys2Proof.Machine.execMin c xd xs1 xs2 s
  | .max c xd xs1 xs2 => Sys2Proof.Machine.execMax c xd xs1 xs2 s
  | .minu c xd xs1 xs2 => Sys2Proof.Machine.execMinu c xd xs1 xs2 s
  | .maxu c xd xs1 xs2 => Sys2Proof.Machine.execMaxu c xd xs1 xs2 s
  | .clz c xd xs1 => Sys2Proof.Machine.execClz c xd xs1 s
  | .popc c xd xs1 => Sys2Proof.Machine.execPopc c xd xs1 s
  | .addi c xd xs1 imm => Sys2Proof.Machine.execAddi c xd xs1 imm s
  | .subi c xd xs1 imm => Sys2Proof.Machine.execSubi c xd xs1 imm s
  | .andi c xd xs1 imm => Sys2Proof.Machine.execAndi c xd xs1 imm s
  | .ori c xd xs1 imm => Sys2Proof.Machine.execOri c xd xs1 imm s
  | .xori c xd xs1 imm => Sys2Proof.Machine.execXori c xd xs1 imm s
  | .shli c xd xs1 imm => Sys2Proof.Machine.execShli c xd xs1 imm s
  | .shri c xd xs1 imm => Sys2Proof.Machine.execShri c xd xs1 imm s
  | .srai c xd xs1 imm => Sys2Proof.Machine.execSrai c xd xs1 imm s
  | .slti c xd xs1 imm => Sys2Proof.Machine.execSlti c xd xs1 imm s
  | .sltui c xd xs1 imm => Sys2Proof.Machine.execSltui c xd xs1 imm s
  | .mini c xd xs1 imm => Sys2Proof.Machine.execMini c xd xs1 imm s
  | .maxi c xd xs1 imm => Sys2Proof.Machine.execMaxi c xd xs1 imm s
  | .minui c xd xs1 imm => Sys2Proof.Machine.execMinui c xd xs1 imm s
  | .maxui c xd xs1 imm => Sys2Proof.Machine.execMaxui c xd xs1 imm s
  | .mul c xd xs1 xs2 => Sys2Proof.Machine.execMul c xd xs1 xs2 s
  | .mulh c xd xs1 xs2 => Sys2Proof.Machine.execMulh c xd xs1 xs2 s
  | .mulhu c xd xs1 xs2 => Sys2Proof.Machine.execMulhu c xd xs1 xs2 s
  | .div c xd xs1 xs2 => Sys2Proof.Machine.execDiv c xd xs1 xs2 s
  | .divu c xd xs1 xs2 => Sys2Proof.Machine.execDivu c xd xs1 xs2 s
  | .rem c xd xs1 xs2 => Sys2Proof.Machine.execRem c xd xs1 xs2 s
  | .remu c xd xs1 xs2 => Sys2Proof.Machine.execRemu c xd xs1 xs2 s
  | .li c xd imm => Sys2Proof.Machine.execLi c xd imm s
  | .lih c xd imm => Sys2Proof.Machine.execLih c xd imm s
  | .beq c xs1 xs2 target => Sys2Proof.Machine.execBeq c xs1 xs2 target s
  | .bne c xs1 xs2 target => Sys2Proof.Machine.execBne c xs1 xs2 target s
  | .blt c xs1 xs2 target => Sys2Proof.Machine.execBlt c xs1 xs2 target s
  | .bge c xs1 xs2 target => Sys2Proof.Machine.execBge c xs1 xs2 target s
  | .bltu c xs1 xs2 target => Sys2Proof.Machine.execBltu c xs1 xs2 target s
  | .bgeu c xs1 xs2 target => Sys2Proof.Machine.execBgeu c xs1 xs2 target s
  | .bpany c p target => Sys2Proof.Machine.execBpany c p target s
  | .bpall c p target => Sys2Proof.Machine.execBpall c p target s
  | .bpnone c p target => Sys2Proof.Machine.execBpnone c p target s
  | .jal c xd target => Sys2Proof.Machine.execJal c xd target s
  | .jr c xs => Sys2Proof.Machine.execJr c xs s
  | .ld1u c xd xs imm => Sys2Proof.Machine.execLd1u c xd xs imm s
  | .ld2u c xd xs imm => Sys2Proof.Machine.execLd2u c xd xs imm s
  | .ld4u c xd xs imm => Sys2Proof.Machine.execLd4u c xd xs imm s
  | .ld8 c xd xs imm => Sys2Proof.Machine.execLd8 c xd xs imm s
  | .ld1s c xd xs imm => Sys2Proof.Machine.execLd1s c xd xs imm s
  | .ld2s c xd xs imm => Sys2Proof.Machine.execLd2s c xd xs imm s
  | .ld4s c xd xs imm => Sys2Proof.Machine.execLd4s c xd xs imm s
  | .st1 c xv xs imm => Sys2Proof.Machine.execSt1 c xv xs imm s
  | .st2 c xv xs imm => Sys2Proof.Machine.execSt2 c xv xs imm s
  | .st4 c xv xs imm => Sys2Proof.Machine.execSt4 c xv xs imm s
  | .st8 c xv xs imm => Sys2Proof.Machine.execSt8 c xv xs imm s
  | .localStorePerformed k => Sys2Proof.Machine.execLocalStorePerformed k s
  | .vld c pg vd xs imm => Sys2Proof.Machine.execVld c pg vd xs imm s
  | .vldbf c pg vd xs imm => Sys2Proof.Machine.execVldbf c pg vd xs imm s
  | .vldh c pg vd xs imm => Sys2Proof.Machine.execVldh c pg vd xs imm s
  | .vst c pg vs xs imm => Sys2Proof.Machine.execVst c pg vs xs imm s
  | .vstbf c pg vs xs imm => Sys2Proof.Machine.execVstbf c pg vs xs imm s
  | .vsth c pg vs xs imm => Sys2Proof.Machine.execVsth c pg vs xs imm s
  | .vstp c vs xs off lenM1 => Sys2Proof.Machine.execVstp c vs xs off lenM1 s
  | .vadd c pg vd va vb => Sys2Proof.Machine.execVadd c pg vd va vb s
  | .vsub c pg vd va vb => Sys2Proof.Machine.execVsub c pg vd va vb s
  | .vmul c pg vd va vb => Sys2Proof.Machine.execVmul c pg vd va vb s
  | .vfma c pg vd va vb vc => Sys2Proof.Machine.execVfma c pg vd va vb vc s
  | .vmin c pg vd va vb => Sys2Proof.Machine.execVmin c pg vd va vb s
  | .vmax c pg vd va vb => Sys2Proof.Machine.execVmax c pg vd va vb s
  | .vabs c pg vd va => Sys2Proof.Machine.execVabs c pg vd va s
  | .vneg c pg vd va => Sys2Proof.Machine.execVneg c pg vd va s
  | .vcmp c pg cc pd va vb => Sys2Proof.Machine.execVcmp c pg cc pd va vb s
  | .vsel c pg vd va vb => Sys2Proof.Machine.execVsel c pg vd va vb s
  | .vredsum c pg vd va => Sys2Proof.Machine.execVredsum c pg vd va s
  | .vredmax c pg vd va => Sys2Proof.Machine.execVredmax c pg vd va s
  | .vredmin c pg vd va => Sys2Proof.Machine.execVredmin c pg vd va s
  | .viadd c pg vd va vb => Sys2Proof.Machine.execViadd c pg vd va vb s
  | .visub c pg vd va vb => Sys2Proof.Machine.execVisub c pg vd va vb s
  | .viand c pg vd va vb => Sys2Proof.Machine.execViand c pg vd va vb s
  | .vior c pg vd va vb => Sys2Proof.Machine.execVior c pg vd va vb s
  | .vixor c pg vd va vb => Sys2Proof.Machine.execVixor c pg vd va vb s
  | .vishl c pg vd va vb => Sys2Proof.Machine.execVishl c pg vd va vb s
  | .vishr c pg vd va vb => Sys2Proof.Machine.execVishr c pg vd va vb s
  | .visra c pg vd va vb => Sys2Proof.Machine.execVisra c pg vd va vb s
  | .vimin c pg vd va vb => Sys2Proof.Machine.execVimin c pg vd va vb s
  | .vimax c pg vd va vb => Sys2Proof.Machine.execVimax c pg vd va vb s
  | .viminu c pg vd va vb => Sys2Proof.Machine.execViminu c pg vd va vb s
  | .vimaxu c pg vd va vb => Sys2Proof.Machine.execVimaxu c pg vd va vb s
  | .vcvtfi c pg vd va => Sys2Proof.Machine.execVcvtfi c pg vd va s
  | .vcvtif c pg vd va => Sys2Proof.Machine.execVcvtif c pg vd va s
  | .vmov c pg vd va => Sys2Proof.Machine.execVmov c pg vd va s
  | .vbcast c pg vd xs => Sys2Proof.Machine.execVbcast c pg vd xs s
  | .vidx c pg vd => Sys2Proof.Machine.execVidx c pg vd s
  | .vext c xd va lane => Sys2Proof.Machine.execVext c xd va lane s
  | .vins c vd xs lane => Sys2Proof.Machine.execVins c vd xs lane s
  | .pand c pd pa pb => Sys2Proof.Machine.execPand c pd pa pb s
  | .por c pd pa pb => Sys2Proof.Machine.execPor c pd pa pb s
  | .pxor c pd pa pb => Sys2Proof.Machine.execPxor c pd pa pb s
  | .pandn c pd pa pb => Sys2Proof.Machine.execPandn c pd pa pb s
  | .pnot c pd pa => Sys2Proof.Machine.execPnot c pd pa s
  | .pmovx c pd xs => Sys2Proof.Machine.execPmovx c pd xs s
  | .pmovp c xd pa => Sys2Proof.Machine.execPmovp c xd pa s
  | .vsfExp c pg vd va => Sys2Proof.Machine.execVsfExp c pg vd va s
  | .vsfLog c pg vd va => Sys2Proof.Machine.execVsfLog c pg vd va s
  | .vsfRsqrt c pg vd va => Sys2Proof.Machine.execVsfRsqrt c pg vd va s
  | .vsfSigmoid c pg vd va => Sys2Proof.Machine.execVsfSigmoid c pg vd va s
  | .vsfErf c pg vd va => Sys2Proof.Machine.execVsfErf c pg vd va s
  | .topk c vd xa xn => Sys2Proof.Machine.execTopk c vd xa xn s
  | .vpk c vd va xd code => Sys2Proof.Machine.execVpk c vd va xd code s
  | .vpk24 c vd va xd code => Sys2Proof.Machine.execVpk24 c vd va xd code s
  | .vupk c vd va code => Sys2Proof.Machine.execVupk c vd va code s
  | .vupk24 c vd va code => Sys2Proof.Machine.execVupk24 c vd va code s
  | .tmma c t xa xb xm xs afmt bfmt kb me se we => Sys2Proof.Machine.execTmma c t xa xb xm xs afmt bfmt kb me se we s
  | .tld c t xa => Sys2Proof.Machine.execTld c t xa s
  | .tst c t xa => Sys2Proof.Machine.execTst c t xa s
  | .tstbf c t xa => Sys2Proof.Machine.execTstbf c t xa s
  | .tclr c t => Sys2Proof.Machine.execTclr c t s
  | .tmov c vd t xr => Sys2Proof.Machine.execTmov c vd t xr s
  | .tensorOpStart k => Sys2Proof.Machine.execTensorOpStart k s
  | .tensorOpComplete k => Sys2Proof.Machine.execTensorOpComplete k s
  | .localLongOpComplete k => Sys2Proof.Machine.execLocalLongOpComplete k s
  | .rld1u c xd xa => Sys2Proof.Machine.execRld1u c xd xa s
  | .rld2u c xd xa => Sys2Proof.Machine.execRld2u c xd xa s
  | .rld4u c xd xa => Sys2Proof.Machine.execRld4u c xd xa s
  | .rld8 c xd xa => Sys2Proof.Machine.execRld8 c xd xa s
  | .rld1s c xd xa => Sys2Proof.Machine.execRld1s c xd xa s
  | .rld2s c xd xa => Sys2Proof.Machine.execRld2s c xd xa s
  | .rld4s c xd xa => Sys2Proof.Machine.execRld4s c xd xa s
  | .rst1 c xv xa => Sys2Proof.Machine.execRst1 c xv xa s
  | .rst2 c xv xa => Sys2Proof.Machine.execRst2 c xv xa s
  | .rst4 c xv xa => Sys2Proof.Machine.execRst4 c xv xa s
  | .rst8 c xv xa => Sys2Proof.Machine.execRst8 c xv xa s
  | .rst1Db c xv xa => Sys2Proof.Machine.execRst1Db c xv xa s
  | .rst2Db c xv xa => Sys2Proof.Machine.execRst2Db c xv xa s
  | .rst4Db c xv xa => Sys2Proof.Machine.execRst4Db c xv xa s
  | .rst8Db c xv xa => Sys2Proof.Machine.execRst8Db c xv xa s
  | .radd4 c xa xs => Sys2Proof.Machine.execRadd4 c xa xs s
  | .radd4F c xd xa xs => Sys2Proof.Machine.execRadd4F c xd xa xs s
  | .radd8 c xa xs => Sys2Proof.Machine.execRadd8 c xa xs s
  | .radd8F c xd xa xs => Sys2Proof.Machine.execRadd8F c xd xa xs s
  | .rfadd c xa xs => Sys2Proof.Machine.execRfadd c xa xs s
  | .rfaddF c xd xa xs => Sys2Proof.Machine.execRfaddF c xd xa xs s
  | .rbfadd c xa xs => Sys2Proof.Machine.execRbfadd c xa xs s
  | .rbfaddF c xd xa xs => Sys2Proof.Machine.execRbfaddF c xd xa xs s
  | .rfmin c xa xs => Sys2Proof.Machine.execRfmin c xa xs s
  | .rfminF c xd xa xs => Sys2Proof.Machine.execRfminF c xd xa xs s
  | .rfmax c xa xs => Sys2Proof.Machine.execRfmax c xa xs s
  | .rfmaxF c xd xa xs => Sys2Proof.Machine.execRfmaxF c xd xa xs s
  | .rmin4 c xa xs => Sys2Proof.Machine.execRmin4 c xa xs s
  | .rmin4F c xd xa xs => Sys2Proof.Machine.execRmin4F c xd xa xs s
  | .rmin8 c xa xs => Sys2Proof.Machine.execRmin8 c xa xs s
  | .rmin8F c xd xa xs => Sys2Proof.Machine.execRmin8F c xd xa xs s
  | .rmax4 c xa xs => Sys2Proof.Machine.execRmax4 c xa xs s
  | .rmax4F c xd xa xs => Sys2Proof.Machine.execRmax4F c xd xa xs s
  | .rmax8 c xa xs => Sys2Proof.Machine.execRmax8 c xa xs s
  | .rmax8F c xd xa xs => Sys2Proof.Machine.execRmax8F c xd xa xs s
  | .rminu4 c xa xs => Sys2Proof.Machine.execRminu4 c xa xs s
  | .rminu4F c xd xa xs => Sys2Proof.Machine.execRminu4F c xd xa xs s
  | .rminu8 c xa xs => Sys2Proof.Machine.execRminu8 c xa xs s
  | .rminu8F c xd xa xs => Sys2Proof.Machine.execRminu8F c xd xa xs s
  | .rmaxu4 c xa xs => Sys2Proof.Machine.execRmaxu4 c xa xs s
  | .rmaxu4F c xd xa xs => Sys2Proof.Machine.execRmaxu4F c xd xa xs s
  | .rmaxu8 c xa xs => Sys2Proof.Machine.execRmaxu8 c xa xs s
  | .rmaxu8F c xd xa xs => Sys2Proof.Machine.execRmaxu8F c xd xa xs s
  | .rand8 c xa xs => Sys2Proof.Machine.execRand8 c xa xs s
  | .rand8F c xd xa xs => Sys2Proof.Machine.execRand8F c xd xa xs s
  | .ror8 c xa xs => Sys2Proof.Machine.execRor8 c xa xs s
  | .ror8F c xd xa xs => Sys2Proof.Machine.execRor8F c xd xa xs s
  | .rxor8 c xa xs => Sys2Proof.Machine.execRxor8 c xa xs s
  | .rxor8F c xd xa xs => Sys2Proof.Machine.execRxor8F c xd xa xs s
  | .rswap8F c xd xa xs => Sys2Proof.Machine.execRswap8F c xd xa xs s
  | .rcas8F c xd xa xs xc => Sys2Proof.Machine.execRcas8F c xd xa xs xc s
  | .rput c xa xl xn k ken => Sys2Proof.Machine.execRput c xa xl xn k ken s
  | .rget c xa xl xn k ken => Sys2Proof.Machine.execRget c xa xl xn k ken s
  | .rscat c pg xd vi xl xdesc => Sys2Proof.Machine.execRscat c pg xd vi xl xdesc s
  | .rgath c pg xd vi xl xdesc => Sys2Proof.Machine.execRgath c pg xd vi xl xdesc s
  | .fence c => Sys2Proof.Machine.execFence c s
  | .fenceReturn c => Sys2Proof.Machine.execFenceReturn c s
  | .yield c => Sys2Proof.Machine.execYield c s
  | .ywait c mask => Sys2Proof.Machine.execYwait c mask s
  | .kwait c k xv xt dl => Sys2Proof.Machine.execKwait c k xv xt dl s
  | .dbarm c xa => Sys2Proof.Machine.execDbarm c xa s
  | .dbwait c xt dl => Sys2Proof.Machine.execDbwait c xt dl s
  | .stop c => Sys2Proof.Machine.execStop c s
  | .waitDeadlinePassed c => Sys2Proof.Machine.execWaitDeadlinePassed c s
  | .krd c xd k => Sys2Proof.Machine.execKrd c xd k s
  | .kset c k xs => Sys2Proof.Machine.execKset c k xs s
  | .csrr c xd sr => Sys2Proof.Machine.execCsrr c xd sr s
  | .csrw c sr xs => Sys2Proof.Machine.execCsrw c sr xs s
  | .hret c => Sys2Proof.Machine.execHret c s
  | .illegalInstruction c word => Sys2Proof.Machine.execIllegalInstruction c word s
  | .heldRemoteEntersQueue c => Sys2Proof.Machine.execHeldRemoteEntersQueue c s
  | .threadStopRequest k threads => Sys2Proof.Machine.execThreadStopRequest k threads s
  | .stopAtIssueBoundary c => Sys2Proof.Machine.execStopAtIssueBoundary c s
  | .correctedLaneWriteback k bank => Sys2Proof.Machine.execCorrectedLaneWriteback k bank s
  | .spadPatrolScrub k => Sys2Proof.Machine.execSpadPatrolScrub k s
  | .scratchpadBankTurn k => Sys2Proof.Machine.execScratchpadBankTurn k s
  | .coreNapEnter k => Sys2Proof.Machine.execCoreNapEnter k s
  | .coreNapWakeDone k => Sys2Proof.Machine.execCoreNapWakeDone k s
  | .remotePacketSend ctx op => Sys2Proof.Machine.execRemotePacketSend ctx op s
  | .packetPlaced e dest => Sys2Proof.Machine.execPacketPlaced e dest s
  | .laneBeginPacket l => Sys2Proof.Machine.execLaneBeginPacket l s
  | .loadPacket e p bad on => Sys2Proof.Machine.execLoadPacket e p bad on s
  | .storePacket e p bad on => Sys2Proof.Machine.execStorePacket e p bad on s
  | .atomicPacket e p bad on => Sys2Proof.Machine.execAtomicPacket e p bad on s
  | .putPacket e p bad on => Sys2Proof.Machine.execPutPacket e p bad on s
  | .getPacket e p bad on => Sys2Proof.Machine.execGetPacket e p bad on s
  | .ackPacket e p bad on => Sys2Proof.Machine.execAckPacket e p bad on s
  | .nackPacket e p bad on => Sys2Proof.Machine.execNackPacket e p bad on s
  | .dataPacket e p bad on => Sys2Proof.Machine.execDataPacket e p bad on s
  | .gdataPacket e p bad on => Sys2Proof.Machine.execGdataPacket e p bad on s
  | .reservedOpPacket e p bad on => Sys2Proof.Machine.execReservedOpPacket e p bad on s
  | .resendIntervalExpired ctx dest seq => Sys2Proof.Machine.execResendIntervalExpired ctx dest seq s
  | .packetBoundPassed ctx dest seq => Sys2Proof.Machine.execPacketBoundPassed ctx dest seq s
  | .windowExpired e srcModule srcCtx => Sys2Proof.Machine.execWindowExpired e srcModule srcCtx s
  | .combineEntryWrite m word => Sys2Proof.Machine.execCombineEntryWrite m word s
  | .combineOpenReadDone m word => Sys2Proof.Machine.execCombineOpenReadDone m word s
  | .gatewayFrameClose x dst fibre => Sys2Proof.Machine.execGatewayFrameClose x dst fibre s
  | .frameReceived x f bad => Sys2Proof.Machine.execFrameReceived x f bad s
  | .multicastPut ctx targets offset p => Sys2Proof.Machine.execMulticastPut ctx targets offset p s
  | .landingSlot e n => Sys2Proof.Machine.execLandingSlot e n s
  | .linkFlitDue src dst half => Sys2Proof.Machine.execLinkFlitDue src dst half s
  | .linkFlitReceived f => Sys2Proof.Machine.execLinkFlitReceived f s
  | .extLinkFlitReceived f => Sys2Proof.Machine.execExtLinkFlitReceived f s
  | .laneStandbyEnter l => Sys2Proof.Machine.execLaneStandbyEnter l s
  | .laneWake l => Sys2Proof.Machine.execLaneWake l s
  | .laneResyncStart l => Sys2Proof.Machine.execLaneResyncStart l s
  | .laneResyncResume l => Sys2Proof.Machine.execLaneResyncResume l s
  | .laneInitTimeout l => Sys2Proof.Machine.execLaneInitTimeout l s
  | .ringLockLost l => Sys2Proof.Machine.execRingLockLost l s
  | .pairUnreachable src dst => Sys2Proof.Machine.execPairUnreachable src dst s
  | .pblRetirePlanes planes => Sys2Proof.Machine.execPblRetirePlanes planes s
  | .pblReadmitPlanes planes => Sys2Proof.Machine.execPblReadmitPlanes planes s
  | .planeEpoch => Sys2Proof.Machine.execPlaneEpoch s
  | .planeRetired p => Sys2Proof.Machine.execPlaneRetired p s
  | .planeSelftest e p errors => Sys2Proof.Machine.execPlaneSelftest e p errors s
  | .selftestFlitReceived e p line bad => Sys2Proof.Machine.execSelftestFlitReceived e p line bad s
  | .cartridgeInserted n => Sys2Proof.Machine.execCartridgeInserted n s
  | .cartridgeRemoved n => Sys2Proof.Machine.execCartridgeRemoved n s
  | .cartridgeLatchRelease n => Sys2Proof.Machine.execCartridgeLatchRelease n s
  | .optCbDark n => Sys2Proof.Machine.execOptCbDark n s
  | .optCbWarm n => Sys2Proof.Machine.execOptCbWarm n s
  | .optCbMatch n target => Sys2Proof.Machine.execOptCbMatch n target s
  | .cartridgeWarmDone n => Sys2Proof.Machine.execCartridgeWarmDone n s
  | .cartridgeMatchDone n => Sys2Proof.Machine.execCartridgeMatchDone n s
  | .spareSwitch target => Sys2Proof.Machine.execSpareSwitch target s
  | .spareSwitchComplete => Sys2Proof.Machine.execSpareSwitchComplete s
  | .spareRelocked => Sys2Proof.Machine.execSpareRelocked s
  | .commissioningRecord path line power => Sys2Proof.Machine.execCommissioningRecord path line power s
  | .fineLockUpdate l tx detune offset => Sys2Proof.Machine.execFineLockUpdate l tx detune offset s
  | .pilotToneCheck l tx tone => Sys2Proof.Machine.execPilotToneCheck l tx tone s
  | .berWindowEnd l window errors => Sys2Proof.Machine.execBerWindowEnd l window errors s
  | .linePowerCheck path line power => Sys2Proof.Machine.execLinePowerCheck path line power s
  | .cartridgeLineFailure path line power => Sys2Proof.Machine.execCartridgeLineFailure path line power s
  | .spareProcedureStart => Sys2Proof.Machine.execSpareProcedureStart s
  | .recalibrationStart => Sys2Proof.Machine.execRecalibrationStart s
  | .ringSweepDone path fixes => Sys2Proof.Machine.execRingSweepDone path fixes s
  | .driftDetected l tx offset => Sys2Proof.Machine.execDriftDetected l tx offset s
  | .optFibreRetire fibres => Sys2Proof.Machine.execOptFibreRetire fibres s
  | .optFibreReadmit fibres => Sys2Proof.Machine.execOptFibreReadmit fibres s
  | .fibrePairForcedRetire pair cause => Sys2Proof.Machine.execFibrePairForcedRetire pair cause s
  | .fibreSilenceTimeout pair => Sys2Proof.Machine.execFibreSilenceTimeout pair s
  | .channelSlot c n => Sys2Proof.Machine.execChannelSlot c n s
  | .refreshCommand c rank bank => Sys2Proof.Machine.execRefreshCommand c rank bank s
  | .memChMarkWrite c valid pin => Sys2Proof.Machine.execMemChMarkWrite c valid pin s
  | .vaultCoreTurn t bank n => Sys2Proof.Machine.execVaultCoreTurn t bank n s
  | .vaultSideTurn t bank n => Sys2Proof.Machine.execVaultSideTurn t bank n s
  | .vaultFillInstall t line => Sys2Proof.Machine.execVaultFillInstall t line s
  | .vaultInvalidate t => Sys2Proof.Machine.execVaultInvalidate t s
  | .bondFailed t group bond => Sys2Proof.Machine.execBondFailed t group bond s
  | .bondSpareSteered t group => Sys2Proof.Machine.execBondSpareSteered t group s
  | .bondGroupRetire t group => Sys2Proof.Machine.execBondGroupRetire t group s
  | .powerBondFailed t row => Sys2Proof.Machine.execPowerBondFailed t row s
  | .ledgerDailyClose t => Sys2Proof.Machine.execLedgerDailyClose t s
  | .ledgerDamageUpdate t => Sys2Proof.Machine.execLedgerDamageUpdate t s
  | .timeFrame lost => Sys2Proof.Machine.execTimeFrame lost s
  | .lambda24Lost e => Sys2Proof.Machine.execLambda24Lost e s
  | .timeFlitSend pair => Sys2Proof.Machine.execTimeFlitSend pair s
  | .timeFlitReceived pair f ppm => Sys2Proof.Machine.execTimeFlitReceived pair f ppm s
  | .followerLockTimeout => Sys2Proof.Machine.execFollowerLockTimeout s
  | .timeSet value => Sys2Proof.Machine.execTimeSet value s
  | .droopStretch t rows => Sys2Proof.Machine.execDroopStretch t rows s
  | .stretchWindowEnd t row => Sys2Proof.Machine.execStretchWindowEnd t row s
  | .governorEvaluate amps coreW auxW => Sys2Proof.Machine.execGovernorEvaluate amps coreW auxW s
  | .freqChangeCheck locked => Sys2Proof.Machine.execFreqChangeCheck locked s
  | .freqChangeEpoch => Sys2Proof.Machine.execFreqChangeEpoch s
  | .rowSleepRequest t row => Sys2Proof.Machine.execRowSleepRequest t row s
  | .rowWakeRequest t row => Sys2Proof.Machine.execRowWakeRequest t row s
  | .rowWakeDone t row => Sys2Proof.Machine.execRowWakeDone t row s
  | .towerDeepRequest t => Sys2Proof.Machine.execTowerDeepRequest t s
  | .towerDeepWakeRequest t => Sys2Proof.Machine.execTowerDeepWakeRequest t s
  | .towerDeepWakeDone t => Sys2Proof.Machine.execTowerDeepWakeDone t s
  | .feedSense mvA mvB ampsA ampsB => Sys2Proof.Machine.execFeedSense mvA mvB ampsA ampsB s
  | .smbalert b r => Sys2Proof.Machine.execSmbalert b r s
  | .pmbusPeriodicRead b r => Sys2Proof.Machine.execPmbusPeriodicRead b r s
  | .feedTrialStart b r => Sys2Proof.Machine.execFeedTrialStart b r s
  | .feedTrialPass b => Sys2Proof.Machine.execFeedTrialPass b s
  | .unlatchA => Sys2Proof.Machine.execUnlatchA s
  | .unlatchB => Sys2Proof.Machine.execUnlatchB s
  | .vauxFeedFail b mv => Sys2Proof.Machine.execVauxFeedFail b mv s
  | .vauxFeedReconnect b mv => Sys2Proof.Machine.execVauxFeedReconnect b mv s
  | .vauxGood mvA mvB => Sys2Proof.Machine.execVauxGood mvA mvB s
  | .vauxLoss mvA mvB => Sys2Proof.Machine.execVauxLoss mvA mvB s
  | .bimetalEvaluation temps => Sys2Proof.Machine.execBimetalEvaluation temps s
  | .diodeSample die a b c d => Sys2Proof.Machine.execDiodeSample die a b c d s
  | .modelValidation die a b c d => Sys2Proof.Machine.execModelValidation die a b c d s
  | .conservativeExit => Sys2Proof.Machine.execConservativeExit s
  | .inletTimeout => Sys2Proof.Machine.execInletTimeout s
  | .jobEnable p => Sys2Proof.Machine.execJobEnable p s
  | .jobPackageCopied => Sys2Proof.Machine.execJobPackageCopied s
  | .jobLoadDone => Sys2Proof.Machine.execJobLoadDone s
  | .jobStart => Sys2Proof.Machine.execJobStart s
  | .jobEnd p => Sys2Proof.Machine.execJobEnd p s
  | .jobEndComplete => Sys2Proof.Machine.execJobEndComplete s
  | .expertMoveHome p index => Sys2Proof.Machine.execExpertMoveHome p index s
  | .expertMoveAlt p index => Sys2Proof.Machine.execExpertMoveAlt p index s
  | .expertMoveNowhere p index => Sys2Proof.Machine.execExpertMoveNowhere p index s
  | .expertMoveRun => Sys2Proof.Machine.execExpertMoveRun s
  | .registerWrite p off part value => Sys2Proof.Machine.execRegisterWrite p off part value s
  | .registerReadClear p off => Sys2Proof.Machine.execRegisterReadClear p off s
  | .regReadLowHalf p off => Sys2Proof.Machine.execRegReadLowHalf p off s
  | .regReadHighHalf p off => Sys2Proof.Machine.execRegReadHighHalf p off s
  | .regAccessNarrow p read => Sys2Proof.Machine.execRegAccessNarrow p read s
  | .modIdWrite p module => Sys2Proof.Machine.execModIdWrite p module s
  | .cxlMemRead port tag addr => Sys2Proof.Machine.execCxlMemRead port tag addr s
  | .cxlMemWrite port tag addr data => Sys2Proof.Machine.execCxlMemWrite port tag addr data s
  | .hostWindowAccess c1 txn bytes failed => Sys2Proof.Machine.execHostWindowAccess c1 txn bytes failed s
  | .hostSnoop port addr => Sys2Proof.Machine.execHostSnoop port addr s
  | .hostMmioEndpoint port write off part value => Sys2Proof.Machine.execHostMmioEndpoint port write off part value s
  | .hostLinkReset port => Sys2Proof.Machine.execHostLinkReset port s
  | .perstRelease port => Sys2Proof.Machine.execPerstRelease port s
  | .hostDoorbellValueLo p n value => Sys2Proof.Machine.execHostDoorbellValueLo p n value s
  | .hostDoorbellRing p n value => Sys2Proof.Machine.execHostDoorbellRing p n value s
  | .hcmdEnable p size => Sys2Proof.Machine.execHcmdEnable p size s
  | .hcmdDisable p size => Sys2Proof.Machine.execHcmdDisable p size s
  | .hcmdTailWrite p tail => Sys2Proof.Machine.execHcmdTailWrite p tail s
  | .hcmdNop => Sys2Proof.Machine.execHcmdNop s
  | .stageImage slot length image genuine back => Sys2Proof.Machine.execStageImage slot length image genuine back s
  | .stageAbort slot => Sys2Proof.Machine.execStageAbort slot s
  | .stageQuery => Sys2Proof.Machine.execStageQuery s
  | .healthSnapshot => Sys2Proof.Machine.execHealthSnapshot s
  | .elvefFrameError seq => Sys2Proof.Machine.execElvefFrameError seq s
  | .elvefGetId seq => Sys2Proof.Machine.execElvefGetId seq s
  | .elvefGetHealth seq off => Sys2Proof.Machine.execElvefGetHealth seq off s
  | .elvefReadReg seq off => Sys2Proof.Machine.execElvefReadReg seq off s
  | .elvefWriteReg seq off value => Sys2Proof.Machine.execElvefWriteReg seq off value s
  | .elvefSetInlet seq celsius => Sys2Proof.Machine.execElvefSetInlet seq celsius s
  | .elvefPowerOff seq => Sys2Proof.Machine.execElvefPowerOff seq s
  | .elvefPowerOn seq => Sys2Proof.Machine.execElvefPowerOn seq s
  | .fwActivateNextStart seq mask => Sys2Proof.Machine.execFwActivateNextStart seq mask s
  | .fwActivateLive seq mask => Sys2Proof.Machine.execFwActivateLive seq mask s
  | .fwActivateCancel seq mask => Sys2Proof.Machine.execFwActivateCancel seq mask s
  | .liveActivationTimeout => Sys2Proof.Machine.execLiveActivationTimeout s
  | .elvefReset seq domain unit => Sys2Proof.Machine.execElvefReset seq domain unit s
  | .pairLeave seq => Sys2Proof.Machine.execPairLeave seq s
  | .pairJoinActive seq => Sys2Proof.Machine.execPairJoinActive seq s
  | .pairJoinStandby seq => Sys2Proof.Machine.execPairJoinStandby seq s
  | .pairRelease seq => Sys2Proof.Machine.execPairRelease seq s
  | .pairSetPreferred seq => Sys2Proof.Machine.execPairSetPreferred seq s
  | .pairClearPreferred seq => Sys2Proof.Machine.execPairClearPreferred seq s
  | .elvefServiceLock seq => Sys2Proof.Machine.execElvefServiceLock seq s
  | .elvefServiceUnlock seq => Sys2Proof.Machine.execElvefServiceUnlock seq s
  | .elvefLogRead seq index count => Sys2Proof.Machine.execElvefLogRead seq index count s
  | .i3cEntdaa addr => Sys2Proof.Machine.execI3cEntdaa addr s
  | .i3cSetdasa addr => Sys2Proof.Machine.execI3cSetdasa addr s
  | .i3cRstdaa => Sys2Proof.Machine.execI3cRstdaa s
  | .i3cEnec events => Sys2Proof.Machine.execI3cEnec events s
  | .i3cDisec events => Sys2Proof.Machine.execI3cDisec events s
  | .i3cGetpid => Sys2Proof.Machine.execI3cGetpid s
  | .i3cGetbcr => Sys2Proof.Machine.execI3cGetbcr s
  | .i3cGetdcr => Sys2Proof.Machine.execI3cGetdcr s
  | .i3cGetstatus => Sys2Proof.Machine.execI3cGetstatus s
  | .i3cSetmwl n => Sys2Proof.Machine.execI3cSetmwl n s
  | .i3cGetmwl => Sys2Proof.Machine.execI3cGetmwl s
  | .i3cSetmrl n => Sys2Proof.Machine.execI3cSetmrl n s
  | .i3cGetmrl => Sys2Proof.Machine.execI3cGetmrl s
  | .i3cRstact action => Sys2Proof.Machine.execI3cRstact action s
  | .heartbeatSend => Sys2Proof.Machine.execHeartbeatSend s
  | .heartbeat m => Sys2Proof.Machine.execHeartbeat m s
  | .takeover m => Sys2Proof.Machine.execTakeover m s
  | .release m => Sys2Proof.Machine.execRelease m s
  | .partnerMessageBad => Sys2Proof.Machine.execPartnerMessageBad s
  | .partnerLinkDown => Sys2Proof.Machine.execPartnerLinkDown s
  | .takebackReady => Sys2Proof.Machine.execTakebackReady s
  | .releaseTimeout => Sys2Proof.Machine.execReleaseTimeout s
  | .uartId => Sys2Proof.Machine.execUartId s
  | .uartR off => Sys2Proof.Machine.execUartR off s
  | .uartH off => Sys2Proof.Machine.execUartH off s
  | .uartLog index count => Sys2Proof.Machine.execUartLog index count s
  | .uartSelftest unit report writes => Sys2Proof.Machine.execUartSelftest unit report writes s
  | .jtagBypass => Sys2Proof.Machine.execJtagBypass s
  | .jtagIdcode => Sys2Proof.Machine.execJtagIdcode s
  | .jtagSamplePreload => Sys2Proof.Machine.execJtagSamplePreload s
  | .jtagExtest => Sys2Proof.Machine.execJtagExtest s
  | .jtagClamp => Sys2Proof.Machine.execJtagClamp s
  | .jtagHighz => Sys2Proof.Machine.execJtagHighz s
  | .jtagPrivateScan dies => Sys2Proof.Machine.execJtagPrivateScan dies s
  | .stageS0Complete => Sys2Proof.Machine.execStageS0Complete s
  | .stageS1Complete => Sys2Proof.Machine.execStageS1Complete s
  | .stageS2Complete planes fibres channels units => Sys2Proof.Machine.execStageS2Complete planes fibres channels units s
  | .stageS3Complete towers' bad fallbacks => Sys2Proof.Machine.execStageS3Complete towers' bad fallbacks s
  | .stageFailed why => Sys2Proof.Machine.execStageFailed why s
  | .startGo p => Sys2Proof.Machine.execStartGo p s
  | .refclkLost => Sys2Proof.Machine.execRefclkLost s
  | .refclkRestored => Sys2Proof.Machine.execRefclkRestored s
  | .svnMinRise kind => Sys2Proof.Machine.execSvnMinRise kind s
  | .doeEvidence b nonce => Sys2Proof.Machine.execDoeEvidence b nonce s
  | .doeEnableRecord b => Sys2Proof.Machine.execDoeEnableRecord b s
  | .doeChain b => Sys2Proof.Machine.execDoeChain b s
  | .resetRequest p domain unit => Sys2Proof.Machine.execResetRequest p domain unit s
  | .unitResetStart domain unit => Sys2Proof.Machine.execUnitResetStart domain unit s
  | .unitResetComplete domain unit => Sys2Proof.Machine.execUnitResetComplete domain unit s
  | .resetEscalate domain unit => Sys2Proof.Machine.execResetEscalate domain unit s
  | .hangThreadHold k => Sys2Proof.Machine.execHangThreadHold k s
  | .hangStallInPlace k => Sys2Proof.Machine.execHangStallInPlace k s
  | .hangRemoteEngine c => Sys2Proof.Machine.execHangRemoteEngine c s
  | .hangChannelAge c owner => Sys2Proof.Machine.execHangChannelAge c owner s
  | .hangCreditStall l => Sys2Proof.Machine.execHangCreditStall l s
  | .dumpBeforeReset domain unit answers => Sys2Proof.Machine.execDumpBeforeReset domain unit answers s
  | .dumpAbandoned domain unit => Sys2Proof.Machine.execDumpAbandoned domain unit s
  | .replaySolo p k t pc limit => Sys2Proof.Machine.execReplaySolo p k t pc limit s
  | .replayJoin p k t pc => Sys2Proof.Machine.execReplayJoin p k t pc s
  | .replayLimit => Sys2Proof.Machine.execReplayLimit s
  | .witnessSample => Sys2Proof.Machine.execWitnessSample s
  | .witnessRecordReady => Sys2Proof.Machine.execWitnessRecordReady s
  | .witnessCompare => Sys2Proof.Machine.execWitnessCompare s
  | .witnessLate => Sys2Proof.Machine.execWitnessLate s
  | .ckptDueTick => Sys2Proof.Machine.execCkptDueTick s
  | .checkpointRequest => Sys2Proof.Machine.execCheckpointRequest s
  | .checkpointDone ok => Sys2Proof.Machine.execCheckpointDone ok s
  | .ckptRestore p => Sys2Proof.Machine.execCkptRestore p s
  | .ckptInvalidate p => Sys2Proof.Machine.execCkptInvalidate p s
  | .ckptRestoreDone a b ok => Sys2Proof.Machine.execCkptRestoreDone a b ok s
  | .pmcOverflow k n => Sys2Proof.Machine.execPmcOverflow k n s
  | .pmcSample k n entry => Sys2Proof.Machine.execPmcSample k n entry s
  | .dumpBoundary => Sys2Proof.Machine.execDumpBoundary s
  | .dumpRecordComplete ok => Sys2Proof.Machine.execDumpRecordComplete ok s
  | .dmpEnable p value => Sys2Proof.Machine.execDmpEnable p value s
  | .dmpDisable p value => Sys2Proof.Machine.execDmpDisable p value s
  | .babbittProgressRecord => Sys2Proof.Machine.execBabbittProgressRecord s
  | .spadScrubPassStart => Sys2Proof.Machine.execSpadScrubPassStart s
  | .mramWearMove c1 block target => Sys2Proof.Machine.execMramWearMove c1 block target s
  | .cartridgeInternalFault n => Sys2Proof.Machine.execCartridgeInternalFault n s
  | .fibrePairEpoch => Sys2Proof.Machine.execFibrePairEpoch s
  | .fibrePairRetired pair => Sys2Proof.Machine.execFibrePairRetired pair s
  | .vauxInputBelow10v b mv => Sys2Proof.Machine.execVauxInputBelow10v b mv s
  | .cxlLinkChange port up lopt width rate => Sys2Proof.Machine.execCxlLinkChange port up lopt width rate s
  | .managementProcessorsRestarted c1 healthy => Sys2Proof.Machine.execManagementProcessorsRestarted c1 healthy s
  | .controlChipletLost c1 => Sys2Proof.Machine.execControlChipletLost c1 s

end Sys2Proof.Machine
end

