-- ==== Sys2Proof/Machine/Fec.lean ====
section
/-!
DEFINITION. The code of the external lanes (R289, R290): the field of 1,024 elements, the Reed-Solomon codeword of 272 symbols, the line bits
of a superframe and the PAM4 levels they go out on. The code of the base lanes is internal to the base (R239).
-/
namespace Sys2Proof.Machine
open Sys2Proof

/-! The field generated by x^10 + x^3 + 1: an element is the number its ten coefficients form. -/

/-- α times an element. -/
def rsDouble (a : Nat) : Nat := if a < 512 then 2 * a else (2 * a) ^^^ 0x409

/-- α^n times an element. -/
def rsShift (a : Nat) : Nat → Nat
  | 0 => a
  | n + 1 => rsDouble (rsShift a n)

/-- α^n, with α a root of the polynomial. -/
def rsPow (n : Nat) : Nat := rsShift 1 n

/-- The sum of a α^i over the set bits i below `n` of `b`. -/
def rsMulBits (a b : Nat) : Nat → Nat
  | 0 => 0
  | n + 1 => (if b.testBit n then rsShift a n else 0) ^^^ rsMulBits a b n

def rsMul (a b : Nat) : Nat := rsMulBits a b 10

/-! The code (R290). A polynomial is the list of its coefficients, the highest power first. -/

/-- A polynomial times (x - r). -/
def polyTimesRoot (g : List Nat) (r : Nat) : List Nat :=
  List.zipWith (fun a b => a ^^^ b) (g ++ [0]) (0 :: g.map fun a => rsMul a r)

/-- The product of (x - α^i) for i = 0 to n - 1. -/
def rsProduct : Nat → List Nat
  | 0 => [1]
  | n + 1 => polyTimesRoot (rsProduct n) (rsPow n)

/-- The generator polynomial. -/
def rsGenerator : List Nat := rsProduct 16

/-- The value of a polynomial at an element. -/
def polyAt (g : List Nat) (r : Nat) : Nat := g.foldl (fun v a => rsMul v r ^^^ a) 0

/-- One more data symbol enters the remainder of the division by the generator. -/
def rsStep (rem : List Nat) (d : Nat) : List Nat :=
  let f := d ^^^ rem.headD 0
  List.zipWith (fun a g => a ^^^ rsMul f g) (rem.drop 1 ++ [0]) (rsGenerator.drop 1)

/-- The 16 check symbols of 256 data symbols: the remainder of the data, at the powers above them, by the generator. -/
def rsChecks (data : List Nat) : List Nat := data.foldl rsStep (List.replicate 16 0)

/-- A codeword: 256 data symbols, then their 16 check symbols. -/
def rsCodeword (data : List Nat) : List Nat := data ++ rsChecks data

/-- Is a word of 272 symbols a codeword: is its polynomial 0 at every root of the generator? -/
def rsValid (word : List Nat) : Bool :=
  decide (word.length = 272) && word.all (fun a => decide (a < 1024)) && (List.range 16).all fun i => decide (polyAt word (rsPow i) = 0)

/-- Symbols in which two words differ. -/
def rsDistance (a b : List Nat) : Nat := ((a.zip b).filter fun x => decide (x.1 ≠ x.2)).length

/-- Does a receiver read `word` as the codeword `code`: it differs in at most t = 8 symbols (R289)? -/
def rsReads (word code : List Nat) : Bool := rsValid code && decide (word.length = 272) && decide (rsDistance word code ≤ 8)

/-! Line bits (R289, R290). -/

/-- The `n` lowest bits of a number, the lowest first. -/
def bitsUp (n v : Nat) : List Bool := (List.range n).map v.testBit

/-- The number some bits form, the lowest first. -/
def fromBits : List Bool → Nat
  | [] => 0
  | b :: bs => (if b then 1 else 0) + 2 * fromBits bs

/-- Cut a list into pieces of `n`, at most `k` of them. -/
def pieces {β : Type} (n : Nat) (l : List β) : Nat → List (List β)
  | 0 => []
  | k + 1 => l.take n :: pieces n (l.drop n) k

/-- The line bits of a codeword: symbol j takes bits 10j to 10j + 9, least significant first. -/
def rsLineBits (word : List Nat) : List Bool := word.flatMap (bitsUp 10)

/-- The bits of a flit of 36 bytes. -/
def flitBits (flit : List Byte) : List Bool := flit.flatMap fun b => bitsUp 8 b.toNat

/-- The line bits of a superframe of 80 flits: nine codewords whose 2,560 data bits carry the flit bits in order (R289, R290). -/
def extSuperframe (flits : List (List Byte)) : List Bool :=
  (pieces 2560 (flits.flatMap flitBits) 9).flatMap fun bits => rsLineBits (rsCodeword ((pieces 10 bits 256).map fromBits))

/-- The PAM4 level of a pair of line bits: 00, 01, 11 and 10 on levels 0 to 3 (R289). -/
def pamLevel (first second : Bool) : Nat :=
  match first, second with
  | false, false => 0
  | false, true => 1
  | true, true => 2
  | true, false => 3

/-- The levels of line bits, two bits a symbol. -/
def pamLevels : List Bool → List Nat
  | a :: b :: rest => pamLevel a b :: pamLevels rest
  | _ => []

end Sys2Proof.Machine
end

