-- ==== Sys2Proof/Safety.lean ====
section
/-!
DEFINITION. What counts as a safe run, and the words the statements use: when an instruction may issue, and what an issued
instruction leaves as it was.
-/
namespace Sys2Proof
open Machine

/-- The step answers a next state: neither a fault nor a refusal. -/
def Safe (s : State) : Prop := ∃ t, step s = .next t

/-- The thread is the RUNNING thread of an awake core, no stop or deferred fault is due at its next issue, and the lane of its
next instruction is not in error (R35, R36, R52, R114). -/
def Ready (s : State) (c : Ctx) : Prop :=
  s.canIssue c = true ∧ errorsOf (s.core c.coreId).imemErr ((s.th c).pc.toNat / 4) = []

/-- None of these registers of the thread is pending (R43). -/
def Clear (s : State) (c : Ctx) (ds : List Dep) : Prop := ∀ d ∈ ds, (s.core c.coreId).isPending c.thread d = false

/-- The command `i` is what the instruction memory of the thread's core holds at its program counter (R114, R117). A sender that runs the
program in memory sends no other command for the thread (assumption 9). -/
def Fetched (s : State) (c : Ctx) (i : Instr) : Prop :=
  ∃ w, (s.fetch c.coreId (s.th c).pc).2 = some w ∧ (decodeWord c w = some i ∨ decodeWord c w = none ∧ i = .illegalInstruction c w)

/-- The registers of the core's eight counters (R499). -/
def pmcReg (k : CoreId) (off : Nat) : Prop := ∃ n, n < 8 ∧ (off = pmcSel k n ∨ off = pmcCnt k n)

/-- The core `a` but for its threads, and for its counters' bookkeeping: what the last counted cycle held, and the samples that are
armed. -/
def sameBut (a b : Core) : Core :=
  { a with threads := b.threads, pmcPrev := b.pmcPrev, pmcWindow := b.pmcWindow, pmcArmed := b.pmcArmed }

/-- `t` differs from `s` in the core `k`, which is now `x`, and in the registers and bookkeeping of that core's counters, and in
nothing else: no other core, no other register, no memory, no other state of the module. -/
structure OnlyCore (k : CoreId) (s t : State) (x : Core) : Prop where
  core : t.core k = sameBut x (t.core k)
  threads : ∀ u, (t.core k).th u = x.th u
  others : ∀ i, i ≠ k.index → t.coreAt i = s.coreAt i
  regs : ∀ off, ¬ pmcReg k off → t.reg off = s.reg off
  rest : t = { s with regs := t.regs, cores := t.cores }

/-- The core with its present cycle at the issue cycle: the next issue is one cycle later (R35, R43). -/
def issuedAt (now : Nat) (k : Core) : Core := { k with cycle := k.issueCycle, nextIssue := k.issueCycle + 1, lastIssue := now }

/-- Thread `c` of `s` has issued an instruction that changes the thread by `f` and its core by `g`, and nothing else. -/
def Issued (c : Ctx) (s t : State) (f : Thread → Thread) (g : Core → Core) : Prop :=
  OnlyCore c.coreId s t (g ((issuedAt s.now (s.core c.coreId)).modTh c.thread f))

/-- A local long operation of the thread, in flight: it will write `d` in cycle `due`, once it has made `reads` (R43, R45). -/
def inFlight (c : Ctx) (s : State) (due : Nat) (d : LongDest) (reads : List (Nat × Nat)) (k : Core) : LongOp :=
  { thread := c.thread.val, pc := (s.th c).pc, due := due, order := k.accessNo, dest := d, reads := reads, got := [], bad := none }

/-- A local long operation of the thread that will write `d`, its result due `lat` cycles from the issue cycle on (R43, R45). -/
def longOf (c : Ctx) (s : State) (lat : Nat) (d : LongDest) (k : Core) : Core :=
  { k with
    longOps := k.longOps ++ [inFlight c s (k.cycle + lat - 1) d [] k]
    accessNo := k.accessNo + 1 }

/-- An awake core with no RUNNING thread takes the first READY thread after the one that ran last, to issue in the next cycle (R39). -/
def idleTakes (now : Nat) (k : Core) : Core :=
  let k := k.standBack
  if k.running?.isSome then k
  else match nextAfter k.ranLast (fun t => decide ((k.th t).st = .ready)) with
    | none => k
    | some u => { k.start u (k.cycle + 1) now with took := some (k.ranLast, k.cycle) }

/-- The core after thread `c` has given it up in its present cycle, left as `f` makes it: the first of the threads READY since an
earlier cycle, in the rotation after it, issues first two cycles later, and with none the core is idle (R38, R39). -/
def gaveUp (now : Nat) (c : Ctx) (f : Thread → Thread) (k : Core) : Core :=
  let k := k.modTh c.thread fun t => { f t with since := now, readyAt := k.cycle }
  match nextAfter c.thread (k.candidate c.thread) with
  | some u => k.start u (k.cycle + 2) now
  | none => idleTakes now { k with idleSince := now }

/-- Thread `c` has issued an instruction that changes its core by `g` and gives it up: the thread is left as `f` makes it. `s'` is `s` with
what the instruction did outside the core; nothing else changes. -/
def GaveUp (c : Ctx) (s s' t : State) (f : Thread → Thread) (g : Core → Core) : Prop :=
  OnlyCore c.coreId s' t (gaveUp s.now c f (g (issuedAt s.now (s.core c.coreId))))

/-- The remote engine of a context with one more operation, which takes the context's next number. -/
def withOp (op : RemoteOp) (r : Requester) : Requester :=
  { r with ops := r.ops ++ [{ op with id := r.nextOp }], nextOp := r.nextOp + 1 }

end Sys2Proof
end

