-- ==== Sys2Proof/WellFormed.lean ====
section
/-!
DEFINITION. Which commands are well formed: each operand that its type does not already bound fits the field or the range the spec gives it.
-/
namespace Sys2Proof

/-- A packet's fields fit its head flit, and it has at most 32 data flits, each full (R166, R167). -/
def Packet.wf (p : Packet) : Bool :=
  decide (p.op < 256) && decide (p.sub < 256) && decide (p.knum < 64) && decide (p.tries < 4) && decide (p.srcCtx < 65536) &&
  decide (p.seq < 65536) && decide (p.kctx < 65536) && decide (p.srcModule < 1024) && decide (p.srcInc < 256) &&
  decide (p.data.length ≤ 1024) && decide (p.data.length % 32 = 0)

/-- A packet of one type has the data flits its row of R168 gives. -/
def Packet.wfAs (p : Packet) (op : Nat) : Bool :=
  p.wf && decide (p.op = op) &&
  (match op with
   | 0x03 => if p.sub % 32 = 0x12 then decide (p.data.length = 32) else decide (p.data = [])
   | 0x04 => decide (p.data ≠ [])
   | 0x44 => decide (p.data ≠ [])
   | _ => decide (p.data = []))

/-- A reserved OP (R168). -/
def Packet.wfReserved (p : Packet) : Bool :=
  p.wf && !([0x01, 0x02, 0x03, 0x04, 0x05, 0x08, 0x41, 0x42, 0x43, 0x44, 0x7F] : List Nat).contains p.op

/-- Freed counts are modulo 4,096, one for each of eight lanes (R244, R291). -/
def freedWf (xs : List Nat) : Bool := decide (xs.length = 8) && xs.all fun n => decide (n < 4096)

def LinkFlit.wf (f : LinkFlit) : Bool := freedWf f.reqFreed && freedWf f.rspFreed && decide (f.src ≠ f.dst)
def ExtLinkFlit.wf (f : ExtLinkFlit) : Bool := freedWf f.reqFreed && freedWf f.rspFreed && decide (f.srcModule < 1024)

/-- A frame's head fields and its packets (R196). -/
def Frame.wf (f : Frame) : Bool :=
  decide (f.number < 2 ^ 32) && decide (f.srcModule < 1024) && decide (f.dstModule < 1024) && decide (16 ≤ f.srcGw) && decide (f.srcGw ≤ 21) &&
  decide (16 ≤ f.dstGw) && decide (f.dstGw ≤ 21) && decide (f.packets < 4096) && decide (f.flits < 65536) && f.body.all Packet.wf

/-- A partner message's fields (R428). -/
def PartnerMsg.wf (m : PartnerMsg) : Bool :=
  decide (m.type < 256) && decide (m.version < 256) && decide (m.seq < 65536) && decide (m.srcModule < 1024) && decide (m.role < 256) &&
  decide (m.flags < 16) && decide (m.term < 2 ^ 32)

def TimeFlit.wf (f : TimeFlit) : Bool :=
  decide (f.stratum < 16) && decide (f.srcModule < 1024) && decide (f.tTx < 2 ^ 64) && decide (f.echoTx < 2 ^ 64) && decide (f.echoRx < 2 ^ 64)

/-- A Bimetal node (R370). -/
def NodeTemp.wf (t : NodeTemp) : Bool := decide (t.node ≤ 292)

/-- A destination of R181: module x 32 + endpoint. -/
def destWf (dest : Nat) : Bool := decide (dest < 32768) && decide (dest % 32 < 24)

/-- Is a command well formed? The operands of the commands not named here are bounded by their types. -/
def Instr.wellFormed : Instr → Bool
  | .loadPacket _ p _ _ => p.wfAs 0x01
  | .storePacket _ p _ _ => p.wfAs 0x02
  | .atomicPacket _ p _ _ => p.wfAs 0x03
  | .putPacket _ p _ _ => p.wfAs 0x04
  | .getPacket _ p _ _ => p.wfAs 0x05
  | .ackPacket _ p _ _ => p.wfAs 0x41
  | .nackPacket _ p _ _ => p.wfAs 0x42
  | .dataPacket _ p _ _ => p.wfAs 0x43
  | .gdataPacket _ p _ _ => p.wfAs 0x44
  | .reservedOpPacket _ p _ _ => p.wfReserved
  | .resendIntervalExpired _ dest seq => destWf dest && decide (seq < 65536)
  | .packetBoundPassed _ dest seq => destWf dest && decide (seq < 65536)
  | .windowExpired _ m c => decide (m < 1024) && decide (c < 65536)
  | .gatewayFrameClose _ dst _ => decide (dst < 1024)
  | .frameReceived _ f _ => f.wf
  | .multicastPut _ _ _ p => { p with data := [] }.wf && (decide (p.op = 2) && decide (p.data = []) || decide (p.op = 4) && decide (p.data.length % 32 = 0))
  | .linkFlitReceived f => f.wf
  | .linkFlitDue _ (.base _) half => decide (half.val < 2)
  | .linkFlitDue src (.fibre pair) _ => decide (src.val = 16 + pair.val / 4)
  | .extLinkFlitReceived f => f.flit.wf
  | .timeFlitReceived _ f _ => f.wf
  | .bimetalEvaluation ts => ts.all NodeTemp.wf
  | .heartbeat m => m.wf
  | .takeover m => m.wf
  | .release m => m.wf
  | .doeEvidence _ nonce => decide (nonce.length = 32)
  | .jtagPrivateScan dies => decide (dies.Nodup)
  | _ => true

end Sys2Proof
end

