-- ==== Sys2Proof/Certificates/Slice0/Obligations.lean ====
section
/-!
DEFINITION. The statements for the provers, and the tables of forms they speak of.
-/
namespace Sys2Proof
open Machine

/-- From every state `s0` whose core comes to its issue cycle as `s`, executing `i` answers a next state in which it has issued: thread
`c` is `f` of what it was in `s`, its core `g` of that, and nothing else has changed. -/
def Does (i : Instr) (c : Ctx) (s : State) (f : Thread → Thread) (g : Core → Core) : Prop :=
  ∀ s0 : State, s0.arrive c = s → ∃ t, exec i s0 = .next t ∧ Issued c s t f g

/-- The same of an instruction that gives up the core: `f` makes its thread, `g` its core, and outside the core it makes `s'` of `s`. -/
def Yields (i : Instr) (c : Ctx) (s s' : State) (f : Thread → Thread) (g : Core → Core) : Prop :=
  ∀ s0 : State, s0.arrive c = s → ∃ t, exec i s0 = .next t ∧ GaveUp c s s' t f g

/-- The register-form ALU instructions in the order of FUNC from 0x00 on, and what xd receives of xs1 and xs2 (R120). -/
def aluForms : List ((Ctx → XReg → XReg → XReg → Instr) × (Word → Word → Word)) :=
  [(.add, fun a b => a + b), (.sub, fun a b => a - b), (.and, fun a b => a &&& b), (.or, fun a b => a ||| b), (.xor, fun a b => a ^^^ b),
   (.shl, fun a b => a <<< (b.toNat % 64)), (.shr, fun a b => a >>> (b.toNat % 64)), (.sra, fun a b => a.sshiftRight (b.toNat % 64)),
   (.slt, fun a b => if a.toInt < b.toInt then 1 else 0), (.sltu, fun a b => if a.toNat < b.toNat then 1 else 0),
   (.min, fun a b => if a.toInt ≤ b.toInt then a else b), (.max, fun a b => if a.toInt ≤ b.toInt then b else a),
   (.minu, fun a b => if a.toNat ≤ b.toNat then a else b), (.maxu, fun a b => if a.toNat ≤ b.toNat then b else a)]

/-- The immediate forms, in the same order; the second operand is IMM32, sign-extended (R116, R120). -/
def aluImmForms : List ((Ctx → XReg → XReg → BitVec 32 → Instr) × (Word → Word → Word)) :=
  [(.addi, fun a b => a + b), (.subi, fun a b => a - b), (.andi, fun a b => a &&& b), (.ori, fun a b => a ||| b), (.xori, fun a b => a ^^^ b),
   (.shli, fun a b => a <<< (b.toNat % 64)), (.shri, fun a b => a >>> (b.toNat % 64)), (.srai, fun a b => a.sshiftRight (b.toNat % 64)),
   (.slti, fun a b => if a.toInt < b.toInt then 1 else 0), (.sltui, fun a b => if a.toNat < b.toNat then 1 else 0),
   (.mini, fun a b => if a.toInt ≤ b.toInt then a else b), (.maxi, fun a b => if a.toInt ≤ b.toInt then b else a),
   (.minui, fun a b => if a.toNat ≤ b.toNat then a else b), (.maxui, fun a b => if a.toNat ≤ b.toNat then b else a)]

/-- Leading zero bits, counted from bit 63 down. -/
def leadingZeros (a : Word) : Nat := (((List.range 64).map fun i => a.getLsbD (63 - i)).takeWhile (· == false)).length

/-- One bits. -/
def oneBits (a : Word) : Nat := ((List.range 64).filter fun i => a.getLsbD i).length

/-- Multiplies, from FUNC 0x00 on, latency 3 (R121). -/
def mulForms : List ((Ctx → XReg → XReg → XReg → Instr) × (Word → Word → Word)) :=
  [(.mul, fun a b => a * b), (.mulh, fun a b => BitVec.ofInt 64 (a.toInt * b.toInt / 2 ^ 64)),
   (.mulhu, fun a b => BitVec.ofNat 64 (a.toNat * b.toNat / 2 ^ 64))]

/-- Divides, from FUNC 0x04 on, latency 36: a zero divisor gives all ones and the dividend, and -2^63 by -1 wraps (R121). -/
def divForms : List ((Ctx → XReg → XReg → XReg → Instr) × (Word → Word → Word)) :=
  [(.div, fun a b => if b = 0 then BitVec.allOnes 64 else a.sdiv b), (.divu, fun a b => if b = 0 then BitVec.allOnes 64 else a / b),
   (.rem, fun a b => if b = 0 then a else a.srem b), (.remu, fun a b => if b = 0 then a else a % b)]

/-- Branches on two registers, from FUNC 0x00 on, and on a predicate, from FUNC 0x08 on (R123). -/
def branchForms : List ((Ctx → XReg → XReg → BitVec 13 → Instr) × (Word → Word → Bool)) :=
  [(.beq, fun a b => decide (a = b)), (.bne, fun a b => decide (a ≠ b)), (.blt, fun a b => decide (a.toInt < b.toInt)),
   (.bge, fun a b => decide (b.toInt ≤ a.toInt)), (.bltu, fun a b => decide (a.toNat < b.toNat)), (.bgeu, fun a b => decide (b.toNat ≤ a.toNat))]

def predBranchForms : List ((Ctx → PReg → BitVec 13 → Instr) × (Word → Bool)) :=
  [(.bpany, fun p => decide (p ≠ 0)), (.bpall, fun p => decide (p = BitVec.allOnes 64)), (.bpnone, fun p => decide (p = 0))]

/-- Local scalar loads: bytes, and whether the value is sign-extended (R124). -/
def loadForms : List ((Ctx → XReg → XReg → BitVec 32 → Instr) × Nat × Bool) :=
  [(.ld1u, 1, false), (.ld2u, 2, false), (.ld4u, 4, false), (.ld8, 8, false), (.ld1s, 1, true), (.ld2s, 2, true), (.ld4s, 4, true)]

/-- Local scalar stores (R124). -/
def storeForms : List ((Ctx → XReg → XReg → BitVec 32 → Instr) × Nat) := [(.st1, 1), (.st2, 2), (.st4, 4), (.st8, 8)]

/-- The local offset x + imm is `off`, aligned to `align`, and the access of `n` bytes ends inside the scratchpad (R124, R125). -/
def LocalOk (x : Word) (imm : BitVec 32) (align n off : Nat) : Prop := x.toInt + imm.toInt = off ∧ off % align = 0 ∧ off + n ≤ 2 ^ 20

/-- A local turn of a lane's bank, later than the issue cycle (R45, R48). -/
def LocalTurn (c : Ctx) (s : State) (lane turn : Nat) : Prop :=
  (s.core c.coreId).issueCycle < turn ∧ ((lane % 16 + turn) % 8 = 4 ∨ (lane % 16 + turn) % 8 = 5)

/-- A local load has issued: each lane of its `n` bytes has its local turn, its result is due `lat` cycles after the last of them, and its
register is pending (R43, R45). -/
def Loads (i : Instr) (c : Ctx) (s : State) (kind : LoadKind) (r off n lat : Nat) (mask : Word) : Prop :=
  ∃ reads free due, reads.map Prod.fst = lanesOf off n ∧ (∀ p ∈ reads, LocalTurn c s p.1 p.2 ∧ p.2 + lat ≤ due) ∧
    (∃ p ∈ reads, p.2 + lat = due) ∧
    Does i c s Thread.step fun k => { k with
      longOps := k.longOps ++ [inFlight c s due (.load kind r off mask) reads k], accessNo := k.accessNo + 1, bankFree := free }

/-- A local store has issued: its bytes wait, lane by lane, for a local turn after the issue cycle; no byte of memory has changed (R124). -/
def Stores (i : Instr) (c : Ctx) (s : State) (bytes : List (Nat × Byte)) : Prop :=
  ∃ parts free,
    (∀ b, b ∈ parts.flatMap LaneStore.bytes ↔ b ∈ bytes) ∧
    (∀ p ∈ parts, p.thread = c.thread.val ∧ p.pc = (s.th c).pc ∧ p.order = (s.core c.coreId).accessNo ∧ p.bad = none ∧
      ∃ lane, LocalTurn c s lane p.turn ∧ ∀ b ∈ p.bytes, b.1 / 32 = lane) ∧
    Does i c s Thread.step fun k => { k with stores := k.stores ++ parts, accessNo := k.accessNo + 1, bankFree := free }

/-- Vector loads: the bytes of their extent and how they widen (R125). -/
def vloadForms : List ((Ctx → PReg → VReg → XReg → BitVec 32 → Instr) × LoadKind × Nat) :=
  [(.vld, .vec32, 256), (.vldbf, .vecBf, 128), (.vldh, .vecHalf, 128)]

/-- Vector stores: bytes of an element, and its bits from a lane (R125). -/
def vstoreForms : List ((Ctx → PReg → VReg → XReg → BitVec 32 → Instr) × Nat × (Thread → Lane → Nat)) :=
  [(.vst, 4, fun _ w => w.toNat), (.vstbf, 2, fun _ w => toBf16 (f32 w)), (.vsth, 2, fun t w => toF16 t.rounding (f32 w))]

/-- The FP32 forms of two sources, latency 4 (R126). -/
def vec2Forms : List ((Ctx → PReg → VReg → VReg → VReg → Instr) × (Rounding → Lane → Lane → Lane)) :=
  [(.vadd, fAdd), (.vsub, fSub), (.vmul, fMul), (.vmin, fun _ => fMin), (.vmax, fun _ => fMax)]

/-- The integer forms of two sources, latency 4 (R129). -/
def vintForms : List ((Ctx → PReg → VReg → VReg → VReg → Instr) × (Lane → Lane → Lane)) :=
  [(.viadd, fun a b => a + b), (.visub, fun a b => a - b), (.viand, fun a b => a &&& b), (.vior, fun a b => a ||| b), (.vixor, fun a b => a ^^^ b),
   (.vishl, fun a b => a <<< (b.toNat % 32)), (.vishr, fun a b => a >>> (b.toNat % 32)), (.visra, fun a b => a.sshiftRight (b.toNat % 32)),
   (.vimin, fun a b => if a.toInt ≤ b.toInt then a else b), (.vimax, fun a b => if a.toInt ≤ b.toInt then b else a),
   (.viminu, fun a b => if a.toNat ≤ b.toNat then a else b), (.vimaxu, fun a b => if a.toNat ≤ b.toNat then b else a)]

/-- The forms of one source, with their latency (R126, R129). -/
def vec1Forms : List ((Ctx → PReg → VReg → VReg → Instr) × Nat × (Lane → Lane)) :=
  [(.vabs, 4, fAbs), (.vneg, 4, fNeg), (.vcvtfi, 4, fToInt), (.vcvtif, 4, intToF), (.vmov, 2, id)]

/-- The special functions (R131). -/
def sfuForms : List ((Ctx → PReg → VReg → VReg → Instr) × Config.Sfu) :=
  [(.vsfExp, .exp), (.vsfLog, .log), (.vsfRsqrt, .rsqrt), (.vsfSigmoid, .sigmoid), (.vsfErf, .erf)]

/-- The governed lanes, each with its value (R61). -/
def lanesBy (pg : Word) (f : Nat → Lane) : List (Nat × Lane) := ((List.range 64).filter fun i => pg.getLsbD i).map fun i => (i, f i)

/-- The reductions: how two values combine, and what an ungoverned lane enters as (R128). -/
def reduceForms : List ((Ctx → PReg → VReg → VReg → Instr) × (Rounding → Lane → Lane → Lane) × Lane) :=
  [(.vredsum, fAdd, 0x80000000), (.vredmax, fun _ => fMax, nan32), (.vredmin, fun _ => fMin, nan32)]

/-- The reduction tree of R128: in stage s, lane i below h = 64 / 2^s is lane i combined with lane i + h. -/
def tree (f : Lane → Lane → Lane) (x : Nat → Lane) : Nat → Nat → Lane
  | 0, i => x i
  | n + 1, i => f (tree f x n i) (tree f x n (i + 64 / 2 ^ (n + 1)))

/-- The predicate forms (R130). -/
def predForms : List ((Ctx → PReg → PReg → PReg → Instr) × (Word → Word → Word)) :=
  [(.pand, fun a b => a &&& b), (.por, fun a b => a ||| b), (.pxor, fun a b => a ^^^ b), (.pandn, fun a b => a &&& ~~~b)]

/-- Remote loads (R139): bytes, sign extension. -/
def rloadForms : List ((Ctx → XReg → XReg → Instr) × Nat × Bool) :=
  [(.rld1u, 1, false), (.rld2u, 2, false), (.rld4u, 4, false), (.rld8, 8, false), (.rld1s, 1, true), (.rld2s, 2, true), (.rld4s, 4, true)]

/-- Remote stores (R139): bytes, doorbell attribute. -/
def rstoreForms : List ((Ctx → XReg → XReg → Instr) × Nat × Bool) :=
  [(.rst1, 1, false), (.rst2, 2, false), (.rst4, 4, false), (.rst8, 8, false),
   (.rst1Db, 1, true), (.rst2Db, 2, true), (.rst4Db, 4, true), (.rst8Db, 8, true)]

/-- Non-fetch atomics (R140): FUNC, bytes. -/
def atomicForms : List ((Ctx → XReg → XReg → Instr) × Nat × Nat) :=
  [(.radd4, 0, 4), (.radd8, 1, 8), (.rfadd, 2, 4), (.rbfadd, 3, 2), (.rfmin, 4, 4), (.rfmax, 5, 4), (.rmin4, 6, 4), (.rmin8, 7, 8),
   (.rmax4, 8, 4), (.rmax8, 9, 8), (.rminu4, 10, 4), (.rminu8, 11, 8), (.rmaxu4, 12, 4), (.rmaxu8, 13, 8), (.rand8, 14, 8), (.ror8, 15, 8),
   (.rxor8, 16, 8)]

/-- Fetch atomics (R140). -/
def fetchForms : List ((Ctx → XReg → XReg → XReg → Instr) × Nat × Nat) :=
  [(.radd4F, 0, 4), (.radd8F, 1, 8), (.rfaddF, 2, 4), (.rbfaddF, 3, 2), (.rfminF, 4, 4), (.rfmaxF, 5, 4), (.rmin4F, 6, 4), (.rmin8F, 7, 8),
   (.rmax4F, 8, 4), (.rmax8F, 9, 8), (.rminu4F, 10, 4), (.rminu8F, 11, 8), (.rmaxu4F, 12, 4), (.rmaxu8F, 13, 8), (.rand8F, 14, 8),
   (.ror8F, 15, 8), (.rxor8F, 16, 8), (.rswap8F, 17, 8)]

/-- A remote instruction with its entries free has issued `op`: the operation takes the context's next number and a tracking entry; a
load or fetch leaves its thread WAIT_REMOTE, every other READY (R37). -/
def Sends (i : Instr) (c : Ctx) (s : State) (waits : Bool) (op : RemoteOp) : Prop :=
  Yields i c s (s.modReq c.id (withOp op)) (fun th =>
    if waits then { th.step with st := .waitRemote, wait := .answer (s.req c.id).nextOp } else { th.step with st := .ready, wait := .none }) id

/-- One packet of a scalar remote operation. -/
def onePacket (c : Ctx) (s : State) (kind : OpKind) (op sub : Nat) (far : Word) (n : Nat) (operand comparand : Word) (db : Bool) : RemoteOp :=
  { id := 0, thread := c.thread.val, pc := (s.th c).pc, kind := kind, flights := [], failure := none, value := none, bytes := [], spills := none
    unsent := [{ op := op, sub := sub, far := far, loc := 0, len := n, operand := operand, comparand := comparand, ken := false,
                 knum := 0, kctx := 0, db := db }] }

/-- The Constantan count has come to its first value that is not before the moment `x`, and has not gone back: it counts 20 ns at once before stage
S1 and 1 ns after (R348, R354). -/
def Reaches (s t : State) (x : Nat) : Prop := t.now = if s.provisional then s.now + (x - s.now + 19) / 20 * 20 else max s.now x

/-- A head flit's 256 data bits hold the listed fields: lowest bit, width, value. -/
def HeadHas (h : Nat) (fields : List (Nat × Nat × Nat)) : Prop := h < 2 ^ 256 ∧ ∀ f ∈ fields, h / 2 ^ f.1 % 2 ^ f.2.1 = f.2.2

/-- The freed counts of a link flit: 12 bits a class and lane, from bit 64 on (R244, R291). -/
def freedFields (req rsp : List Nat) : List (Nat × Nat × Nat) :=
  (List.range 8).flatMap fun j => [(64 + 24 * j, 12, req.getD j 0 % 4096), (76 + 24 * j, 12, rsp.getD j 0 % 4096)]

/-- The low `n` bytes of a word. -/
def lowBytes (n : Nat) (w : Word) : Word := BitVec.ofNat 64 (w.toNat % 2 ^ (8 * n))

end Sys2Proof

open Sys2Proof Sys2Proof.Machine

/-- The scalar ALU (R120): every register form, every immediate form, `clz` and `popc` issue in one cycle, write xd (x0 keeps reading as
0, R33), go on at the next instruction and change nothing else; their words carry MAJOR 0x01 or 0x02, their FUNC, xd in field A, xs1 in B,
and xs2 in C or IMM32. -/
def Obligations.ScalarAlu : Prop :=
  (∀ (c : Ctx) (xd xs1 xs2 : XReg) (imm : BitVec 32),
    (∀ p ∈ aluForms.zipIdx, encodeWord (p.1.1 c xd xs1 xs2) = some (instrWord 0x01 p.2 xd.val xs1.val xs2.val 0 0)) ∧
    (∀ p ∈ aluImmForms.zipIdx, encodeWord (p.1.1 c xd xs1 imm) = some (instrWord 0x02 p.2 xd.val xs1.val 0 0 imm.toNat)) ∧
    encodeWord (.clz c xd xs1) = some (instrWord 0x01 0x0E xd.val xs1.val 0 0 0) ∧
    encodeWord (.popc c xd xs1) = some (instrWord 0x01 0x0F xd.val xs1.val 0 0 0)) ∧
  ∀ (c : Ctx) (s : State), Ready s c →
    (∀ p ∈ aluForms, ∀ xd xs1 xs2, Clear s c [.x xd, .x xs1, .x xs2] →
      Does (p.1 c xd xs1 xs2) c s (fun t => (t.setX xd (p.2 (t.xr xs1) (t.xr xs2))).step) id) ∧
    (∀ p ∈ aluImmForms, ∀ xd xs1 imm, Clear s c [.x xd, .x xs1] →
      Does (p.1 c xd xs1 imm) c s (fun t => (t.setX xd (p.2 (t.xr xs1) (imm.signExtend 64))).step) id) ∧
    (∀ xd xs1, Clear s c [.x xd, .x xs1] →
      Does (.clz c xd xs1) c s (fun t => (t.setX xd (BitVec.ofNat 64 (leadingZeros (t.xr xs1)))).step) id ∧
      Does (.popc c xd xs1) c s (fun t => (t.setX xd (BitVec.ofNat 64 (oneBits (t.xr xs1)))).step) id)

/-- Multiply and divide (R121): the product is due 3 cycles and the quotient or remainder 36 cycles after issue, the divider held for all
36; no operand makes one fault. Their words carry MAJOR 0x03 and their FUNC. -/
def Obligations.MultiplyDivide : Prop :=
  (∀ (c : Ctx) (xd xs1 xs2 : XReg),
    (∀ p ∈ mulForms.zipIdx, encodeWord (p.1.1 c xd xs1 xs2) = some (instrWord 0x03 p.2 xd.val xs1.val xs2.val 0 0)) ∧
    ∀ p ∈ divForms.zipIdx, encodeWord (p.1.1 c xd xs1 xs2) = some (instrWord 0x03 (4 + p.2) xd.val xs1.val xs2.val 0 0)) ∧
  ∀ (c : Ctx) (s : State), Ready s c → ∀ xd xs1 xs2, Clear s c [.x xd, .x xs1, .x xs2] →
    (∀ p ∈ mulForms, Does (p.1 c xd xs1 xs2) c s Thread.step
      (longOf c s 3 (.x xd.val (p.2 ((s.th c).xr xs1) ((s.th c).xr xs2))))) ∧
    (∀ p ∈ divForms, (s.core c.coreId).divFree ≤ (s.core c.coreId).issueCycle → Does (p.1 c xd xs1 xs2) c s Thread.step fun k =>
      { longOf c s 36 (.x xd.val (p.2 ((s.th c).xr xs1) ((s.th c).xr xs2))) k with divFree := k.cycle + 36 })

/-- Under MAJOR 0x04, `li` (FUNC 0x00) writes IMM32 sign-extended to xd; `lih` (FUNC 0x01) writes IMM32 to xd[63:32] and keeps xd[31:0];
both have a latency of 1 core cycle, and a word of either whose field B is not 0 is no legal word (R122). -/
def Obligations.LoadImmediate : Prop :=
  (∀ (c : Ctx) (xd : XReg) (imm : BitVec 32), encodeWord (.li c xd imm) = some (instrWord 0x04 0x00 xd.val 0 0 0 imm.toNat) ∧
    encodeWord (.lih c xd imm) = some (instrWord 0x04 0x01 xd.val 0 0 0 imm.toNat)) ∧
  (∀ (c : Ctx) (s : State), Ready s c → ∀ xd imm, Clear s c [.x xd] →
    Does (.li c xd imm) c s (fun t => (t.setX xd (imm.signExtend 64)).step) id ∧
    Does (.lih c xd imm) c s (fun t => (t.setX xd (imm ++ (t.xr xd).extractLsb' 0 32)).step) id) ∧
  (∀ w : Word, w.field 63 58 = 0x04 → w.field 57 52 ≤ 1 → w.field 46 42 ≠ 0 → legalWord w = false)

/-- The branches and jumps (R123): a taken branch makes the target the next instruction, an untaken one the following instruction; `jal`
keeps the index of the next instruction, modulo 8,192, and `jr` takes xs[12:0]. No register, flag or memory changes besides, and the
target issues in the next core cycle. Their words carry MAJOR 0x05 or 0x06 and their FUNC. -/
def Obligations.Branches : Prop :=
  (∀ (c : Ctx) (xa xb : XReg) (q : PReg) (target : BitVec 13),
    (∀ p ∈ branchForms.zipIdx, encodeWord (p.1.1 c xa xb target) = some (instrWord 0x05 p.2 0 xa.val xb.val 0 target.toNat)) ∧
    (∀ p ∈ predBranchForms.zipIdx, encodeWord (p.1.1 c q target) = some (instrWord 0x05 (8 + p.2) 0 0 q.val 0 target.toNat)) ∧
    encodeWord (.jal c xa target) = some (instrWord 0x06 0x00 xa.val 0 0 0 target.toNat) ∧
    encodeWord (.jr c xa) = some (instrWord 0x06 0x01 0 xa.val 0 0 0)) ∧
  ∀ (c : Ctx) (s : State), Ready s c →
    (∀ p ∈ branchForms, ∀ xs1 xs2 target, Clear s c [.x xs1, .x xs2] →
      Does (p.1 c xs1 xs2 target) c s (fun t => { t with pc := if p.2 (t.xr xs1) (t.xr xs2) then target else t.pc + 1 }) id) ∧
    (∀ p ∈ predBranchForms, ∀ q target, Clear s c [.p q] →
      Does (p.1 c q target) c s (fun t => { t with pc := if p.2 (t.pr q) then target else t.pc + 1 }) id) ∧
    (∀ xd target, Clear s c [.x xd] →
      Does (.jal c xd target) c s (fun t => { t.setX xd ((t.pc + 1).zeroExtend 64) with pc := target }) id) ∧
    (∀ xs, Clear s c [.x xs] → Does (.jr c xs) c s (fun t => { t with pc := (t.xr xs).extractLsb' 0 13 }) id)

/-- Local scalar loads and stores whose offset is aligned and inside the scratchpad (R124): a load makes its register pending until its
read, a store leaves its bytes waiting for their turn. Neither changes memory at issue. -/
def Obligations.LocalScalarAccess : Prop :=
  ∀ (c : Ctx) (s : State), Ready s c → ∀ xd xs imm off, Clear s c [.x xd, .x xs] →
    (∀ p ∈ loadForms, LocalOk ((s.th c).xr xs) imm p.2.1 p.2.1 off →
      Loads (p.1 c xd xs imm) c s (.scalar p.2.1 p.2.2) xd.val off p.2.1 1 0) ∧
    (∀ p ∈ storeForms, LocalOk ((s.th c).xr xs) imm p.2 p.2 off →
      Stores (p.1 c xd xs imm) c s ((List.range p.2).map fun i => (off + i, BitVec.ofNat 8 (((s.th c).xr xd).toNat / 256 ^ i))))

/-- Nothing of the core waits for a cycle to come but its local loads and stores, no lane of its scratchpad is in error, and its clock
runs. -/
def LocalOnly (k : CoreId) (s : State) : Prop :=
  s.absent k = false ∧ s.coreAsleep k = false ∧ (s.core k).spadErr = [] ∧ (s.core k).writebacks = [] ∧ (s.core k).tensor = [] ∧
  (s.core k).inbound = [] ∧ (s.core k).outbound = [] ∧ (s.core k).bond = []

/-- A waiting local store is written in its turn (R124): the core comes to the earliest turn of its waiting parts, and each part that has
it writes the bytes it holds, all of one lane; no other byte of any scratchpad changes. -/
def Obligations.LocalStoreWritten : Prop :=
  ∀ (k : CoreId) (s : State) (n : Nat), LocalOnly k s → (s.core k).longOps = [] → (s.core k).nextStore = some n →
    (s.core k).cycle ≤ n → (s.core k).served ≤ n →
    (∀ p ∈ (s.core k).stores, p.bad = none ∧ p.bytes ≠ [] ∧ ∃ lane, ∀ b ∈ p.bytes, b.1 / 32 = lane) →
    ((s.core k).stores.flatMap fun p => p.bytes.map Prod.fst).Nodup →
    ∃ t, exec (.localStorePerformed k) s = .next t ∧ (t.core k).cycle = n ∧
      (t.core k).stores = (s.core k).stores.filter (fun p => decide (p.turn ≠ n)) ∧
      (∀ p ∈ (s.core k).stores, p.turn = n → ∀ b ∈ p.bytes, (t.core k).spad.byte b.1 = b.2) ∧
      (∀ a, (∀ p ∈ (s.core k).stores, p.turn = n → ∀ b ∈ p.bytes, b.1 ≠ a) → (t.core k).spad.byte a = (s.core k).spad.byte a) ∧
      (∀ j, j ≠ k → t.core j = s.core j) ∧ t.lpddr = s.lpddr ∧ t.csram = s.csram ∧
      ∀ u, ((t.core k).th u).x = ((s.core k).th u).x ∧ ((t.core k).th u).v = ((s.core k).th u).v ∧ ((t.core k).th u).p = ((s.core k).th u).p

/-- The earliest long operation of a core writes its result in the cycle it is due (R43): the value it holds to its register, or for a
load the bytes it read in its turns, zero- or sign-extended (R124), or widened lane by lane under its predicate (R125). The operation then
leaves the scoreboard; memory is as before. The model's own choices: assumption 31. -/
def Obligations.LongOperationCompletes : Prop :=
  ∀ (k : CoreId) (u : Fin 8) (s : State) (o : LongOp), LocalOnly k s → (s.core k).stores = [] → earliest (s.core k).longOps = some o →
    o.thread = u.val → ((s.core k).longOps.map LongOp.order).Nodup → o.got = [] → o.bad = none →
    (o.reads.map Prod.fst = match o.dest.extent with
      | some e => lanesOf e.1 e.2
      | none => []) → (∀ p ∈ (s.core k).longOps, p.bad = none) → (s.core k).cycle ≤ o.due →
    ∃ t, exec (.localLongOpComplete k) s = .next t ∧ (t.core k).cycle = o.due ∧
      (t.core k).longOps.map LongOp.order = ((s.core k).longOps.map LongOp.order).erase o.order ∧
      (t.core k).spad = (s.core k).spad ∧ t.lpddr = s.lpddr ∧ t.csram = s.csram ∧
      (∀ (r : XReg) w, o.dest = .x r.val w → ((t.core k).th u).xr r = if r = 0 then 0 else w) ∧
      (∀ (r : PReg) w, o.dest = .p r.val w → ((t.core k).th u).pr r = if r = 0 then BitVec.allOnes 64 else w) ∧
      (∀ (r : XReg) n sg off m, o.dest = .load (.scalar n sg) r.val off m → n = 1 ∨ n = 2 ∨ n = 4 ∨ n = 8 → off % n = 0 → r ≠ 0 →
        ((t.core k).th u).xr r = extend n sg (ofBytes ((s.core k).spad.read off n))) ∧
      (∀ (r : VReg) kind off (m : Word), o.dest = .load kind r.val off m → off % 32 = 0 → ∀ i, i < 64 →
        let el := fun (w : Nat) => ofBytes ((s.core k).spad.read (off + w * i) w)
        (m.getLsbD i = false → (∀ n sg, kind ≠ .scalar n sg) → ((t.core k).th u).lane r i = ((s.core k).th u).lane r i) ∧
        (m.getLsbD i = true → (kind = .vec32 → ((t.core k).th u).lane r i = BitVec.ofNat 32 (el 4)) ∧
          (kind = .vecBf → ((t.core k).th u).lane r i = widenBf (el 2)) ∧
          (kind = .vecHalf → ((t.core k).th u).lane r i = widenF16 (el 2)))) ∧
      (∀ (r : VReg) ls, o.dest = .v r.val ls → (ls.map Prod.fst).Nodup → (∀ q ∈ ls, q.1 < 64) →
        (∀ q ∈ ls, ((t.core k).th u).lane r q.1 = q.2) ∧
        ∀ i, i < 64 → (∀ q ∈ ls, q.1 ≠ i) → ((t.core k).th u).lane r i = ((s.core k).th u).lane r i) ∧
      ∀ v, v ≠ u → ((t.core k).th v).x = ((s.core k).th v).x ∧ ((t.core k).th v).v = ((s.core k).th v).v ∧
        ((t.core k).th v).p = ((s.core k).th v).p

/-- Vector loads and stores (R125): the offset is 32-byte aligned and the whole extent lies in the scratchpad; a store writes the governed
elements only. `vstp` writes the bytes OFF to OFF + LEN - 1 of the image at xs, at any alignment. -/
def Obligations.LocalVectorAccess : Prop :=
  ∀ (c : Ctx) (s : State), Ready s c → ∀ (pg : PReg) (v : VReg) (xs : XReg) imm off, Clear s c [.p pg, .v v, .x xs] →
    (∀ p ∈ vloadForms, LocalOk ((s.th c).xr xs) imm 32 p.2.2 off → Loads (p.1 c pg v xs imm) c s p.2.1 v.val off p.2.2 2 ((s.th c).pr pg)) ∧
    (∀ p ∈ vstoreForms, LocalOk ((s.th c).xr xs) imm 32 (64 * p.2.1) off →
      Stores (p.1 c pg v xs imm) c s (((List.range 64).filter fun i => ((s.th c).pr pg).getLsbD i).flatMap fun i =>
        (List.range p.2.1).map fun j => (off + p.2.1 * i + j, BitVec.ofNat 8 (p.2.2 (s.th c) ((s.th c).lane v i) / 256 ^ j)))) ∧
    (∀ (o l : BitVec 8), o.toNat + (l.toNat + 1) ≤ 256 → LocalOk ((s.th c).xr xs) 0 1 (l.toNat + 1) off →
      Stores (.vstp c v xs o l) c s ((List.range (l.toNat + 1)).map fun j =>
        (off + j, BitVec.ofNat 8 (((s.th c).lane v ((o.toNat + j) / 4)).toNat / 256 ^ ((o.toNat + j) % 4)))))

/-- Vector arithmetic (R61, R126, R129): each governed lane of vd will receive its result 4 cycles after issue (2 for a move), and every
other lane keeps its value; the thread goes on at once. -/
def Obligations.VectorArithmetic : Prop :=
  ∀ (c : Ctx) (s : State), Ready s c → ∀ (pg : PReg) (vd va vb vc : VReg) (xs : XReg), Clear s c [.p pg, .v vd, .v va, .v vb, .v vc, .x xs] →
    let t := s.th c
    (∀ p ∈ vec2Forms, Does (p.1 c pg vd va vb) c s Thread.step
      (longOf c s 4 (.v vd.val (lanesBy (t.pr pg) fun i => p.2 t.rounding (t.lane va i) (t.lane vb i))))) ∧
    (∀ p ∈ vintForms, Does (p.1 c pg vd va vb) c s Thread.step
      (longOf c s 4 (.v vd.val (lanesBy (t.pr pg) fun i => p.2 (t.lane va i) (t.lane vb i))))) ∧
    (∀ p ∈ vec1Forms, Does (p.1 c pg vd va) c s Thread.step
      (longOf c s p.2.1 (.v vd.val (lanesBy (t.pr pg) fun i => p.2.2 (t.lane va i))))) ∧
    Does (.vfma c pg vd va vb vc) c s Thread.step
      (longOf c s 4 (.v vd.val (lanesBy (t.pr pg) fun i => fFma t.rounding (t.lane va i) (t.lane vb i) (t.lane vc i)))) ∧
    Does (.vbcast c pg vd xs) c s Thread.step (longOf c s 2 (.v vd.val (lanesBy (t.pr pg) fun _ => (t.xr xs).extractLsb' 0 32))) ∧
    Does (.vidx c pg vd) c s Thread.step (longOf c s 2 (.v vd.val (lanesBy (t.pr pg) fun i => BitVec.ofNat 32 i)))

/-- Compare, select and reduce (R126 to R128): bit i of pd is the comparison of lane i under PG and 0 elsewhere; `vsel` writes every lane;
a reduction combines the 64 lanes in the six stages of R128, an ungoverned lane entering as its idle value, and writes lane 0, the other
lanes +0. -/
def Obligations.VectorCompareReduce : Prop :=
  ∀ (c : Ctx) (s : State), Ready s c → ∀ (pg pd : PReg) (vd va vb : VReg), Clear s c [.p pg, .p pd, .v vd, .v va, .v vb] →
    let t := s.th c
    (∀ cc : Cond, ∃ w : Word, (∀ i, i < 64 → w.getLsbD i = ((t.pr pg).getLsbD i && cc.holds (t.lane va i) (t.lane vb i))) ∧
      Does (.vcmp c pg cc pd va vb) c s Thread.step (longOf c s 4 (.p pd.val w))) ∧
    Does (.vsel c pg vd va vb) c s Thread.step
      (longOf c s 4 (.v vd.val ((List.range 64).map fun i => (i, if (t.pr pg).getLsbD i then t.lane va i else t.lane vb i)))) ∧
    (∀ p ∈ reduceForms, Does (p.1 c pg vd va) c s Thread.step
      (longOf c s 8 (.v vd.val ((List.range 64).map fun i =>
        (i, if i = 0 then tree (p.2.1 t.rounding) (fun j => if (t.pr pg).getLsbD j then t.lane va j else p.2.2) 6 0 else 0)))))

/-- Moves between register files and predicate logic (R129, R130): `vext` zero-extends a lane into xd and `vins` writes one lane, each due
2 cycles after issue; the predicate forms write at once, and a write to p0 has no effect (R33). -/
def Obligations.PredicatesAndLanes : Prop :=
  ∀ (c : Ctx) (s : State), Ready s c → ∀ (pd pa pb : PReg) (xd xs : XReg) (v : VReg),
    Clear s c [.p pd, .p pa, .p pb, .x xd, .x xs, .v v] →
    (∀ p ∈ predForms, Does (p.1 c pd pa pb) c s (fun t => (t.setP pd (p.2 (t.pr pa) (t.pr pb))).step) id) ∧
    Does (.pnot c pd pa) c s (fun t => (t.setP pd (~~~ (t.pr pa))).step) id ∧
    Does (.pmovx c pd xs) c s (fun t => (t.setP pd (t.xr xs)).step) id ∧
    Does (.pmovp c xd pa) c s (fun t => (t.setX xd (t.pr pa)).step) id ∧
    (∀ l : Fin 64, Does (.vext c xd v l) c s Thread.step (longOf c s 2 (.x xd.val (((s.th c).lane v l.val).zeroExtend 64))) ∧
      Does (.vins c v xs l) c s Thread.step (longOf c s 2 (.v v.val [(l.val, ((s.th c).xr xs).extractLsb' 0 32)])))

/-- The special-function unit and top-k (R45, R131): a free unit takes the operation, its result due 16 or 40 cycles later, and is held
for 4 or 40. The special functions' results are the model's function `sfu`, which leaves the value free inside the error bound of R62
(assumption 20). -/
def Obligations.SpecialFunctionsTopk : Prop :=
  ∀ (c : Ctx) (s : State), Ready s c →
    (∀ p ∈ sfuForms, ∀ (pg : PReg) (vd va : VReg), Clear s c [.p pg, .v vd, .v va] → (s.core c.coreId).sfuFree ≤ (s.core c.coreId).issueCycle →
      Does (p.1 c pg vd va) c s Thread.step fun k =>
        { longOf c s 16 (.v vd.val (lanesBy ((s.th c).pr pg) fun i => sfu p.2 ((s.th c).lane va i))) k with sfuFree := k.cycle + 4 }) ∧
    (∀ (vd : VReg) (xa xn : XReg) (n off : Nat), Clear s c [.v vd, .x xa, .x xn] → ((s.th c).xr xn).toNat = n → 1 ≤ n → n ≤ 1024 →
      off = ((s.th c).xr xa).toNat % 2 ^ 20 → off % 32 = 0 → off + 4 * n ≤ 2 ^ 20 →
      (s.core c.coreId).topkFree ≤ (s.core c.coreId).issueCycle →
      ∃ reads free, reads.map Prod.fst = lanesOf off (4 * n) ∧ (∀ p ∈ reads, LocalTurn c s p.1 p.2) ∧
        Does (.topk c vd xa xn) c s Thread.step fun k => { k with
          longOps := k.longOps ++ [inFlight c s (k.cycle + 39) (.topk vd.val off n) reads k]
          accessNo := k.accessNo + 1, bankFree := free, topkFree := k.cycle + 40 })

/-- How value `j` of a pack of thread `t` is rounded (R97, R99 to R101): in the stochastic mode by field j mod 4 of the operation's draw
floor(j / 4), else in the thread's mode. -/
def roundOf (t : Thread) (key : Word) (thread j : Nat) : ElemRound :=
  if t.numctl.field 62 61 = 2 then .stochastic (drawField (drawOf key thread (t.numctl.field 60 0 + j / 4)) (j % 4)) else .det t.rounding

/-- DRAWS after a pack of `n` draws (R98, R100): they are taken in the stochastic mode alone. -/
def drawn (n : Nat) (t : Thread) : Thread :=
  if t.numctl.field 62 61 = 2 then { t with numctl := putField t.numctl 60 0 (t.numctl.field 60 0 + n) } else t

/-- Scale and elements of packed values (R100): 0xFF and zeros where an input is NaN or infinite. `r i` rounds value `i`. -/
def scaleOf (e : Elem) (xs : List Machine.Num) : Nat := if xs.any (fun x => x = .nan ∨ x = .inf true ∨ x = .inf false) then 255 else packScale e xs
def elemOf (e : Elem) (r : Nat → ElemRound) (xs all : List Machine.Num) (i : Nat) : Nat :=
  if scaleOf e all = 255 then 0 else packElem e (scaleOf e all) (r i) (xs.getD i .nan)

/-- The 32 values of block `b` of a register. -/
def valuesOf (t : Thread) (v : VReg) (b : Nat) : List Machine.Num := (List.range 32).map fun i => f32 (t.lane v (32 * b + i))

/-- The bits `start` to `start + n - 1` of an image, from its byte `at'` on. -/
def bitsAt (img : List Byte) (at' start n : Nat) : Nat := ofBytes (img.drop at') / 2 ^ start % 2 ^ n

/-- The MX image of R132: each block's elements as a line of `w` bits each, the scales in bytes 64 and 65, and zeros. -/
def IsMxImage (w : Nat) (img : List Byte) (scale : Nat → Nat) (elem : Nat → Nat → Nat) : Prop :=
  img.length = 256 ∧
  (∀ b, b < 2 → bitsAt img (64 + b) 0 8 = scale b ∧ ∀ i, i < 32 → bitsAt img (4 * w * b) (w * i) w = elem b i) ∧
  ∀ a, a < 256 → 8 * w ≤ a → a ≠ 64 → a ≠ 65 → img.getD a 0 = 0

/-- The S24 image of R132 and R89: per block a scale, eight pattern codes and sixteen values, and zeros after the two blocks. -/
def IsS24Image (w size : Nat) (img : List Byte) (scale : Nat → Nat) (code elem : Nat → Nat → Nat) : Prop :=
  img.length = 256 ∧
  (∀ b, b < 2 → bitsAt img (size * b) 0 8 = scale b ∧ (∀ g, g < 8 → bitsAt img (size * b) (8 + 3 * g) 3 = code b g) ∧
    ∀ j, j < 16 → bitsAt img (size * b) (32 + w * j) w = elem b j) ∧
  ∀ a, a < 256 → 2 * size ≤ a → img.getD a 0 = 0

/-- The zero report of R133: bit b where every element of block b is zero, of either sign, and its scale is not 0xFF. -/
def IsReport (e : Elem) (rep : Word) (scale : Nat → Nat) (elem : Nat → Nat → Nat) (n : Nat) : Prop :=
  rep.toNat < 4 ∧ ∀ b, b < 2 → (rep.getLsbD b = true ↔ scale b ≠ 255 ∧ ∀ i, i < n → e.isZero (elem b i) = true)

/-- The positions a pattern code keeps (R88). -/
def keptPairs : List (Nat × Nat) := [(0, 1), (0, 2), (0, 3), (1, 2), (1, 3), (2, 3)]

/-- The two positions of a group of four that R101 keeps: every other magnitude is below each of theirs, or equal and at a higher place. -/
def Keeps (x : Nat → Machine.Num) (i j : Nat) : Prop :=
  i < j ∧ j < 4 ∧ ∀ q, q < 4 → q ≠ i → q ≠ j → ∀ p, p = i ∨ p = j → magLt (x p) (x q) = false ∧ (magLt (x q) (x p) = false → p < q)

/-- The values kept of a block, group by group. -/
def keptOf (xs : List Machine.Num) (kept : Nat → Nat × Nat) : List Machine.Num :=
  (List.range 16).map fun j => xs.getD (4 * (j / 2) + if j % 2 = 0 then (kept (j / 2)).1 else (kept (j / 2)).2) .nan

/-- Pack and unpack with an accepted element code (R88, R89, R97 to R102, R132, R133): the image of va's two blocks goes to vd and the
zero report to xd, or the 64 values of the image in va to vd, each due 4 cycles after issue; the thread goes on at once. In the stochastic
mode `vpk` takes 16 draws and `vpk24` 8, and in the others none are taken. Element codes are 0x0 to 0x5 and 0x8 to 0xA. -/
def Obligations.PackUnpack : Prop :=
  ∀ (c : Ctx) (s : State), Ready s c → ∀ (vd va : VReg) (xd : XReg), Clear s c [.v vd, .v va, .x xd] →
    let t := s.th c
    let key := (s.core c.coreId).key
    (∀ q ∈ ([(0x0, .e4m3), (0x1, .e5m2), (0x2, .e2m3), (0x3, .e3m2), (0x4, .e2m1), (0x5, .int8)] : List (BitVec 4 × Elem)),
      let e := q.2
      (∃ img rep,
        let scale := fun b => scaleOf e (valuesOf t va b)
        let elem := fun b i => elemOf e (fun i => roundOf t key c.thread.val (32 * b + i)) (valuesOf t va b) (valuesOf t va b) i
        IsMxImage e.width img scale elem ∧ IsReport e rep scale elem 32 ∧
        Does (.vpk c vd va xd q.1) c s (fun t => (drawn 16 t).step)
          (longOf c s 4 (.vx vd.val ((List.range 64).map fun l => (l, BitVec.ofNat 32 (bitsAt img (4 * l) 0 32))) xd.val rep))) ∧
      ∃ lanes : Nat → Lane,
        (∀ b i, b < 2 → i < 32 → lanes (32 * b + i) =
          if bitsAt (t.image va) (64 + b) 0 8 = 255 then nan32
          else toF32 t.rounding ((e.value (bitsAt (t.image va) (4 * e.width * b) (e.width * i) e.width)).shift
            ((bitsAt (t.image va) (64 + b) 0 8 : Int) - 127))) ∧
        Does (.vupk c vd va q.1) c s Thread.step (longOf c s 4 (.v vd.val ((List.range 64).map fun l => (l, lanes l))))) ∧
    (∀ q ∈ ([(0x8, .e4m3), (0x9, .e5m2), (0xA, .e2m1)] : List (BitVec 4 × Elem)),
      let e := q.2
      let size := if e.width = 4 then 12 else 20
      (∃ (img : List Byte) (rep : Word) (kept : Nat → Nat → Nat × Nat),
        let special := fun b => decide (scaleOf e (valuesOf t va b) = 255)
        let scale := fun b => if special b then 255 else scaleOf e (keptOf (valuesOf t va b) (kept b))
        let elem := fun b j => if special b then 0 else
          elemOf e (fun j => roundOf t key c.thread.val (16 * b + j)) (keptOf (valuesOf t va b) (kept b)) (keptOf (valuesOf t va b) (kept b)) j
        (∀ b g, b < 2 → g < 8 → special b = false →
          Keeps (fun i => (valuesOf t va b).getD (4 * g + i) .nan) (kept b g).1 (kept b g).2) ∧
        IsS24Image e.width size img scale (fun b g => if special b then 0 else keptPairs.idxOf (kept b g)) elem ∧ IsReport e rep scale elem 16 ∧
        Does (.vpk24 c vd va xd q.1) c s (fun t => (drawn 8 t).step)
          (longOf c s 4 (.vx vd.val ((List.range 64).map fun l => (l, BitVec.ofNat 32 (bitsAt img (4 * l) 0 32))) xd.val rep))) ∧
      ∃ lanes : Nat → Lane,
        (∀ b g i, b < 2 → g < 8 → i < 4 →
          let at' := size * b
          let scale := bitsAt (t.image va) at' 0 8
          let value := fun j => toF32 t.rounding ((e.value (bitsAt (t.image va) at' (32 + e.width * j) e.width)).shift ((scale : Int) - 127))
          lanes (32 * b + 4 * g + i) =
            if scale = 255 then nan32
            else match keptPairs[bitsAt (t.image va) at' (8 + 3 * g) 3]? with
              | none => 0
              | some p => if i = p.1 then value (2 * g) else if i = p.2 then value (2 * g + 1) else 0) ∧
        Does (.vupk24 c vd va q.1) c s Thread.step (longOf c s 4 (.v vd.val ((List.range 64).map fun l => (l, lanes l)))))

/-- A tensor operation whose checks hold enters the queue (R60, R134, R136, R137): `tmma`, with or without mask, skip bitmap and block
map, into a tile that only its own thread's `tmma`s accumulate into, and a transfer into a tile that is not busy. `tmov` needs the tile
alone, and its row is due 6 cycles after issue. -/
def Obligations.TensorIssue : Prop :=
  ∀ (c : Ctx) (s : State), Ready s c → ∀ (t : TReg) (xa xb xm xs : XReg), Clear s c [.x xa, .x xb, .x xm, .x xs] →
    s.owns c.coreId c.thread (4 + 4 * t.val) = true →
    let low := fun (r : XReg) => ((s.th c).xr r).toNat % 2 ^ 20
    let enters := fun (i : Instr) (act : TensorAct) => Does i c s Thread.step fun k => { k with
      tensor := k.tensor ++ [{ thread := c.thread.val, pc := (s.th c).pc, tile := t.val, act := act, times := none, kb := 0, next := 0
                               blocks := [], writes := [], captured := false }] }
    (s.owns c.coreId c.thread 0 = true → (s.core c.coreId).tensorRoom = true →
      (∀ (fa fb : Fmt) (afmt bfmt : BitVec 4) (kb : BitVec 8) (cost : Nat) (me se we : Bool), Fmt.ofCode afmt = some fa →
        Fmt.ofCode bfmt = some fb → blockCycles fa fb = some cost → 1 ≤ kb.toNat → kb.toNat ≤ 128 →
        (s.core c.coreId).tileHeldFor t.val c.thread.val = false → (me = true ∨ xm = 0) → (se = true ∨ we = true ∨ xs = 0) →
        low xa % 32 = 0 → low xb % 32 = 0 → low xa + kb.toNat * stride fa ≤ 2 ^ 20 → low xb + kb.toNat * stride fb ≤ 2 ^ 20 →
        (se = true → low xs % 32 = 0 ∧ low xs + 8 * kb.toNat ≤ 2 ^ 20) →
        (we = true → ((s.th c).xr xs).field 51 32 % 32 = 0 ∧ ((s.th c).xr xs).field 51 32 + kb.toNat ≤ 2 ^ 20) →
        s.mod.witness.sample = none →
        enters (.tmma c t xa xb xm xs afmt bfmt kb me se we) (.mma
          { xa := low xa, xb := low xb, mask := if me then (s.th c).xr xm else BitVec.allOnes 64, skip := if se then some (low xs) else none
            map := if we then some (((s.th c).xr xs).field 51 32) else none, afmt := fa, bfmt := fb, kb := kb.toNat
            mode := if (s.th c).numctl.field 62 61 = 1 then .towardZero else .nearestEven })) ∧
      ((s.core c.coreId).tileBusy t.val = false →
        enters (.tclr c t) .clear ∧
        (low xa % 32 = 0 → low xa + 16384 ≤ 2 ^ 20 → enters (.tld c t xa) (.load (low xa)) ∧ enters (.tst c t xa) (.store (low xa))) ∧
        (low xa % 32 = 0 → low xa + 8192 ≤ 2 ^ 20 → enters (.tstbf c t xa) (.storeBf (low xa))))) ∧
    (∀ vd, Clear s c [.v vd] → (s.core c.coreId).tileBusy t.val = false →
      ∃ lanes, lanes = (List.range 64).map (fun col => (col, (s.core c.coreId).tileAt t.val (((s.th c).xr xs).toNat % 64) col)) ∧
        Does (.tmov c vd t xs) c s Thread.step (longOf c s 6 (.v vd.val lanes)))

/-- The tensor unit has nothing but the operation `o`, and nothing else of the core waits for a cycle to come; no lane of its scratchpad is
in error, and its clock runs. -/
def TensorOnly (k : CoreId) (s : State) (o : TensorOp) : Prop :=
  s.absent k = false ∧ s.coreAsleep k = false ∧ (s.core k).spadErr = [] ∧ (s.core k).writebacks = [] ∧ (s.core k).longOps = [] ∧
  (s.core k).stores = [] ∧ (s.core k).inbound = [] ∧ (s.core k).outbound = [] ∧ (s.core k).bond = [] ∧ (s.core k).tensor = [o] ∧
  o.captured = false

/-- The tensor unit at work (R43, R59, R60, R94, R95, R109, R137): a queued operation starts in the first cycle the unit is free; `tclr`
holds the unit for 16 cycles and ends with the last of them, a transfer for 64 with its tile written in the 76th cycle, a `tmma` for its K
blocks' cycles with its tile written 20 cycles on. A cleared tile reads +0, a loaded one what the scratchpad holds, a stored one is what
the scratchpad then holds, and the other tiles are unchanged. The model's own choices: assumption 117. -/
def Obligations.TensorUnit : Prop :=
  ∀ (k : CoreId) (s : State) (o : TensorOp), TensorOnly k s o →
    (o.times = none → o.kb = 0 → o.blocks = [] → o.writes = [] →
      let start := max (s.core k).cycle (s.core k).tensorFree
      let starts := fun (free done : Nat) => ∃ t, exec (.tensorOpStart k) s = .next t ∧ (t.core k).cycle = start ∧
        (t.core k).tensorFree = start + free ∧ ((t.core k).tensor.head?.bind TensorOp.times) = some (start + free, start + done)
      (o.act = .clear → starts 16 15) ∧
      (∀ off, o.act = .load off ∨ o.act = .store off ∨ o.act = .storeBf off → starts 64 75) ∧
      (∀ a n, o.act = .mma a → a.skip = none → a.map = none → blockCycles a.afmt a.bfmt = some n → 1 ≤ a.kb →
        starts (a.kb * n) (a.kb * n + 19))) ∧
    (∀ free done, o.times = some (free, done) → (s.core k).cycle ≤ done → o.tile < 4 → ∃ t, exec (.tensorOpComplete k) s = .next t ∧
      ((∀ a, o.act ≠ .mma a) →
        (t.core k).tensor = [] ∧ (t.core k).cycle = done ∧ t.lpddr = s.lpddr ∧ t.csram = s.csram ∧
        (∀ q r col, q ≠ o.tile → r < 64 → col < 64 → (t.core k).tileAt q r col = (s.core k).tileAt q r col) ∧
        (o.act = .clear → o.blocks = [] → o.writes = [] → (t.core k).spad = (s.core k).spad ∧
          ∀ r col, r < 64 → col < 64 → (t.core k).tileAt o.tile r col = 0) ∧
        (∀ off b, o.act = .load off → o.writes = [] → o.blocks = [b] → b.got = [] → b.bad = none → b.reads.map Prod.fst = lanesOf off 16384 →
          off % 32 = 0 → (t.core k).spad = (s.core k).spad ∧ ∀ r col, r < 64 → col < 64 →
            (t.core k).tileAt o.tile r col = tileLoad (BitVec.ofNat 32 ((s.core k).spad.readNat (off + 4 * (64 * r + col)) 4))) ∧
        (∀ off, o.act = .store off → o.blocks = [] → o.writes.map Prod.fst = lanesOf off 16384 → off % 32 = 0 →
          (∀ r col, r < 64 → col < 64 → (t.core k).tileAt o.tile r col = (s.core k).tileAt o.tile r col ∧
            (t.core k).spad.readNat (off + 4 * (64 * r + col)) 4 = ((s.core k).tileAt o.tile r col).toNat) ∧
          ∀ a, a < off ∨ off + 16384 ≤ a → (t.core k).spad.byte a = (s.core k).spad.byte a) ∧
        (∀ off, o.act = .storeBf off → o.blocks = [] → o.writes.map Prod.fst = lanesOf off 8192 → off % 32 = 0 →
          (∀ r col, r < 64 → col < 64 → (t.core k).tileAt o.tile r col = (s.core k).tileAt o.tile r col ∧
            (t.core k).spad.readNat (off + 2 * (64 * r + col)) 2 = toBf16 (f32 ((s.core k).tileAt o.tile r col))) ∧
          ∀ a, a < off ∨ off + 8192 ≤ a → (t.core k).spad.byte a = (s.core k).spad.byte a)))

/-- Remote loads and stores to an address that passes R138, with a tracking and a queue entry free (R37, R139): one packet is queued with
the low bytes of xv; a load leaves its thread WAIT_REMOTE and a store READY. Memory is untouched until the packet is performed. -/
def Obligations.RemoteLoadsStores : Prop :=
  ∀ (c : Ctx) (s : State), Ready s c → s.entriesFree c = true → ∀ xd xa, Clear s c [.x xd, .x xa] →
    (∀ p ∈ rloadForms, s.addressOk ((s.th c).xr xa) .load p.2.1 p.2.1 c.tower.val false = true →
      Sends (p.1 c xd xa) c s true
        (onePacket c s (.load xd.val p.2.1 p.2.2) 0x01 (Nat.log2 p.2.1) ((s.th c).xr xa) p.2.1 0 0 false)) ∧
    (∀ p ∈ rstoreForms, s.addressOk ((s.th c).xr xa) .store p.2.1 p.2.1 c.tower.val false = true →
      Sends (p.1 c xd xa) c s false
        (onePacket c s .write 0x02 (Nat.log2 p.2.1) ((s.th c).xr xa) p.2.1 (lowBytes p.2.1 ((s.th c).xr xd)) 0 p.2.2))

/-- Remote atomics (R37, R140, R169): one packet with FUNC in SUB, bit 7 set in the fetch forms, the operand's low bytes, and the
comparand of `rcas8`; a fetch form waits for the old value and a non-fetch form is READY at once. -/
def Obligations.RemoteAtomics : Prop :=
  ∀ (c : Ctx) (s : State), Ready s c → s.entriesFree c = true → ∀ xd xa xs xc, Clear s c [.x xd, .x xa, .x xs, .x xc] →
    let a := (s.th c).xr xa
    (∀ p ∈ atomicForms, s.addressOk a .atomic p.2.2 p.2.2 c.tower.val false = true →
      Sends (p.1 c xa xs) c s false (onePacket c s .write 0x03 p.2.1 a p.2.2 (lowBytes p.2.2 ((s.th c).xr xs)) 0 false)) ∧
    (∀ p ∈ fetchForms, s.addressOk a .atomic p.2.2 p.2.2 c.tower.val false = true →
      Sends (p.1 c xd xa xs) c s true
        (onePacket c s (.fetch xd.val p.2.2) 0x03 (p.2.1 + 128) a p.2.2 (lowBytes p.2.2 ((s.th c).xr xs)) 0 false)) ∧
    (s.addressOk a .atomic 8 8 c.tower.val false = true →
      Sends (.rcas8F c xd xa xs xc) c s true
        (onePacket c s (.fetch xd.val 8) 0x03 (18 + 128) a 8 (lowBytes 8 ((s.th c).xr xs)) ((s.th c).xr xc) false))

/-- The packets of a transfer of `len` bytes between `far` and local offset `loc` (R168 to R170): pieces of 1,024 bytes from the first
byte on, or pieces that end at every 256-byte boundary of the far offset in the hashed region; the last holds the remainder. -/
def piecesOf (put : Bool) (far : Word) (loc len : Nat) (ken : Bool) (knum kctx : Nat) : List Piece :=
  let size := if gaEndpoint far = 31 then 256 else 1024
  let before := if gaEndpoint far = 31 then gaOffset far % 256 else 0
  (List.range ((before + len + size - 1) / size)).map fun i =>
    let from' := size * i - before
    let n := min len (size * (i + 1) - before) - from'
    { op := if put then 0x04 else 0x05, sub := if put then 0 else n / 32 - 1, far := far + BitVec.ofNat 64 from', loc := loc + from', len := n
      operand := if put then 0 else BitVec.ofNat 64 (loc + from'), comparand := 0, ken := ken, knum := if ken then knum else 0
      kctx := if ken then kctx else 0, db := false }

/-- The operation of a bulk transfer or of the rows of an `rscat` or `rgath`. -/
def bulkRemote (c : Ctx) (s : State) (put : Bool) (pieces : List Piece) (spills : Option (Nat × Nat)) : RemoteOp :=
  { id := 0, thread := c.thread.val, pc := (s.th c).pc, kind := if put then .put else .get, unsent := pieces, flights := [], failure := none
    value := none, bytes := [], spills := spills }

/-- Bulk transfers and row operations (R141 to R143, R170, R179): a transfer of UNITS x 32 bytes, with or without a counter, is one
operation of the packets of R170; a length of 0 sends nothing and still gives up the core. `rscat` and `rgath` read their descriptor, move
one row for each governed lane in increasing order, all in one operation, below CAPACITY to or from the landing area and the rest to or
from the spill area, where an `rscat` row carries no counter; xd will receive the count of spilled lanes 10 cycles after issue; with no
governed lane nothing moves and xd receives 0. -/
def Obligations.BulkTransfers : Prop :=
  ∀ (c : Ctx) (s : State), Ready s c →
    (∀ (xa xl xn : XReg) (k : KReg) (ken : Bool), Clear s c [.x xa, .x xl, .x xn] →
      let far := (s.th c).xr xa
      let loc := ((s.th c).xr xl).toNat % 2 ^ 20
      let n := ((s.th c).xr xn).toNat % 2 ^ 16
      let kctx := ((s.th c).xr xn).field 47 32
      loc % 32 = 0 → loc + 32 * n ≤ 2 ^ 20 → s.addressOk far .bulk (32 * n) 32 c.tower.val false = true →
      (n = 0 → ((ken = true → s.counterOk far kctx = true) → Yields (.rput c xa xl xn k ken) c s s (fun th => { th.step with st := .ready }) id) ∧
        Yields (.rget c xa xl xn k ken) c s s (fun th => { th.step with st := .ready }) id) ∧
      (0 < n → s.entriesFree c = true →
        ((ken = true → s.counterOk far kctx = true) →
          Sends (.rput c xa xl xn k ken) c s false (bulkRemote c s true (piecesOf true far loc (32 * n) ken k.val kctx) none)) ∧
        Sends (.rget c xa xl xn k ken) c s false (bulkRemote c s false (piecesOf false far loc (32 * n) ken k.val c.id) none))) ∧
    (∀ (pg : PReg) (xd : XReg) (vi : VReg) (xl xdesc : XReg), Clear s c [.p pg, .x xd, .v vi, .x xl, .x xdesc] →
      let loc := ((s.th c).xr xl).toNat % 2 ^ 20
      let doff := ((s.th c).xr xdesc).toNat % 2 ^ 20
      let desc := overlay (s.core c.coreId).stores (s.core c.coreId).accessNo doff ((s.core c.coreId).spad.read doff 32)
      let part := fun (at' len : Nat) => ofBytes ((desc.drop at').take len)
      let size := 32 * (if part 16 2 % 2 ^ 11 = 0 then 2048 else part 16 2 % 2 ^ 11)
      let lanes := (List.range 64).filter fun i => ((s.th c).pr pg).getLsbD i
      let idx := fun i => ((s.th c).lane vi i).toNat
      let spilled := fun i => decide (part 20 4 ≤ idx i)
      let far := fun i => if spilled i then BitVec.ofNat 64 (part 8 8) + BitVec.ofNat 64 ((idx i - part 20 4) % max 1 (part 24 4) * size)
        else BitVec.ofNat 64 (part 0 8) + BitVec.ofNat 64 (idx i * size)
      let ken := decide (part 30 1 / 64 % 2 = 1)
      let rows := fun (put : Bool) => lanes.flatMap fun i => piecesOf put (far i) (loc + i * size) size (ken && (!put || !spilled i))
        (part 30 1 % 64) (if put then part 28 2 else c.id)
      let count := (lanes.filter spilled).length
      loc % 32 = 0 → doff % 32 = 0 → errorsOf (s.core c.coreId).spadErr (doff / 32) = [] →
      (∀ i ∈ lanes, loc + i * size + size ≤ 2 ^ 20 ∧ s.addressOk (far i) .bulk size 32 c.tower.val false = true) →
      let result := longOf c s 10 (.x xd.val (BitVec.ofNat 64 count))
      (lanes = [] → Yields (.rscat c pg xd vi xl xdesc) c s s (fun th => { th.step with st := .ready }) result ∧
        Yields (.rgath c pg xd vi xl xdesc) c s s (fun th => { th.step with st := .ready }) result) ∧
      (lanes ≠ [] → s.entriesFree c = true →
        let sent := fun (put : Bool) =>
          ((s.modReq c.id (withOp (bulkRemote c s put (rows put) (some (xd.val, count))))).endEvent c.tower.val 9 count)
        let th := fun (th : Thread) => ({ th.step with st := .ready, wait := .none } : Thread)
        ((ken = true → (∃ i ∈ lanes, spilled i = false) → s.counterOk (BitVec.ofNat 64 (part 0 8)) (part 28 2) = true) →
          Yields (.rscat c pg xd vi xl xdesc) c s (sent true) th result) ∧
        Yields (.rgath c pg xd vi xl xdesc) c s (sent false) th result))

/-- `fence`, `yield` and `stop` (R36 to R39, R145, R146): each gives up the core and the first thread of the rotation after it that has
been READY since an earlier cycle issues two cycles later. A `fence` with nothing outstanding leaves its thread READY, and with operations
outstanding WAIT_REMOTE until they are complete. -/
def Obligations.GivingUpTheCore : Prop :=
  ∀ (c : Ctx) (s : State), Ready s c →
    Yields (.yield c) c s s (fun th => { th.step with st := .ready }) id ∧
    (s.mod.replay = none → Yields (.stop c) c s s (fun th => { th.step with st := .stopped }) id) ∧
    ((s.req c.id).ops = [] → Yields (.fence c) c s s (fun th => { th.step with fenceDue := th.deferred.isSome, st := .ready }) id) ∧
    ((s.req c.id).ops ≠ [] → Yields (.fence c) c s s (fun th => { th.step with wait := .fence (s.req c.id).nextOp, st := .waitRemote }) id)

/-- A thread that waits for a `fence` becomes READY once every operation before it is complete, and a resumed thread with a deferred fault
raises it: with a handler it goes on at ENTRY, CORE_EINFO marked DEFERRED with EPC at the `fence` (R66, R145, R158). The model's own
choices: assumption 33. -/
def Obligations.FenceReturns : Prop :=
  ∀ (c : Ctx) (s : State),
    (∀ before, (s.th c).wait = .fence before → (∀ o ∈ (s.req c.id).ops, before ≤ o.id) → (s.th c).st = .waitRemote →
      ∃ t, exec (.fenceReturn c) s = .next t ∧ (t.th c).wait = .none ∧ ((t.th c).st = .ready ∨ (t.th c).st = .running) ∧
        (t.th c).fenceDue = (s.th c).deferred.isSome ∧ (t.th c).pc = (s.th c).pc ∧ t.requesters = s.requesters) ∧
    (∀ cause addr (s0 : State), s0.arrive c = s → (s0.th c).wait = .none → (s0.th c).fenceDue = true → (s0.th c).st = .running →
      (s0.core c.coreId).sleep = .awake → (s.th c).fenceDue = true → (s.th c).st = .running → (s.core c.coreId).sleep = .awake →
      (s.th c).deferred = some (cause, addr) → bitOf (s.th c).hctl 63 = true → cause < 256 →
      ∃ t, exec (.fenceReturn c) s0 = .next t ∧ (t.th c).pc = (s.th c).hctl.extractLsb' 0 13 ∧ (t.th c).deferred = none ∧
        (t.th c).fenceDue = false ∧ (t.th c).eaddr = addr ∧ bitOf (t.th c).hctl 63 = false ∧ bitOf (t.th c).einfo 63 = true ∧
        bitOf (t.th c).einfo 62 = true ∧ (t.th c).einfo.field 23 16 = cause ∧ (t.th c).einfo.field 12 0 = ((s.th c).pc - 1).toNat ∧
        (t.th c).st = .running ∧ (t.th c).x = (s.th c).x)

/-- Waits that end at issue keep the core, and the others give it up (R40, R42, R44, R146 to R148): p7 is all ones where the condition
held and zeros where the deadline had passed; a `dbwait` that ends on its pending bit consumes it; `dbarm` arms a block and clears the
bit. -/
def Obligations.Waits : Prop :=
  ∀ (c : Ctx) (s : State), Ready s c →
    (∀ mask : BitVec 8, mask ≠ 0 →
      (∀ k : Core, k = issuedAt s.now (s.core c.coreId) → k.ywaitHolds c.thread mask = true → Does (.ywait c mask) c s Thread.step id) ∧
      (∀ k : Core, k = issuedAt s.now (s.core c.coreId) → k.ywaitHolds c.thread mask = false →
        Yields (.ywait c mask) c s s (fun th => { th.step with wait := .ylocal mask, st := .waitLocal }) id)) ∧
    (∀ (k : KReg) (xv : XReg), Clear s c [.x xv, .x 0, .p 7] →
      let v : Lane := ((s.th c).xr xv).extractLsb' 0 32
      ((s.counter c.id k.val - v).toNat < 2 ^ 31 → Does (.kwait c k xv 0 0) c s (fun t => t.step.setP 7 (BitVec.allOnes 64)) id) ∧
      (2 ^ 31 ≤ (s.counter c.id k.val - v).toNat →
        Yields (.kwait c k xv 0 0) c s s (fun th => { th.step with wait := .counter k.val v none, st := .waitCounter }) id)) ∧
    (∀ (k : KReg) (xv xt : XReg) (dl : BitVec 2) (d : Nat), Clear s c [.x xv, .x xt, .p 7] →
      let now := s.now % 2 ^ 64
      let v : Lane := ((s.th c).xr xv).extractLsb' 0 32
      (dl = 1 ∧ d = now + ((s.th c).xr xt).toNat ∨ dl = 2 ∧ d = ((s.th c).xr xt).toNat) →
      ((s.counter c.id k.val - v).toNat < 2 ^ 31 → Does (.kwait c k xv xt dl) c s (fun t => t.step.setP 7 (BitVec.allOnes 64)) id) ∧
      (2 ^ 31 ≤ (s.counter c.id k.val - v).toNat → d ≤ now → Does (.kwait c k xv xt dl) c s (fun t => t.step.setP 7 0) id) ∧
      (2 ^ 31 ≤ (s.counter c.id k.val - v).toNat → now < d →
        Yields (.kwait c k xv xt dl) c s s (fun th => { th.step with wait := .counter k.val v (some d), st := .waitCounter }) id) ∧
      ((s.th c).dbPending = false → d ≤ now → Does (.dbwait c xt dl) c s (fun t => t.step.setP 7 0) id) ∧
      ((s.th c).dbPending = false → now < d →
        Yields (.dbwait c xt dl) c s s (fun th => { th.step with wait := .doorbell (some d), st := .waitDoorbell }) id)) ∧
    (Clear s c [.x 0, .p 7] → (s.th c).dbPending = true →
      Does (.dbwait c 0 0) c s (fun t => ({ t.step with dbPending := false } : Thread).setP 7 (BitVec.allOnes 64)) id) ∧
    (∀ xa : XReg, Clear s c [.x xa] → ((s.th c).xr xa).toNat % 64 = 0 →
      Does (.dbarm c xa) c s (fun t => ({ t with armed := some (((s.th c).xr xa).toNat % 2 ^ 20 / 64), dbPending := false } : Thread).step) id)

/-- Counters and system registers (R97, R149 to R157): `krd` zero-extends and `kset` truncates to 32 bits; `csrr` reads each register of
R151, TIME_NOW with latency 3; `csrw` writes RW fields only. -/
def Obligations.CountersAndSystemRegisters : Prop :=
  ∀ (c : Ctx) (s : State), Ready s c → ∀ (xd xs : XReg) (k : KReg), Clear s c [.x xd, .x xs] →
    let writes := fun (sr : BitVec 12) (v : Word) => Does (.csrr c xd sr) c s (fun t => (t.setX xd v).step) id
    Does (.krd c xd k) c s (fun t => (t.setX xd ((s.counter c.id k.val).zeroExtend 64)).step) id ∧
    (∀ s0 : State, s0.arrive c = s → ∃ t, exec (.kset c k xs) s0 = .next t ∧ t.counter c.id k.val = ((s.th c).xr xs).extractLsb' 0 32 ∧
      (∀ x j, j < 64 → (x, j) ≠ (c.id, k.val) → t.counter x j = s.counter x j) ∧
      OnlyCore c.coreId { s with counters := t.counters } t ((issuedAt s.now (s.core c.coreId)).modTh c.thread Thread.step)) ∧
    writes 0x000 (BitVec.ofNat 64 (s.moduleId * 2 ^ 54 + c.id * 2 ^ 38)) ∧
    writes 0x001 (s.th c).numctl ∧ writes 0x003 (BitVec.ofNat 64 (s.core c.coreId).issueCycle) ∧
    writes 0x010 (s.th c).hctl ∧ writes 0x011 (s.th c).einfo ∧ writes 0x012 (s.th c).eaddr ∧
    Does (.csrr c xd 0x002) c s Thread.step (longOf c s 3 (.x xd.val (BitVec.ofNat 64 s.now))) ∧
    (∀ w : Word, w = (s.th c).xr xs →
      Does (.csrw c 0x001 xs) c s (fun t => ({ t with numctl := w &&& 0x7FFFFFFFFFFFFFFF } : Thread).step) id ∧
      Does (.csrw c 0x010 xs) c s (fun t => ({ t with hctl := w &&& 0x8000000000001FFF } : Thread).step) id ∧
      Does (.csrw c 0x011 xs) c s (fun t => ({ t with einfo := (t.einfo &&& ~~~(0x1FFF : Word)) ||| (w &&& 0x1FFF) } : Thread).step) id)

/-- Handlers (R65, R117, R158): an illegal word raises cause 0x01; with CORE_HCTL.EN the thread keeps the core, writes CORE_EINFO and
CORE_EADDR, clears EN and goes on at ENTRY; `hret` sets EN and goes on at EPC. A fault with no handler (R64, R65, R75): the thread is
FAULTED and gives up the core with its program counter at the instruction, and CORE_FAULT records thread, cause 0x30 and the original
cause; where a fault is recorded already, OVERRUN is set. It is raised by an illegal word (0x01), a misaligned local access (0x02), one
outside the scratchpad (0x03) and a refused remote address (0x10). -/
def Obligations.HandlerEntryAndReturn : Prop :=
  (∀ (c : Ctx) (s : State), Ready s c →
     (∀ (w : Word) (s0 : State), s0.arrive c = s → legalWord w = false → bitOf (s.th c).hctl 63 = true →
       ∃ t, exec (.illegalInstruction c w) s0 = .next t ∧ (t.th c).st = .running ∧ (t.th c).pc = (s.th c).hctl.extractLsb' 0 13 ∧
         (t.th c).eaddr = 0 ∧ (t.th c).einfo = BitVec.ofNat 64 (2 ^ 63 + 2 ^ 16 + (s.th c).pc.toNat) ∧
         (t.th c).hctl = (s.th c).hctl &&& 0x7FFFFFFFFFFFFFFF ∧ (t.th c).x = (s.th c).x ∧ (t.th c).v = (s.th c).v ∧
         (t.th c).p = (s.th c).p ∧ (∀ u, u ≠ c.thread → (t.core c.coreId).th u = (s.core c.coreId).th u) ∧
         (t.core c.coreId).spad = (s.core c.coreId).spad) ∧
     Does (.hret c) c s (fun t => { t with hctl := t.hctl ||| 0x8000000000000000, pc := t.einfo.extractLsb' 0 13 }) id) ∧
  (∀ (c : Ctx) (s : State), Ready s c → bitOf (s.th c).hctl 63 = false → s.mod.replay = none →
     let faults := fun (i : Instr) (cause : Nat) (addr : Word) =>
       ∀ s0 : State, s0.arrive c = s → ∃ t, exec i s0 = .next t ∧ (t.th c).st = .faulted ∧ (t.th c).pc = (s.th c).pc ∧ (t.th c).x = (s.th c).x ∧
         (bitOf (s.reg (coreBlock c.coreId + 0x20)) 63 = false →
           bitOf (t.reg (coreBlock c.coreId + 0x20)) 63 = true ∧ (t.reg (coreBlock c.coreId + 0x20)).field 34 32 = c.thread.val ∧
           (t.reg (coreBlock c.coreId + 0x20)).field 31 24 = cause ∧ (t.reg (coreBlock c.coreId + 0x20)).field 23 16 = 0x30 ∧
           (t.reg (coreBlock c.coreId + 0x20)).field 12 0 = (s.th c).pc.toNat ∧ t.reg (coreBlock c.coreId + 0x28) = addr) ∧
         (bitOf (s.reg (coreBlock c.coreId + 0x20)) 63 = true →
           bitOf (t.reg (coreBlock c.coreId + 0x20)) 62 = true ∧ t.reg (coreBlock c.coreId + 0x28) = s.reg (coreBlock c.coreId + 0x28))
     (∀ w : Word, legalWord w = false → faults (.illegalInstruction c w) 0x01 0) ∧
     (∀ (xd xs : XReg) (imm : BitVec 32), Clear s c [.x xs] → (((s.th c).xr xs).toInt + imm.toInt) % 8 ≠ 0 →
       faults (.ld8 c xd xs imm) 0x02 (BitVec.ofInt 64 (((s.th c).xr xs).toInt + imm.toInt)) ∧
       faults (.st8 c xd xs imm) 0x02 (BitVec.ofInt 64 (((s.th c).xr xs).toInt + imm.toInt))) ∧
     (∀ (xd xs : XReg) (imm : BitVec 32), Clear s c [.x xs] → ((s.th c).xr xs).toInt + imm.toInt < 0 ∨ 2 ^ 20 ≤ ((s.th c).xr xs).toInt + imm.toInt →
       faults (.ld1u c xd xs imm) 0x03 (BitVec.ofInt 64 (((s.th c).xr xs).toInt + imm.toInt))) ∧
     (∀ (xd xa : XReg), Clear s c [.x xa] → s.addressOk ((s.th c).xr xa) .load 8 8 c.tower.val false = false →
       faults (.rld8 c xd xa) 0x10 ((s.th c).xr xa)))

/-- A pending register stalls its thread in place (R43): the core issues nothing for a cycle, and the thread, its registers, the memories
and every other thread stay as they were. It holds of every scalar ALU, multiply and divide form. The model's own choices: assumption 7.
-/
def Obligations.StallInPlace : Prop :=
  ∀ (c : Ctx) (s : State), Ready s c → ∀ xd xs1 xs2, (∃ d ∈ [Dep.x xd, .x xs1, .x xs2], (s.core c.coreId).isPending c.thread d = true) →
    ∀ i, (∃ p ∈ aluForms, i = p.1 c xd xs1 xs2) ∨ (∃ p ∈ mulForms, i = p.1 c xd xs1 xs2) ∨ (∃ p ∈ divForms, i = p.1 c xd xs1 xs2) →
      ∀ s0 : State, s0.arrive c = s → ∃ t, exec i s0 = .next t ∧ OnlyCore c.coreId s t { s.core c.coreId with
        cycle := (s.core c.coreId).issueCycle, nextIssue := (s.core c.coreId).issueCycle + 1, stalled := some c.thread.val }

/-- Events of a thread that does not issue (R33, R36, R37, R42, R66, R72): a held remote instruction enters the queue when its entries
free, in the core's issue order; a stop request leaves a waiting or READY thread STOPPED at once, one that waited for an answer keeping
that wait and its tracking entry, and the RUNNING one STOPPED at its next issue boundary; a passed deadline makes the thread READY with p7
all zeros, its registers besides as they were. The model's own choices: assumptions 3, 5, 6, 123, 125. -/
def Obligations.ThreadEvents : Prop :=
  ∀ (c : Ctx) (s : State),
    (∀ op no, (s.th c).wait = .held op no → (s.th c).st = .waitRemote → s.mayEnter c no = true →
      ∃ t, exec (.heldRemoteEntersQueue c) s = .next t ∧ (t.req c.id).ops = (s.req c.id).ops ++ [{ op with id := (s.req c.id).nextOp }] ∧
        (t.th c).pc = (s.th c).pc + 1 ∧ (t.th c).x = (s.th c).x ∧
        (op.kind.waits = true → (t.th c).st = .waitRemote ∧ (t.th c).wait = .answer (s.req c.id).nextOp) ∧
        (op.kind.waits = false → (t.th c).wait = .none ∧ ((t.th c).st = .ready ∨ (t.th c).st = .running))) ∧
    (∀ op no, (s.th c).wait = .held op no → s.mayEnter c no = false → exec (.heldRemoteEntersQueue c) s = .next s) ∧
    (∀ mask : BitVec 8, s.absent c.coreId = false → s.coreAsleep c.coreId = false → mask.getLsbD c.thread.val = true →
      ∃ t, exec (.threadStopRequest c.coreId mask) s = .next t ∧
        ((s.th c).st = .running → t.th c = { s.th c with stopReq := true }) ∧
        ((s.th c).st = .faulted ∨ (s.th c).st = .stopped → t.th c = s.th c) ∧
        ((s.th c).st ≠ .running → (s.th c).st ≠ .faulted → (s.th c).st ≠ .stopped →
          ∃ w, t.th c = { s.th c with st := .stopped, stoppedAt := some (s.core c.coreId).cycle, wait := w } ∧
            (∀ op, (s.th c).wait = .answer op → w = .answer op) ∧ ((∀ op, (s.th c).wait ≠ .answer op) → w = .none)) ∧
        (∀ u : Fin 8, mask.getLsbD u.val = false → (t.core c.coreId).th u = (s.core c.coreId).th u) ∧ t.requesters = s.requesters) ∧
    ((s.th c).stopReq = true → (s.th c).st = .running → (s.th c).fenceDue = false → ∀ s0 : State, s0.arrive c = s →
      ∃ t, exec (.stopAtIssueBoundary c) s0 = .next t ∧ (t.th c).st = .stopped ∧ (t.th c).stopReq = false ∧ (t.th c).pc = (s.th c).pc) ∧
    (∀ d, (s.th c).wait.deadline = some d → d < 2 ^ 64 → s.provisional = false → ∃ t, exec (.waitDeadlinePassed c) s = .next t ∧
      Reaches s t (s.now - s.now % 2 ^ 64 + d) ∧ (t.th c).pr 7 = 0 ∧ (t.th c).wait = .none ∧
      ((t.th c).st = .ready ∨ (t.th c).st = .running) ∧ (t.th c).pc = (s.th c).pc ∧ (t.th c).x = (s.th c).x ∧
      (t.th c).v = (s.th c).v ∧ (t.core c.coreId).spad = (s.core c.coreId).spad) ∧
    (∀ d, (s.th c).wait.deadline = some d → 2 ^ 64 ≤ d → exec (.waitDeadlinePassed c) s = .next s)

/-- Nothing of the core waits for a cycle to come but write-backs, no thread of it waits locally, and its clock runs. -/
def SpadOnly (k : CoreId) (s : State) : Prop :=
  s.absent k = false ∧ s.coreAsleep k = false ∧ (s.core k).longOps = [] ∧ (s.core k).stores = [] ∧ (s.core k).tensor = [] ∧
  (s.core k).inbound = [] ∧ (s.core k).outbound = [] ∧ (s.core k).bond = [] ∧ ∀ u, ((s.core k).th u).st ≠ .waitLocal

/-- A read of the lane finds it clean or corrects it (R51, R52). -/
def LaneReads (k : CoreId) (s : State) (lane : Nat) : Prop :=
  let d := (readWord ((s.core k).spad.read (32 * lane) 32) (errorsOf (s.core k).spadErr lane) (s.spadMarks k (lane % 16))).1
  d = .clean ∨ d = .corrected

/-- The scratchpad's own turns (R48, R49, R52, R54, R525, R527): a lane's pending write-back is performed in the first unused local turn
of its bank, corrects its stored symbols and changes no byte; the patrol scrub, while SPAD_EN is 1, reads the next lane of its pass in an
unused local turn of its bank, moves on, and counts a lane it corrects; in a core cycle a bank whose inbound turn it is takes the oldest
inbound unit of the bank, and one whose outbound turn it is the oldest outbound unit, which then waits for an up turn with its bytes.
Where nothing waits a cycle changes nothing but the counts. The model's own choices: assumptions 36, 119. -/
def Obligations.ScratchpadTurns : Prop :=
  ∀ (k : CoreId) (s : State),
    (∀ (bank : Fin 16) l, SpadOnly k s → (∀ b, b ≠ bank.val → (s.core k).writebacks.get 0 b = 0) →
      (s.core k).writebacks.get 0 bank.val = l + 1 → LaneReads k s l →
      ∃ t n, exec (.correctedLaneWriteback k bank) s = .next t ∧ (t.core k).cycle = n ∧
        max (s.core k).cycle (s.core k).served ≤ n ∧ n ≤ max (max (s.core k).cycle (s.core k).served) ((s.core k).bankFree.get 0 bank.val) + 6 ∧
        ((bank.val + n) % 8 = 4 ∨ (bank.val + n) % 8 = 5) ∧ (∀ b, (t.core k).writebacks.get 0 b = 0) ∧
        errorsOf (t.core k).spadErr l = [] ∧ (∀ j, j ≠ l → errorsOf (t.core k).spadErr j = errorsOf (s.core k).spadErr j) ∧
        (t.core k).spad = (s.core k).spad ∧ ∀ u, ((t.core k).th u).pc = ((s.core k).th u).pc ∧ ((t.core k).th u).x = ((s.core k).th u).x ∧
          ((t.core k).th u).v = ((s.core k).th u).v ∧ ((t.core k).th u).p = ((s.core k).th u).p) ∧
    (0 < (s.core k).scrubLeft → s.scrubRuns k = true → bitOf (s.reg 0x10090) 2 = true → SpadOnly k s →
      (∀ b, (s.core k).writebacks.get 0 b = 0) → LaneReads k s (s.core k).scrubLane →
      ∃ t n, exec (.spadPatrolScrub k) s = .next t ∧ (t.core k).cycle = n ∧ max (s.core k).cycle (s.core k).served ≤ n ∧
        (((s.core k).scrubLane % 16 + n) % 8 = 4 ∨ ((s.core k).scrubLane % 16 + n) % 8 = 5) ∧
        (t.core k).scrubLane = ((s.core k).scrubLane + 1) % 32768 ∧ (t.core k).scrubLeft = (s.core k).scrubLeft - 1 ∧
        (t.core k).spad = (s.core k).spad ∧ (t.core k).spadErr = (s.core k).spadErr ∧ ∀ u, (t.core k).th u = (s.core k).th u) ∧
    (s.absent k = false → s.coreAsleep k = false → (s.core k).quiet = true →
      ∃ t n, n = max (s.core k).cycle (s.core k).served ∧ exec (.scratchpadBankTurn k) s = .next t ∧ (t.core k).cycle = n ∧
        (t.core k).served = n + 1 ∧ (t.core k).spad = (s.core k).spad ∧
        (∀ u, (t.core k).th u = (s.core k).th u) ∧ t.ends = s.ends) ∧
    (∀ (id off n : Nat) (bs : List Byte) (tx : Txn), s.absent k = false → s.coreAsleep k = false → (s.core k).longOps = [] →
      (s.core k).stores = [] → (s.core k).tensor = [] → (s.core k).bond = [] → (s.core k).writebacks = [] → (s.core k).spadErr = [] →
      (s.core k).inbound = [⟨.txn id, .write off bs⟩] → (s.core k).outbound = [] → n = (s.core k).cycle → (s.core k).served = n →
      (off / 32 % 16 + n) % 8 = 6 → bs ≠ [] → off % 32 + bs.length ≤ 32 →
      (s.endp k.tower.val).txns.find? (fun x => decide (x.id = id)) = some tx → 1 < tx.left → tx.pkt.db = false →
      ∃ t, exec (.scratchpadBankTurn k) s = .next t ∧ (t.core k).inbound = [] ∧ (t.core k).served = n + 1 ∧
        (t.core k).spad.read off bs.length = bs ∧ ∀ a, a < off ∨ off + bs.length ≤ a → (t.core k).spad.byte a = (s.core k).spad.byte a) ∧
    (∀ (u : PortUnit) (off count pos n : Nat), s.absent k = false → s.coreAsleep k = false → (s.core k).longOps = [] →
      (s.core k).stores = [] → (s.core k).tensor = [] → (s.core k).bond = [] → (s.core k).writebacks = [] → (s.core k).spadErr = [] →
      (s.core k).inbound = [] → u.act = .read off count pos → (s.core k).outbound = [u] → n = (s.core k).cycle → (s.core k).served = n →
      (off / 32 % 16 + n) % 8 = 7 → 0 < count → off % 32 + count ≤ 32 →
      ∃ t, exec (.scratchpadBankTurn k) s = .next t ∧ (t.core k).outbound = [] ∧ (t.core k).served = n + 1 ∧
        (t.core k).up = (s.core k).up ++ [(u, (s.core k).spad.read off count)] ∧ (t.core k).spad = (s.core k).spad)

/-- Sending (R144, R170, R171, R181, R182, R186, R189): a packet of an operation leaves with the context's next SEQ for its destination
and TRY 0, or is held back at 64 unanswered; a PUT first reads its source through the core's outbound port, now and at each re-send; an
unanswered packet is sent again with its SEQ and TRY one higher; at its bound a write fails with cause 0x14, deferred to the thread's
`fence`, and its tracking entry is free, unless its response has landed. The model's own choices: assumptions 3, 5, 6, 56. -/
def Obligations.PacketsSentAgainAndLost : Prop :=
  ∀ (x : BitVec 16) (c : Ctx) (s : State), towerCtx x.toNat = some c →
    (∀ (o : RemoteOp) (p : Piece) rest, (s.req x.toNat).ops.find? (fun q => decide (q.id = o.id)) = some o → o.unsent = p :: rest → p.op = 2 →
      o.kind = .write →
      let dest := s.pieceDest x.toNat p
      let q := (s.req x.toNat).seqs.get 0 dest
      (64 ≤ s.unanswered x.toNat dest → exec (.remotePacketSend x (some o.id)) s = .next s) ∧
      (s.unanswered x.toNat dest < 64 → ∃ t, exec (.remotePacketSend x (some o.id)) s = .next t ∧
        (t.req x.toNat).seqs.get 0 dest = (q + 1) % 65536 ∧
        (t.req x.toNat).ops = (s.req x.toNat).ops.map (fun y => if y.id = o.id then { y with
          unsent := rest
          flights := y.flights ++ [{ piece := p, seq := q, dest := dest, firstSent := s.now, lastSent := s.now, tries := 0,
                                     bound := s.remoteBound, writing := 0, reading := 0, source := [], answered := false }] } else y) ∧
        (∃ tr ∈ (t.endp c.tower.val).staged ++ (t.endp c.tower.val).landed,
          tr.pkt.op = 2 ∧ tr.pkt.seq = q ∧ tr.pkt.tries = 0 ∧ tr.pkt.addr = p.far ∧ tr.pkt.operand = p.operand) ∧
        (∀ u, t.th u = s.th u) ∧ t.lpddr = s.lpddr ∧ t.csram = s.csram)) ∧
    (∀ (o : RemoteOp) (p : Piece) rest, (s.req x.toNat).ops.find? (fun q => decide (q.id = o.id)) = some o → o.unsent = p :: rest → p.op = 4 →
      o.kind = .put → s.unanswered x.toNat (s.pieceDest x.toNat p) < 64 →
      let dest := s.pieceDest x.toNat p
      let q := (s.req x.toNat).seqs.get 0 dest
      ∃ t, exec (.remotePacketSend x (some o.id)) s = .next t ∧ (t.req x.toNat).seqs.get 0 dest = (q + 1) % 65536 ∧ t.ends = s.ends ∧
        (t.core c.coreId).outbound = (s.core c.coreId).outbound ++ (List.range ((p.len + 31) / 32)).map (fun i =>
          ⟨.put c.id o.id q dest, .read (p.loc + 32 * i) (min 32 (p.len - 32 * i)) (32 * i)⟩) ∧ ∀ u, t.th u = s.th u) ∧
    (∀ (o : RemoteOp) (f : Flight) (dest q : Nat), s.flightOf x.toNat dest q = some (o, f) → f.piece.op = 4 → o.kind = .put →
      s.resends x.toNat f = true → ∃ t, exec (.resendIntervalExpired x dest q) s = .next t ∧ Reaches s t (f.lastSent + s.resendAfter dest) ∧
        t.ends = s.ends ∧ (t.core c.coreId).outbound = (s.core c.coreId).outbound ++ (List.range ((f.piece.len + 31) / 32)).map (fun i =>
          ⟨.put c.id o.id q dest, .read (f.piece.loc + 32 * i) (min 32 (f.piece.len - 32 * i)) (32 * i)⟩)) ∧
    (∀ (o : RemoteOp) (f : Flight) (dest q : Nat), s.flightOf x.toNat dest q = some (o, f) → f.piece.op = 2 → s.resends x.toNat f = true →
      ∃ t, exec (.resendIntervalExpired x dest q) s = .next t ∧ Reaches s t (f.lastSent + s.resendAfter dest) ∧
        (∃ tr ∈ (t.endp c.tower.val).staged ++ (t.endp c.tower.val).landed, tr.pkt.seq = q ∧ tr.pkt.tries = f.tries + 1 ∧ tr.pkt.addr = f.piece.far) ∧
        ∀ u, t.th u = s.th u) ∧
    (∀ (o : RemoteOp) (f : Flight) (dest q : Nat), s.flightOf x.toNat dest q = some (o, f) → o.kind = .write → f.piece.op = 2 → f.answered = false →
      f.writing = 0 → f.reading = 0 → o.unsent = [] → o.flights = [f] → o.failure = none → ((s.req x.toNat).ops.map RemoteOp.id).Nodup →
      (s.responseAtHand x.toNat dest q = true → exec (.packetBoundPassed x dest q) s = .next s) ∧
      (s.responseAtHand x.toNat dest q = false → ∃ t, exec (.packetBoundPassed x dest q) s = .next t ∧ Reaches s t (f.firstSent + f.bound) ∧ (∀ y ∈ (t.req x.toNat).ops, y.id ≠ o.id) ∧
        ((s.th c).deferred = none → (t.th c).deferred = some (0x14, f.piece.far)) ∧
        (∀ d, (s.th c).deferred = some d → (t.th c).deferred = some d) ∧ (t.th c).pc = (s.th c).pc ∧ (t.th c).x = (s.th c).x))

/-- The way of a packet (R166, R167, R240, R241, R245, R247 to R249, R295): the next staged packet is placed on the lane R247 chooses, and
one whose fibre pair is not ACTIVE takes its way anew outside the X-chiplets; a lane begins the packet at its head only with credits for
every flit, 2.88 ns a flit, and its head stands at the receiver 30 ns later; in a landing slot only granted lanes drain, each lane's freed
count rising with its flits, and a whole packet has landed. A head flit has the fields of R167 in their bits. The model's own choices:
assumptions 3, 5, 52. -/
def Obligations.PacketFlow : Prop :=
  (∀ (e : Endpoint) (dest : Fin 49) (s : State) tr k, dest.val < 24 ∨ dest.val ≠ 48 ∧ s.fibreOpen (dest.val - 24) = true →
    (∀ j, 17152 ≤ j → (s.ln j).fifoReq = [] ∧ (s.ln j).fifoRsp = []) →
    s.placeable e.val ((s.endp e.val).staged.filter fun t => decide (t.dest = dest.val)) = some (tr, k) →
    ∃ t, exec (.packetPlaced e dest) s = .next t ∧ (t.endp e.val).staged = (s.endp e.val).staged.erase tr ∧
      (t.ln k).txq = (s.ln k).txq ++ [tr] ∧ ∀ j, j ≠ k → t.ln j = s.ln j) ∧
  (∀ (e : Endpoint) (dest : Fin 49) (s : State) tr d f, e.val < 16 ∨ 22 ≤ e.val →
    dest.val = 48 ∨ 24 ≤ dest.val ∧ s.fibreOpen (dest.val - 24) = false →
    ((s.endp e.val).staged.filter fun t => decide (t.dest = dest.val)).find? (fun t => decide ((s.nextHop e.val t.pkt).1 ≠ dest.val)) = some tr →
    s.nextHop e.val tr.pkt = (d, f) →
    ∃ t, exec (.packetPlaced e dest) s = .next t ∧
      (t.endp e.val).staged = (s.endp e.val).staged.erase tr ++ [{ tr with dest := d, fibre := f }] ∧ t.lanes = s.lanes) ∧
  (∀ (l : LaneId) (s : State) tr rest, (s.ln l.key).txq = tr :: rest → s.laneUsable l.key = true → (s.ln l.key).standby = false →
    (s.credits l.key tr.pkt < tr.pkt.flits → ∃ t, exec (.laneBeginPacket l) s = .next t ∧ (t.ln l.key).txq = tr :: rest ∧ t.now = s.now) ∧
    (tr.pkt.flits ≤ s.credits l.key tr.pkt →
      let at' := max (100 * s.now) (max (s.ln l.key).busyUntil (100 * (s.ln l.key).wakeAt))
      ∃ t, exec (.laneBeginPacket l) s = .next t ∧ Reaches s t (at' / 100) ∧ (t.ln l.key).txq = rest ∧
        (t.ln l.key).busyUntil = at' + 288 * tr.pkt.flits ∧
        (tr.pkt.isRequest = true → (t.ln l.key).sentReq = ((s.ln l.key).sentReq + tr.pkt.flits) % 4096 ∧ (t.ln l.key).sentRsp = (s.ln l.key).sentRsp) ∧
        (tr.pkt.isRequest = false → (t.ln l.key).sentRsp = ((s.ln l.key).sentRsp + tr.pkt.flits) % 4096 ∧ (t.ln l.key).sentReq = (s.ln l.key).sentReq) ∧
        (isExt l.key = false → (s.ln l.key).failed = false → (s.ln l.key).resync = none → (s.endp (laneDst l.key)).inReset = false →
          (t.ln l.key).fifoReq = (s.ln l.key).fifoReq ++
            (if tr.pkt.isRequest then [⟨{ tr with by' := laneSrc l.key }, at' + 3000, 0⟩] else []) ∧
          (t.ln l.key).fifoRsp = (s.ln l.key).fifoRsp ++
            (if tr.pkt.isRequest then [] else [⟨{ tr with by' := laneSrc l.key }, at' + 3000, 0⟩])) ∧
        ∀ j, j ≠ l.key → t.ln j = s.ln j)) ∧
  (∀ (e : Endpoint) (n : Nat) (s : State), (s.endp e.val).slotDone ≤ n → (s.endp e.val).inReset = false →
    ∃ t, exec (.landingSlot e n) s = .next t ∧ Reaches s t (16 * n) ∧ (t.endp e.val).slotDone = n + 1 ∧
      (∀ j, laneDst j ≠ e.val ∨ isExt j = true ∨ s.granted e.val (n % 64) (laneSrc j) (lanePlane j) = false → t.ln j = s.ln j) ∧
      (∀ k L f, s.lanes = [(k, L)] → laneDst k = e.val → isExt k = false → s.granted e.val (n % 64) (laneSrc k) (lanePlane k) = true →
        L.fifoReq = [] → L.fifoRsp = [f] → f.drained = 0 → f.tr.pkt.data = [] → f.ready < 1600 * (n + 1) → L.drainEnd ≤ 1600 * n →
        (t.endp e.val).landed = (s.endp e.val).landed ++ [f.tr] ∧ (t.ln k).fifoRsp = [] ∧ (t.ln k).freedRsp = (L.freedRsp + 1) % 4096 ∧
        (t.ln k).drainEnd = max (1600 * n) f.ready + 288)) ∧
  (∀ p : Packet, p.op < 256 → p.sub < 256 → p.knum < 64 → p.tries < 4 → p.srcCtx < 65536 → p.seq < 65536 → p.kctx < 65536 → p.srcModule < 1024 →
    p.data.length ≤ 1024 → p.srcInc < 256 → p.bytes.length = 32 * p.flits ∧
    HeadHas p.head [(0, 8, p.op), (8, 8, p.sub), (16, 6, p.knum), (22, 1, if p.ken then 1 else 0), (23, 1, if p.db then 1 else 0), (24, 2, p.tries),
      (26, 1, if p.gw then 1 else 0), (27, 5, 0), (32, 16, p.srcCtx), (48, 16, p.seq), (64, 16, p.kctx), (80, 10, p.srcModule), (90, 6, p.nflit),
      (96, 8, p.srcInc), (104, 24, 0), (128, 64, p.addr.toNat), (192, 64, p.operand.toNat)])

/-- A whole request of a control chiplet's own context at that chiplet's SRAM is performed at once (R160, R166, R168, R172, R190): a STORE
or PUT writes its bytes and no other byte, a LOAD or GET reads, an ATOMIC leaves R104's result, and the answer R172 gives goes back. The
model's own choices: assumption 50. -/
def Obligations.RequestsPerformed : Prop :=
  ∀ (e : Endpoint) (p : Packet) (s : State), (e.val = 22 ∨ e.val = 23) → (s.endp e.val).inReset = false →
    (∀ tr ∈ (s.endp e.val).landed, tr.pkt ≠ p) → (∀ x ∈ (s.endp e.val).txns, x.id ≠ (s.endp e.val).nextTxn) →
    p.srcModule = s.moduleId → p.srcCtx / 2048 = e.val → gaModule p.addr = s.moduleId → gaEndpoint p.addr = e.val → p.ken = false →
    let b := (e.val - 22) * 2 ^ 23 + gaOffset p.addr
    let answers := fun (i : Instr) (r : Packet) (m : Mem) => ∃ t, exec i s = .next t ∧
      (t.endp e.val).landed = (s.endp e.val).landed ++ [⟨r, e.val, e.val, none⟩] ∧ (∀ a, t.csram.byte a = m.byte a) ∧ t.lpddr = s.lpddr ∧
      t.cores = s.cores
    (p.op = 2 → gaOffset p.addr + p.size ≤ 2 ^ 23 →
      answers (.storePacket e p false none) p.ack (s.csram.write b (bytesOf p.size p.operand.toNat))) ∧
    (p.op = 4 → gaOffset p.addr + p.data.length ≤ 2 ^ 23 → answers (.putPacket e p false none) p.ack (s.csram.write b p.data)) ∧
    (p.op = 1 → gaOffset p.addr + p.size ≤ 2 ^ 23 →
      answers (.loadPacket e p false none) (p.dataAnswer (BitVec.ofNat 64 (s.csram.readNat b p.size))) s.csram) ∧
    (p.op = 5 → gaOffset p.addr + p.getBytes ≤ 2 ^ 23 → answers (.getPacket e p false none) (p.gdata (s.csram.read b p.getBytes)) s.csram) ∧
    (p.op = 3 → gaOffset p.addr + atomicSize p.func ≤ 2 ^ 23 →
      answers (.atomicPacket e p false none)
        (if p.fetches then p.dataAnswer (BitVec.ofNat 64 (s.csram.readNat b (atomicSize p.func))) else p.ack)
        (s.csram.write b (bytesOf (atomicSize p.func) (p.atomic (s.csram.readNat b (atomicSize p.func))))))

/-- Responses at a tower's requester (R66, R168, R172, R175, R188): an ACK completes a write; DATA writes a load's register and readies
its thread; a failing NACK completes a write with its cause deferred; a NACK of cause 0 leaves it open; GDATA hands its bytes to the
core's inbound path. A packet with a reserved OP is dropped and counted. Windows (R183, R184): a duplicate of a performed STORE is
answered from its window and writes nothing; a window is freed 1 ms after its requester's last packet. The model's own choices:
assumptions 3, 5, 53, 54. -/
def Obligations.Responses : Prop :=
  (∀ (c : Ctx) (e : Endpoint) (p : Packet) (o : RemoteOp) (f : Flight) (s : State), e.val = c.tower.val → (s.endp e.val).inReset = false →
    (∀ tr ∈ (s.endp e.val).landed, tr.pkt ≠ p) → p.srcModule = s.moduleId → p.srcCtx = c.id → gaEndpoint p.addr ≠ 31 →
    s.fillOf c.id (gaModule p.addr * 32 + gaEndpoint p.addr) p.seq = none → s.oldInc c.id p.srcInc = false →
    s.flightOf c.id (gaModule p.addr * 32 + gaEndpoint p.addr) p.seq = some (o, f) → f.answered = false → f.writing = 0 → o.unsent = [] →
    o.flights = [f] → o.failure = none → ((s.req c.id).ops.map RemoteOp.id).Nodup →
    (p.op = 0x41 → o.kind = .write → ∃ t, exec (.ackPacket e p false none) s = .next t ∧ (∀ y ∈ (t.req c.id).ops, y.id ≠ o.id) ∧
      (∀ u, t.th u = s.th u) ∧ t.csram = s.csram ∧ t.lpddr = s.lpddr) ∧
    (∀ (xd : XReg) n sg, p.op = 0x43 → o.kind = .load xd.val n sg → (s.th c).wait = .answer o.id → (s.th c).st = .waitRemote →
      ∃ t, exec (.dataPacket e p false none) s = .next t ∧ (∀ y ∈ (t.req c.id).ops, y.id ≠ o.id) ∧
        (t.th c).xr xd = (if xd = 0 then 0 else extend n sg p.operand.toNat) ∧ (∀ r, r ≠ xd → (t.th c).xr r = (s.th c).xr r) ∧
        (t.th c).wait = .none ∧ ((t.th c).st = .ready ∨ (t.th c).st = .running) ∧ (t.th c).pc = (s.th c).pc) ∧
    (p.op = 0x42 → p.sub ≠ 0 → o.kind = .write → (s.th c).deferred = none →
      ∃ t, exec (.nackPacket e p false none) s = .next t ∧ (∀ y ∈ (t.req c.id).ops, y.id ≠ o.id) ∧ (t.th c).deferred = some (p.sub, f.piece.far)) ∧
    (p.op = 0x42 → p.sub = 0 → ∃ t, exec (.nackPacket e p false none) s = .next t ∧ t.requesters = s.requesters ∧ ∀ u, t.th u = s.th u) ∧
    (p.op = 0x44 → o.kind = .get → p.data ≠ [] → ∃ t, exec (.gdataPacket e p false none) s = .next t ∧
      (t.vault c.tower.val).down.get [] c.core.val = (s.vault c.tower.val).down.get [] c.core.val ++
        (unitsOf (p.operand.toNat % 2 ^ 20) p.data).map (fun u => ⟨.got c.id o.id p.seq f.dest, .write u.1 u.2⟩))) ∧
  (∀ (e : Endpoint) (p : Packet) (bad : Bool) (s : State), reservedOp p.op = true → (s.endp e.val).inReset = false →
    (∀ tr ∈ (s.endp e.val).landed, tr.pkt ≠ p) →
    ∃ t, exec (.reservedOpPacket e p bad none) s = .next t ∧ t = { s with regs := t.regs } ∧
      (bad = false → (t.reg (endBlock e.val + 0x4E00)).field 63 32 = ((s.reg (endBlock e.val + 0x4E00)).field 63 32 + 1) % 2 ^ 32)) ∧
  (∀ (e : Endpoint) (p : Packet) (w : Window) (s : State), (e.val = 22 ∨ e.val = 23) → (s.endp e.val).inReset = false → p.op = 2 →
    (∀ tr ∈ (s.endp e.val).landed, tr.pkt ≠ p) → p.srcModule = s.moduleId → p.srcCtx / 2048 ≠ e.val → p.srcCtx / 2048 < 24 →
    gaModule p.addr = s.moduleId → gaEndpoint p.addr = e.val →
    (s.endp e.val).windows = [w] → w.srcModule = p.srcModule → w.srcCtx = p.srcCtx → w.srcInc = p.srcInc → w.expired s.now = false →
    w.high = p.seq → p.seq < 65536 → w.seenOf p.seq = some .written →
    ∃ t, exec (.storePacket e p false none) s = .next t ∧ t.csram = s.csram ∧ t.lpddr = s.lpddr ∧ t.cores = s.cores ∧
      (t.endp e.val).staged = (s.endp e.val).staged ++ [⟨p.ack, e.val, p.srcCtx / 2048, none⟩]) ∧
  (∀ (e : Endpoint) (m x : Nat) (w : Window) (s : State),
    (s.endp e.val).windows.find? (fun y => decide (y.srcModule = m) && decide (y.srcCtx = x)) = some w →
    ∃ t, exec (.windowExpired e m x) s = .next t ∧ Reaches s t (w.last + 1000000) ∧
      (t.endp e.val).windows = (s.endp e.val).windows.erase w)

/-- Gateways and multicast (R196, R197, R207, R260): a frame closes 1 microsecond after its first packet and leaves with the next frame
number; a sound frame's request for this module goes on with GW = 1 while DOMAIN is open, and an unsound frame is dropped and counted; a
multicast store enters as one operation with a piece for each named endpoint, a multicast put with the pieces of each copy. A frame head
has the fields of R196 in their bits. The model's own choices: assumptions 3, 5, 45, 57, 59. -/
def Obligations.GatewaysMulticast : Prop :=
  (∀ (x : Fin 6) (fibre : Fin 4) (dst : Nat) (g : Gather) (s : State),
    (s.endp (16 + x.val)).frames.find? (fun g => decide (g.dstModule = dst) && decide (g.fibre = 4 * x.val + fibre.val)) = some g →
    ∃ t f, exec (.gatewayFrameClose x dst fibre) s = .next t ∧ Reaches s t (g.first + 1000) ∧
      (t.endp (16 + x.val)).frames = (s.endp (16 + x.val)).frames.erase g ∧
      (t.endp (16 + x.val)).frameNo = ((s.endp (16 + x.val)).frameNo + 1) % 2 ^ 32 ∧ (t.endp (16 + x.val)).sentFrame = some f ∧
      f.number = (s.endp (16 + x.val)).frameNo ∧ f.srcModule = s.moduleId ∧ f.dstModule = g.dstModule ∧ f.body = g.packets ∧
      f.packets = g.packets.length ∧ f.flits = (g.packets.map Packet.flits).sum) ∧
  (∀ (x : Fin 6) (f : Frame) (bad : Bool) (p : Packet) (s : State), (s.endp (16 + x.val)).inReset = false →
    (bad = true ∨ f.packets ≠ f.body.length ∨ f.flits ≠ (f.body.map Packet.flits).sum →
      ∃ t, exec (.frameReceived x f bad) s = .next t ∧ t = { s with regs := t.regs } ∧
        (t.reg (endBlock (16 + x.val) + 0x4E30)).field 63 32 = ((s.reg (endBlock (16 + x.val) + 0x4E30)).field 63 32 + 1) % 2 ^ 32) ∧
    (bad = false → f.packets = 1 → f.flits = p.flits → f.body = [p] → p.isRequest = true → gaModule p.addr = s.moduleId →
      homeOf p.addr ≠ 16 + x.val → s.domainOpen = true →
      ∃ t, exec (.frameReceived x f bad) s = .next t ∧
        (t.endp (16 + x.val)).staged = (s.endp (16 + x.val)).staged ++ [⟨{ p with gw := true }, 16 + x.val, homeOf p.addr, none⟩])) ∧
  (∀ (x : BitVec 16) (targets : BitVec 24) (off : BitVec 49) (p : Packet) (s : State), p.op = 2 → p.ken = false → 22 ≤ x.toNat / 2048 →
    s.isContext x.toNat = true → targets ≠ 0 →
    (∀ e, e < 24 → targets.getLsbD e = true →
      s.addressOk (BitVec.ofNat 64 (s.moduleId * 2 ^ 54 + e * 2 ^ 49 + off.toNat)) .store p.size p.size (x.toNat / 2048) false = true) →
    ∃ t o, exec (.multicastPut x targets off p) s = .next t ∧ (t.req x.toNat).ops = (s.req x.toNat).ops ++ [o] ∧
      o.unsent.map Piece.far = ((List.range 24).filter fun e => targets.getLsbD e).map
        (fun e => BitVec.ofNat 64 (s.moduleId * 2 ^ 54 + e * 2 ^ 49 + off.toNat)) ∧ t.csram = s.csram ∧ t.lpddr = s.lpddr ∧ t.cores = s.cores) ∧
  (∀ (x : BitVec 16) (targets : BitVec 24) (off : BitVec 49) (p : Packet) (s : State), p.op = 4 → p.data.length % 32 = 0 → 22 ≤ x.toNat / 2048 →
    s.isContext x.toNat = true → targets ≠ 0 →
    let far := fun e => (BitVec.ofNat 64 (s.moduleId * 2 ^ 54 + e * 2 ^ 49 + off.toNat) : Word)
    (∀ e, e < 24 → targets.getLsbD e = true → s.addressOk (far e) .bulk p.data.length 32 (x.toNat / 2048) false = true ∧
      (p.ken = true → s.counterOk (far e) p.kctx = true)) →
    ∃ t o, exec (.multicastPut x targets off p) s = .next t ∧ (t.req x.toNat).ops = (s.req x.toNat).ops ++ [o] ∧ o.bytes = p.data ∧
      o.unsent = ((List.range 24).filter fun e => targets.getLsbD e).flatMap
        (fun e => piecesOf true (far e) 0 p.data.length p.ken p.knum p.kctx) ∧ t.csram = s.csram ∧ t.lpddr = s.lpddr ∧ t.cores = s.cores) ∧
  (∀ f : Frame, f.srcModule < 1024 → f.srcGw < 32 → f.dstModule < 1024 → f.dstGw < 32 → f.packets < 4096 → f.flits < 65536 →
    HeadHas f.head [(0, 8, 0x08), (8, 24, 0), (32, 32, f.number % 2 ^ 32), (64, 10, f.srcModule), (74, 5, f.srcGw), (79, 17, 0), (96, 10, f.dstModule),
      (106, 5, f.dstGw), (111, 17, 0), (128, 12, f.packets), (140, 52, 0), (192, 16, f.flits), (208, 48, 0)])

/-- Link flits and standby (R244, R245, R251, R254, R291 to R293): a due link flit goes out where it says something new, on the lowest
awake usable lane of its half at that lane's next packet boundary, 64 flit positions after the last one, or at once where DOWN or RESYNC
has changed; without that and without an idle lane none goes out. One received sets the credits of its half's lanes and no other credit;
an external one also records the far end's state and module and the path measured. An idle lane goes to standby after STANDBY_DELAY, and
one with a packet wakes, its first flit 50 ns later. Both kinds of link flit have their fields in the bits of R244 and R291. The model's
own choices: assumptions 3, 5, 6, 145. -/
def Obligations.LinkFlitsStandby : Prop :=
  (∀ (a b : Endpoint) (h : Fin 2) (s : State), a ≠ b →
    let ix := (a.val * 24 + b.val) * 2 + h.val
    let f := s.linkFlit a b h
    let side := s.sentLinks.get LinkSide.none ix
    ((∀ p, p < 16 → s.idleLane (baseLane a.val b.val p) = false) → side.sent = some f → exec (.linkFlitDue a (.base b) (h.castLE (by decide))) s = .next s) ∧
    (∀ k, s.linkLane (pairLanes a.val b.val) (fun k => decide (lanePlane k / 8 = h.val)) = some k → side.sent ≠ some f →
      let urgent := ∀ g, side.sent = some g → g.down ≠ f.down ∨ g.resync ≠ f.resync
      let go := fun (at' : Nat) => ∃ t, exec (.linkFlitDue a (.base b) (h.castLE (by decide))) s = .next t ∧ Reaches s t (at' / 100) ∧
        t.sentLinks.get LinkSide.none ix = { sent := some f, at' := at', way := side.way ++ [⟨f, k, at' + 3000⟩] } ∧
        (t.ln k).busyUntil = at' + 288 ∧ (∀ j, j ≠ ix → t.sentLinks.get LinkSide.none j = s.sentLinks.get LinkSide.none j) ∧ t.ends = s.ends
      (urgent → go (max (100 * s.now) (s.ln k).busyUntil)) ∧
      (¬ urgent → go (max (100 * s.now) (max (side.at' + 64 * 288) (s.ln k).busyUntil))))) ∧
  (∀ (pair : Fin 24) (q : Fin 4) (s : State) k,
    let ix := pair.val * 4 + q.val
    let f := s.extFlit pair q
    (s.extLinks.get ExtSide.none ix).sent = none →
    s.linkLane (pairLanes 0 (24 + pair.val)) (fun k => decide (extNo k / 8 = q.val)) = some k →
    let at' := max (100 * s.now) (s.ln k).busyUntil
    ∀ src : Endpoint, src.val = 16 + pair.val / 4 → ∃ t, exec (.linkFlitDue src (.fibre pair) q) s = .next t ∧ Reaches s t (at' / 100) ∧ t.extLinks.get ExtSide.none ix = { sent := some f, at' := at' } ∧
      (t.ln k).busyUntil = at' + 288 ∧ t.ends = s.ends) ∧
  (∀ (f : LinkFlit) (w : LinkWay) rest (s : State), f.src ≠ f.dst → f.down = 0 → f.resync = 0 → f.init = 0 →
    (s.sentLinks.get LinkSide.none ((f.src.val * 24 + f.dst.val) * 2 + f.half.val)).way = w :: rest → w.flit = f → isExt w.lane = false →
    (s.ln w.lane).failed = false → (s.ln w.lane).resync = none → (s.endp f.dst.val).inReset = false →
    (∀ p, p < 16 → (s.ln (baseLane f.dst.val f.src.val p)).init = .idle ∧ (s.ln (baseLane f.dst.val f.src.val p)).txq = []) →
    ∃ t, exec (.linkFlitReceived f) s = .next t ∧ Reaches s t (w.at' / 100) ∧
      (t.sentLinks.get LinkSide.none ((f.src.val * 24 + f.dst.val) * 2 + f.half.val)).way = rest ∧
      ∀ p, p < 16 → t.ln (baseLane f.dst.val f.src.val p) =
        if p / 8 = f.half.val then { s.ln (baseLane f.dst.val f.src.val p) with
          creditReq := f.reqFreed.getD (p % 8) 0 % 4096, creditRsp := f.rspFreed.getD (p % 8) 0 % 4096 }
        else s.ln (baseLane f.dst.val f.src.val p)) ∧
  (∀ (f : LinkFlit) (s : State), (∀ w ∈ (s.sentLinks.get LinkSide.none ((f.src.val * 24 + f.dst.val) * 2 + f.half.val)).way, w.flit ≠ f) →
    exec (.linkFlitReceived f) s = .next s) ∧
  (∀ (f : ExtLinkFlit) (trip : Option Nat) (s : State), f.down = 0 → f.resync = 0 → f.init = 0 → f.pairState.val = 0 →
    (∀ j, j < 32 → (s.ln (extLane f.pair.val j)).init = .idle ∧ (s.ln (extLane f.pair.val j)).txq = []) →
    ∃ t, exec (.extLinkFlitReceived ⟨f, trip⟩) s = .next t ∧ t.farState.get 0 f.pair.val = 0 ∧
      t.farModule.get none f.pair.val = some (f.srcModule % 1024) ∧ t.lastLink.get 0 f.pair.val = s.now ∧
      (∀ n, trip = some n → t.pathM.get 0 f.pair.val = min 0x1FFF ((100 * n - 39248) / 1000)) ∧
      ∀ j, j < 8 → (t.ln (extLane f.pair.val (8 * f.quarter.val + j))).creditReq = f.reqFreed.getD j 0 % 4096 ∧
        (t.ln (extLane f.pair.val (8 * f.quarter.val + j))).creditRsp = f.rspFreed.getD j 0 % 4096) ∧
  (∀ (l : LaneId) (s : State),
    (bitOf (s.reg 0x14000) 0 = true → (s.ln l.key).txq = [] → (s.ln l.key).standby = false → s.laneUsable l.key = true →
      ∃ t, exec (.laneStandbyEnter l) s = .next t ∧ t.ln l.key = { s.ln l.key with standby := true } ∧ (∀ j, j ≠ l.key → t.ln j = s.ln j) ∧
        Reaches s t ((max (s.ln l.key).lastUse (s.ln l.key).busyUntil + 99) / 100 + 1000 * max 1 (s.field 0x14000 25 16))) ∧
    ((s.ln l.key).txq ≠ [] → (s.ln l.key).standby = true → s.laneUsable l.key = true → ∃ t, exec (.laneWake l) s = .next t ∧
      t.ln l.key = { s.ln l.key with standby := false, wakeAt := s.now + 50 } ∧ ∀ j, j ≠ l.key → t.ln j = s.ln j) ∧
    (s.laneUsable l.key = false → exec (.laneWake l) s = .next s)) ∧
  (∀ f : LinkFlit, HeadHas f.head ([(0, 8, 0xC0), (8, 5, f.src.val), (13, 1, f.half.val), (14, 2, 0), (16, 16, f.down.toNat), (32, 16, f.resync.toNat),
    (48, 16, f.init.toNat)] ++ freedFields f.reqFreed f.rspFreed)) ∧
  (∀ f : ExtLinkFlit, f.srcModule < 1024 → HeadHas f.head ([(0, 8, 0xC1), (8, 5, 16 + f.pair.val / 4), (13, 2, f.quarter.val), (15, 1, 0),
    (16, 8, f.down.toNat), (24, 8, f.resync.toNat), (32, 8, f.init.toNat), (40, 2, f.pairState.val), (42, 10, f.srcModule), (52, 12, 0)] ++
    freedFields f.reqFreed f.rspFreed))

/-- Lanes that fail (R252, R253): a codeword that cannot be corrected drops both FIFOs and starts a resynchronisation, and the third start
within 1 ms fails the lane; the receiver resumes at the next superframe start and asks for credit initialisation; a handshake of 10
microseconds, and a lost ring lock outside standby, fail the lane. A pair with no usable lane back is left by its source. The model's own
choices: assumptions 3, 5, 134. -/
def Obligations.LaneFailures : Prop :=
  (∀ (l : LaneId) (s : State),
    let rx := rxLane l.key
    let starts := (s.ln rx).resyncTimes.filter fun x => decide (s.now < x + 1000000)
    ((s.ln rx).failed = false → (s.ln rx).resync = none → ∃ t, exec (.laneResyncStart l) s = .next t ∧
      (t.ln rx).fifoReq = [] ∧ (t.ln rx).fifoRsp = [] ∧
      (starts.length < 2 → (t.ln rx).failed = false ∧ (t.ln rx).resync = some (s.now + if isExt l.key then 25000 else 1000)) ∧
      (2 ≤ starts.length → (t.ln rx).failed = true)) ∧
    (∀ at', (s.ln rx).resync = some at' → ∃ t, exec (.laneResyncResume l) s = .next t ∧ (t.ln rx).resync = none ∧
      Reaches s t (superframeAt rx at') ∧ (t.ln (peerLane rx)).init = .asked) ∧
    ((s.ln (peerLane rx)).init = .asked → ∃ t, exec (.laneInitTimeout l) s = .next t ∧ (t.ln rx).failed = true ∧
      Reaches s t ((s.ln (peerLane rx)).initStart + 10000)) ∧
    ((s.ln l.key).standby = false → ∃ t, exec (.ringLockLost l) s = .next t ∧ (t.ln rx).failed = true ∧
      (t.ring (ringKey l false)).st = .lockLost)) ∧
  (∀ (a b : Endpoint) (s : State), a ≠ b → s.pairUsable b.val a.val = false →
    ∃ t, exec (.pairUnreachable a b) s = .next t ∧ t.unreach.get false (a.val * 24 + b.val) = true ∧
      ∀ p, p < 16 → (t.ln (baseLane a.val b.val p)).txq = [])

/-- Planes and fibre pairs at epochs (R255 to R258, R261, R289, R290, R293, R301): an accepted command waits for its epoch and a
readmission opens its planes at once; at the epoch the named ACTIVE ones close or the OPENING ones become ACTIVE, their lanes whose
initialisation has not finished declared failed; a CLOSING one that is empty becomes RETIRED with CAUSE 0x01; a RETIRED plane every
endpoint has passed becomes LOCKED; a self-test flit outside line 0 is dropped and counted. The external code (R289, R290): the powers of
alpha, the roots of the generator, a codeword of 256 data symbols and 16 checks that is 0 at every root, its line bits, and a superframe
of 80 flits in nine codewords. The model's own choices: assumptions 3, 5, 136. -/
def Obligations.PlanesAndFibrePairs : Prop :=
  (∀ (names : BitVec 16) (s : State),
    let e := s.now - s.now % 2 ^ 64 + (s.reg 0x14010).toNat
    s.epoch = none → names ≠ 0 → e % 1024 = 0 → s.now + 10000 ≤ e →
    ((∀ i, i < 16 → names.getLsbD i = true → s.plane i = .active) →
      8 + ((List.range 16).filter fun i => names.getLsbD i).length ≤ ((List.range 16).filter fun i => decide (s.plane i = .active)).length →
      ∃ t, exec (.pblRetirePlanes names) s = .next t ∧ t.epoch = some ⟨e, 1, names.toNat, false⟩ ∧ t.planes = s.planes) ∧
    ((∀ i, i < 16 → names.getLsbD i = true → s.plane i = .locked) →
      ∃ t, exec (.pblReadmitPlanes names) s = .next t ∧ t.epoch = some ⟨e, 2, names.toNat, false⟩ ∧
        ∀ i, i < 16 → t.plane i = if names.getLsbD i then .opening else s.plane i)) ∧
  (∀ (names : BitVec 24) (s : State),
    let e := s.now - s.now % 2 ^ 64 + (s.reg 0x17058).toNat
    s.fepoch = none → names ≠ 0 → e % 1024 = 0 → s.now + 10000 ≤ e →
    ((∀ i, i < 24 → names.getLsbD i = true → s.plane (16 + i) = .active) →
      ∃ t, exec (.optFibreRetire names) s = .next t ∧ t.fepoch = some ⟨e, 1, names.toNat, false⟩ ∧ t.planes = s.planes) ∧
    ((∀ i, i < 24 → names.getLsbD i = true → s.plane (16 + i) = .locked) →
      ∃ t, exec (.optFibreReadmit names) s = .next t ∧ t.fepoch = some ⟨e, 2, names.toNat, false⟩ ∧
        ∀ i, i < 24 → t.plane (16 + i) = if names.getLsbD i then .opening else s.plane (16 + i))) ∧
  (∀ (c : EpochCmd) (s : State), c.begun = false →
    (s.epoch = some c → c.action = 1 → ∃ t, exec .planeEpoch s = .next t ∧ Reaches s t c.time ∧
      ∀ i, i < 16 → c.names / 2 ^ i % 2 = 1 → s.plane i = .active → t.plane i = .closing) ∧
    (s.epoch = some c → c.action = 2 → ∃ t, exec .planeEpoch s = .next t ∧ Reaches s t c.time ∧ t.epoch = none ∧
      ((∀ i, i < 16 → s.lateLanes i = []) → ∀ i, i < 16 → c.names / 2 ^ i % 2 = 1 → s.plane i = .opening → t.plane i = .active) ∧
      ∀ i, i < 16 → c.names / 2 ^ i % 2 = 1 → s.plane i = .opening → ∀ k ∈ s.lateLanes i, (t.ln k).failed = true) ∧
    (s.fepoch = some c → c.action = 1 → ∃ t, exec .fibrePairEpoch s = .next t ∧ Reaches s t c.time ∧
      ∀ i, i < 24 → c.names / 2 ^ i % 2 = 1 → s.plane (16 + i) = .active → t.plane (16 + i) = .closing)) ∧
  (∀ (i : Fin 16) (f : Fin 24) (s : State),
    (s.plane i.val = .closing → s.planeEmpty i.val = true → ∃ t, exec (.planeRetired i) s = .next t ∧ t.plane i.val = .retired ∧
      (t.reg (0x14100 + 8 * i.val)).field 55 48 = 1) ∧
    (s.plane (16 + f.val) = .closing → s.planeEmpty (16 + f.val) = true → ∃ t, exec (.fibrePairRetired f) s = .next t ∧
      t.plane (16 + f.val) = .retired ∧ (t.reg (0x17100 + 8 * f.val)).field 63 56 = 1) ∧
    (∀ e : Endpoint, s.plane i.val = .retired → (∀ d, d < 24 → d ≠ e.val → s.selfOk.get false (d * 16 + i.val) = true) → s.lit i.val = true →
      s.ringsLocked i.val = true → s.light.calBusy ≠ some i.val → ∃ t, exec (.planeSelftest e i 0) s = .next t ∧ t.plane i.val = .locked) ∧
    (∀ (e : Endpoint) (line : Fin 26), line.val ≠ 0 → ∃ t, exec (.selftestFlitReceived e i line true) s = .next t ∧ t = { s with regs := t.regs } ∧
      (t.reg (endBlock e.val + 0x4E20)).field 31 0 = ((s.reg (endBlock e.val + 0x4E20)).field 31 0 + 1) % 2 ^ 32) ∧
    (∀ e : Endpoint, ∃ t, exec (.selftestFlitReceived e i 0 true) s = .next t ∧
      t.selfErr.get 0 (e.val * 16 + i.val) = s.selfErr.get 0 (e.val * 16 + i.val) + 1)) ∧
  (rsPow 10 = rsPow 3 ^^^ 1 ∧ (∀ n, rsPow n = 1 ↔ n % 1023 = 0) ∧ rsGenerator.length = 17 ∧ rsGenerator.head? = some 1 ∧
    ∀ i, i < 16 → polyAt rsGenerator (rsPow i) = 0) ∧
  (∀ data : List Nat, data.length = 256 → (∀ a ∈ data, a < 1024) → rsValid (rsCodeword data) = true ∧ (rsCodeword data).take 256 = data ∧
    ∀ j b, j < 272 → b < 10 → (rsLineBits (rsCodeword data))[10 * j + b]? = (rsCodeword data)[j]?.map fun a => a.testBit b) ∧
  (∀ flits : List (List Byte), flits.length = 80 → (∀ f ∈ flits, f.length = 36) → (extSuperframe flits).length = 24480 ∧
    (∀ k i, k < 9 → i < 2560 → (extSuperframe flits)[2720 * k + i]? = (flits.flatMap flitBits)[2560 * k + i]?) ∧
    (pamLevels (extSuperframe flits)).length = 12240)

/-- Cartridges (R272, R273, R297, R298): insertion makes an EMPTY bay DARK and latched; a latch releases in EMPTY, DARK and FAILED and is
otherwise refused and counted; OPT_CB_CMD moves a bay only from the states R298 names, and is else IGNORED; a cartridge that fails has
every plane and fibre pair it fed retired at once with CAUSE 0x02. The spare matrix and its procedure (R275, R280, R287, R299): a switch
starts with the path retired or locked, CB6 READY after a MATCH of that bay; as it completes the replaced cartridge goes DARK and CB6
SERVES, or back, unless the cartridge that was to serve is READY no longer, and the path's rings relock; with AUTO the procedure starts
for the bay that became FADING first by retiring its path. The model's own choices: assumptions 102, 135. -/
def Obligations.Cartridges : Prop :=
  (∀ (n : Fin 7) (s : State),
     let b := s.bay n.val
     ((s.bay n.val).st = .empty → ∃ t, exec (.cartridgeInserted n) s = .next t ∧
       t.bay n.val = { b with st := .dark, latched := true, followed := none, fresh := true } ∧ ∀ m, m ≠ n.val → t.bay m = s.bay m) ∧
     (b.latched = false → ∃ t, exec (.cartridgeRemoved n) s = .next t ∧ (t.bay n.val).st = .empty ∧ ∀ m, m ≠ n.val → t.bay m = s.bay m) ∧
     (b.st = .empty ∨ b.st = .dark ∨ b.st = .failed → ∃ t, exec (.cartridgeLatchRelease n) s = .next t ∧ t.bay n.val = { b with latched := false }) ∧
     (b.st = .warming ∨ b.st = .ready ∨ b.st = .serving ∨ b.st = .matching → ∃ t, exec (.cartridgeLatchRelease n) s = .next t ∧
       t.bay n.val = b ∧ (t.reg (endBlock 22 + 0x4E38)).field 31 0 = ((s.reg (endBlock 22 + 0x4E38)).field 31 0 + 1) % 2 ^ 32) ∧
     (b.st = .dark → b.latched = true → ∃ t, exec (.optCbWarm n) s = .next t ∧ t.bay n.val = { b with st := .warming }) ∧
     (b.st = .serving → (∃ t, exec (.optCbWarm n) s = .next t ∧ t.bay n.val = b ∧ bitOf (t.reg 0x17048) 61 = true) ∧
       ∃ t, exec (.optCbDark n) s = .next t ∧ t.bay n.val = b ∧ bitOf (t.reg 0x17048) 61 = true) ∧
     (b.st = .warming ∨ b.st = .ready ∨ b.st = .matching → ∃ t, exec (.optCbDark n) s = .next t ∧
       t.bay n.val = { b with st := .dark, following := none, serves := false }) ∧
     (∀ target : Fin 16, target.val < 7 → b.st = .ready ∨ b.st = .serving → (s.bay target.val).st = .ready ∨ (s.bay target.val).st = .serving →
       let off := (BitVec.ofNat 16 ((s.reg (0x17000 + 8 * target.val)).field 31 16)).toInt
       ∃ t, exec (.optCbMatch n target) s = .next t ∧
         t.bay n.val = { b with st := .matching, following := some target.val, serves := decide (b.st = .serving) } ∧
         (t.reg (0x17000 + 8 * n.val)).field 31 16 = (max (-2000) (min 2000 off) % 65536).toNat) ∧
     (b.st = .warming → ∃ t, exec (.cartridgeWarmDone n) s = .next t ∧ t.bay n.val = { b with st := .ready }) ∧
     (b.st = .matching → ∃ t, exec (.cartridgeMatchDone n) s = .next t ∧
       t.bay n.val = { b with st := if b.serves then .serving else .ready, followed := b.following, following := none, serves := false }) ∧
     (b.st = .serving → n.val < 6 → s.feeder n.val = n.val → ∃ t, exec (.cartridgeInternalFault n) s = .next t ∧ (t.bay n.val).st = .failed ∧
       ∀ i ∈ pathOf n.val, t.plane i = .retired)) ∧
  (∀ (target : Fin 16) (s : State), s.light.switching = none →
    (target.val < 6 → (s.bay 6).st = .ready → (s.bay 6).followed = some target.val → s.field 0x17048 3 0 = 15 → s.pathClear target.val = true →
      ∃ t, exec (.spareSwitch target) s = .next t ∧ t.light.switching = some (target.val, true) ∧ t.light.relocked = false ∧
        t.field 0x17048 3 0 = target.val ∧
        ∀ i, t.plane i = if i ∈ pathOf target.val ∧ s.plane i = .locked then .retired else s.plane i) ∧
    (target.val < 6 → (s.bay 6).st ≠ .ready → ∃ t, exec (.spareSwitch target) s = .next t ∧ t.light = s.light ∧ bitOf (t.reg 0x17048) 61 = true ∧
      t.field 0x17048 3 0 = s.field 0x17048 3 0)) ∧
  (∀ (bay : Nat) (into : Bool) (s : State), bay < 6 → s.light.switching = some (bay, into) →
    let new := if into then 6 else bay
    let old := if into then bay else 6
    ∃ t, exec .spareSwitchComplete s = .next t ∧ t.light.switching = none ∧ t.light.acquiring = pathOf bay ∧
      ((s.bay new).st = .ready → (t.bay new).st = .serving ∧ t.field 0x17048 3 0 = (if into then bay else 15) ∧
        (t.bay old).st = (if (s.bay old).st = .empty ∨ (s.bay old).st = .failed then (s.bay old).st else .dark) ∧
        ∀ k, lanePlaneIx (k / 2) ∈ pathOf bay → (t.ring k).st = .acquiring) ∧
      ((s.bay new).st ≠ .ready → (∀ n, t.bay n = s.bay n) ∧ t.field 0x17048 3 0 = if into then 15 else bay)) ∧
  (∀ s : State, s.light.switching = none → s.light.acquiring ≠ [] → ∃ t, exec .spareRelocked s = .next t ∧ t.light.acquiring = [] ∧
    t.light.relocked = true ∧ ∀ k, s.light.acquiring.contains (lanePlaneIx (k / 2)) = true →
      ((s.ring k).st = .acquiring → (s.ring k).detune.natAbs ≤ 8 → (t.ring k).st = .locked) ∧
      ((s.ring k).st ≠ .acquiring → (t.ring k).st = (s.ring k).st)) ∧
  (∀ (n : Nat) rest (s : State), s.light.fading = n :: rest → n < 6 → bitOf (s.reg 0x17048) 4 = true → s.light.proc = none → s.spareReady = true →
    ∃ t, exec .spareProcedureStart s = .next t ∧ t.light.proc = some n ∧ t.light.fading = rest ∧
      (n < 4 → (∀ i, i < 16 → s.plane i = .active) → s.epoch = none → s.now < 2 ^ 60 →
        t.epoch = some ⟨(s.now + 10000 + 1023) / 1024 * 1024, 1, 15 * 2 ^ (4 * n), false⟩))

/-- Watching the light (R274, R276 to R285, R294, R509): a line's commissioning value is taken 1 s after its path was lit, 2 dB below it
makes the cartridge FADING and 6 dB FAILED; the fine-lock loop leaves LOCKED above 3 GHz; another line's tone is WRONG LINE; an error
window records its count and above the failure threshold fails its lane; a drift is scheduled and the scheduled one starts first; a sweep
leaves its pair LOCKED and commands its readmission; a silent or failing fibre pair is retired with its CAUSE. The model's own choices:
assumptions 3, 5, 6, 146, 147. -/
def Obligations.LightWatched : Prop :=
  (∀ (path : Fin 40) (line : Fin 32) (power : Int) (at' : Nat) (s : State), s.light.lit.get none (bayOf path.val) = some at' →
    (s.light.commission.get none (path.val * 32 + line.val) = none → ∃ t, exec (.commissioningRecord path line power) s = .next t ∧
      Reaches s t (at' + 1000000000) ∧ t.light.commission.get none (path.val * 32 + line.val) = some (power, at')) ∧
    (∀ p, s.light.commission.get none (path.val * 32 + line.val) = some (p, at') →
      (20 ≤ p - power → ∃ t, exec (.linePowerCheck path line power) s = .next t ∧
        bitOf (t.reg (0x17000 + 8 * s.feeder (bayOf path.val))) 5 = true ∧ s.feeder (bayOf path.val) ∈ t.light.fading) ∧
      (p - power < 20 → ∃ t, exec (.linePowerCheck path line power) s = .next t ∧ t.light.fading = s.light.fading ∧ t.regs = s.regs) ∧
      (60 ≤ p - power → 16 ≤ path.val ∨ line.val ≤ 25 → (s.bay (s.feeder (bayOf path.val))).st = .serving →
        ∃ t, exec (.cartridgeLineFailure path line power) s = .next t ∧ (t.bay (s.feeder (bayOf path.val))).st = .failed))) ∧
  (∀ (l : LaneId) (tx : Bool) (d off : Int) (s : State),
    let k := ringKey l tx
    let rx := rxLane l.key
    let r := s.ring k
    let received := (isExt l.key = true → tx = false) ∧ (isExt l.key = false → laneSrc l.key ≠ laneDst l.key)
    (s.lit (lanePlaneIx l.key) = true → ∃ t, exec (.fineLockUpdate l tx d off) s = .next t ∧ (t.ring k).offset = off ∧ (t.ring k).detune = d ∧
      (24 < d.natAbs → r.st = .locked → (t.ring k).st = .lockLost ∧ ((s.ln l.key).standby = false → received → (t.ln rx).failed = true)) ∧
      (d.natAbs ≤ 24 → r.st = .locked → (t.ring k).st = .locked) ∧
      (∀ u, d.natAbs ≤ 8 → r.st = .acquiring → r.toneOk = true → r.steady = some u → u + 100000 ≤ s.now → (t.ring k).st = .locked) ∧
      ∀ j, j ≠ k → t.ring j = s.ring j) ∧
    (s.lit (lanePlaneIx l.key) = false → ∃ t, exec (.fineLockUpdate l tx d off) s = .next t ∧ (t.ring k).st = .off ∧ ∀ j, j ≠ k → t.ring j = s.ring j) ∧
    (∀ tone : Fin 32, s.lit (lanePlaneIx l.key) = true → tone.val ≠ laneLine l →
      (r.st = .wrongLine → exec (.pilotToneCheck l tx tone) s = .next s) ∧
      (r.st ≠ .wrongLine → ∃ t, exec (.pilotToneCheck l tx tone) s = .next t ∧ (t.ring k).st = .wrongLine ∧
        (t.ring k).parked = some (max 0 (min 65535 ((s.ringCode k : Int) + (if tone.val < laneLine l then r.slope else -r.slope)))).toNat ∧
        (t.ring k).offset = r.offset + 2 * ((laneLine l : Int) - tone.val) * r.slope ∧
        (s.plane (lanePlaneIx l.key) = .active → received → (t.ln rx).failed = true))) ∧
    (∀ n, ∃ t, exec (.berWindowEnd l 0 n) s = .next t ∧ Reaches s t ((s.marks.get 0 (65536 + 4 * rx) / 1000000 + 1) * 1000000) ∧
      (t.ln rx).errMs = n ∧ ((if isExt l.key then 21250 else 1063) ≤ n → (t.ln rx).failed = true) ∧
      (n < (if isExt l.key then 21250 else 1063) → (t.ln rx).failed = (s.ln rx).failed)) ∧
    (s.field 0x17050 15 8 * r.slope.natAbs < 800 * off.natAbs → ∃ t, exec (.driftDetected l tx off) s = .next t ∧
      lanePlaneIx l.key ∈ t.light.drift ∧ (t.ring k).offset = off) ∧
    (800 * off.natAbs ≤ s.field 0x17050 15 8 * r.slope.natAbs → exec (.driftDetected l tx off) s = .next s)) ∧
  (∀ (i : Nat) rest (s : State), bitOf (s.reg 0x17050) 0 = true → s.light.calBusy = none → s.light.drift = i :: rest → s.plane i = .active →
    (s.calHeld i true = false → ∃ t, exec .recalibrationStart s = .next t ∧ t.light.calBusy = some i ∧ t.light.drift = rest) ∧
    (s.calHeld i true = true → ∃ t, exec .recalibrationStart s = .next t ∧ t.light = s.light ∧
      t.field 0x17050 39 32 = min (s.field 0x17050 39 32 + 1) 255)) ∧
  (∀ (path : Fin 40) (s : State), 16 ≤ path.val → s.light.calBusy = some path.val → s.plane path.val = .retired → s.lit path.val = true →
    s.ringsLocked path.val = true →
    (s.fepoch.isSome = true → ∃ t, exec (.ringSweepDone path []) s = .next t ∧ t.plane path.val = .locked) ∧
    (s.fepoch = none → s.now < 2 ^ 60 → ∃ t c, exec (.ringSweepDone path []) s = .next t ∧ t.plane path.val = .opening ∧ t.fepoch = some c ∧
      c.action = 2 ∧ s.now + 10000 ≤ c.time)) ∧
  (∀ (f : Fin 24) (s : State), s.plane (16 + f.val) = .active →
    (∀ cause : Fin 8, 2 ≤ cause.val → cause.val ≤ 5 → ∃ t, exec (.fibrePairForcedRetire f cause) s = .next t ∧ t.plane (16 + f.val) = .retired ∧
      (t.reg (0x17100 + 8 * f.val)).field 63 56 = cause.val) ∧
    ∃ t, exec (.fibreSilenceTimeout f) s = .next t ∧ t.plane (16 + f.val) = .retired ∧ (t.reg (0x17100 + 8 * f.val)).field 63 56 = 5 ∧
      Reaches s t (s.lastLink.get 0 f.val + 100000))

/-- Channel slots, refresh and marks (R310, R311, R314, R317 to R320, R338, R510): slot n falls at Constantan 16n and performs at most one
request of its owner; with none it changes nothing but its own count of unused slots, and no write changes memory a second time; a device
that does not answer fails its channel; a refresh closes its bank's row, and spares a bank this slot or the next addresses; a write of
MEM_CH marks or clears a pin. Combining at a memory port (R191, R192, R321): at a + 100 ns an entry merges nothing more and its write
joins the opener's queue, or waits outside it while that holds 8; its opening read gives it the word, what waited is applied in order of
arrival; its write puts its value into the word, and ends it, once the starting value has arrived. The model's own choices: assumptions 3,
5, 6, 61, 62, 126. -/
def Obligations.ChannelSlots : Prop :=
  (∀ (c : Fin 288) (n : Nat) (s : State), (s.chan c.val).slotDone ≤ n → (s.endp (8 + c.val / 36)).inReset = false →
    let own := s.slotOwner c.val (n % 64)
    let live := (s.chan c.val).st = .ready ∨ (s.chan c.val).st = .marked
    let unused := endBlock (8 + c.val / 36) + 0x8000 + 64 * (c.val % 36) + 16
    ((¬ live ∨ (live ∧ own ≠ 0xFE ∧ s.slotRequest c.val own (16 * n) = none ∧ s.engineWork c.val own = none) ∨
        (live ∧ own = 0xFE ∧ (s.chan c.val).scrubFix = [] ∧ bitOf (s.reg 0x10090) 0 = false)) →
      ∃ t, exec (.channelSlot c ⟨n, false⟩) s = .next t ∧ Reaches s t (16 * n) ∧
        t.chan c.val = { s.chan c.val with slotDone := n + 1, slotBanks := s.slotAccess c.val n } ∧ t.lpddr = s.lpddr ∧ t.reg unused = s.reg unused + 1 ∧ (∀ o, o ≠ unused → t.reg o = s.reg o) ∧ t.ends = s.ends) ∧
    (live → s.slotAccess c.val n ≠ [] → ∃ t, exec (.channelSlot c ⟨n, true⟩) s = .next t ∧ (t.chan c.val).st = .failed ∧ t.lpddr = s.lpddr) ∧
    (∀ o off k j, live → own ≠ 0xFE → s.slotRequest c.val own (16 * n) = some (o, ⟨.write off k, j, none⟩) → s.lpddrErr = [] →
      ∃ t, exec (.channelSlot c ⟨n, false⟩) s = .next t ∧ Reaches s t (16 * n) ∧ t.lpddr = s.lpddr ∧ t.ends = s.ends ∧
        (t.chan c.val).queues.get [] o = ((s.chan c.val).queues.get [] o).erase ⟨.write off k, j, none⟩)) ∧
  (∀ (c : Fin 288) (rank : Fin 2) (bank : Fin 16) (s : State),
    let b := rank.val * 16 + bank.val
    (b ∈ s.slotBanks c.val → exec (.refreshCommand c rank bank) s = .next s) ∧
    (b ∉ s.slotBanks c.val → ∃ t, exec (.refreshCommand c rank bank) s = .next t ∧ t.lpddr = s.lpddr ∧
      (t.chan c.val).openRows.get 0 b = 0 ∧ ∀ b', b' ≠ b → (t.chan c.val).openRows.get 0 b' = (s.chan c.val).openRows.get 0 b')) ∧
  (∀ (c : Fin 288) (valid : Bool) (pin : Fin 16) (s : State), ∃ t, exec (.memChMarkWrite c valid pin) s = .next t ∧
    bitOf (t.reg (memChReg c.val)) 52 = valid ∧ t.field (memChReg c.val) 51 48 = pin.val ∧
    ((s.chan c.val).st = .ready → (t.chan c.val).st = if valid then .marked else .ready) ∧
    ((s.chan c.val).st = .marked → (t.chan c.val).st = if valid then .marked else .ready) ∧
    ((s.chan c.val).st = .failed → (t.chan c.val).st = .failed) ∧ ∀ d, d ≠ c.val → t.chan d = s.chan d) ∧
  (∀ (m : Fin 8) (word : Nat) (x : Combine) (s : State), x.word = word → (s.endp (8 + m.val)).combine = [x] →
     let c := hashChannel (8 * word)
     let e := 8 + m.val
     (x.closing = false → ((s.chan c).queues.get [] x.owner).length < 8 → ∃ t, exec (.combineEntryWrite m word) s = .next t ∧
       Reaches s t (x.opened + 100) ∧ (t.endp e).combine = [{ x with closing := true, outside := false }] ∧ t.lpddr = s.lpddr ∧
       (t.chan c).queues.get [] x.owner = (s.chan c).queues.get [] x.owner ++ [⟨.combineWrite word, t.now, none⟩]) ∧
     (x.closing = false → 8 ≤ ((s.chan c).queues.get [] x.owner).length → ∃ t, exec (.combineEntryWrite m word) s = .next t ∧
       Reaches s t (x.opened + 100) ∧ (t.endp e).combine = [{ x with closing := true, outside := true }] ∧ t.channels = s.channels) ∧
     (x.fetched = true → x.ready = false → s.lpddrErr = [] → ∃ t, exec (.combineOpenReadDone m word) s = .next t ∧ t.lpddr = s.lpddr ∧
       (t.endp e).combine = [{ x with value := BitVec.ofNat 64 (applyWaiting x.value.toNat x.waiting).1, ready := true, waiting := [] }]) ∧
     (∀ (ch : Fin 288) (n o j : Nat), ch.val / 36 = m.val → (s.chan ch.val).slotDone ≤ n → (s.endp e).inReset = false →
       (s.chan ch.val).st = .ready → s.slotOwner ch.val (n % 64) ≠ 0xFE → s.lpddrErr = [] →
       (s.slotRequest ch.val (s.slotOwner ch.val (n % 64)) (16 * n) = some (o, ⟨.opening word, j, none⟩) → x.fetched = false →
         ∃ t, exec (.channelSlot ch ⟨n, false⟩) s = .next t ∧ t.lpddr = s.lpddr ∧
           (t.endp e).combine = [{ x with fetched := true, value := BitVec.ofNat 64 (s.lpddr.readNat (8 * word) 8) }]) ∧
       (s.slotRequest ch.val (s.slotOwner ch.val (n % 64)) (16 * n) = some (o, ⟨.combineWrite word, j, none⟩) → x.closing = true →
         (x.fetched = true → x.ready = true → ∃ t, exec (.channelSlot ch ⟨n, false⟩) s = .next t ∧ (t.endp e).combine = [] ∧
           ∀ a, t.lpddr.byte a = (s.lpddr.write (8 * word) (bytesOf 8 x.value.toNat)).byte a) ∧
         (x.fetched = false → ∃ t, exec (.channelSlot ch ⟨n, false⟩) s = .next t ∧ (t.endp e).combine = [x] ∧ t.lpddr = s.lpddr))))

/-- The vault's turns (R322 to R326, R329, R350): the core phase of vault cycle n at bank b serves core (b + n) mod 256, idle where that
core is absent, asleep or in reset, and comes before the side phase of that cycle; what a core's read returns, and one delivery, go down
into the group's FIFO while that has room; the side phase serves one request of the class its rotation gives; a write of a whole lane puts
its bytes into the vault and nothing else. The model's own choices: assumptions 3, 5, 6, 64, 143. -/
def Obligations.VaultTurns : Prop :=
  ∀ (tw : Fin 8) (bank : Fin 512) (n : Nat) (s : State),
    let core : Fin 256 := ⟨(bank.val + n) % 256, Nat.mod_lt _ (by decide)⟩
    let k : CoreId := ⟨tw, core⟩
    let v := s.vault tw.val
    let at' := (4 * n + 4) / 5
    (∀ flips, n < v.coreDone.get 0 bank.val ∨ n < v.sideDone.get 0 bank.val → exec (.vaultCoreTurn tw bank ⟨n, flips⟩) s = .next s) ∧
    (v.coreDone.get 0 bank.val ≤ n → v.sideDone.get 0 bank.val ≤ n → (s.endp tw.val).inReset = false → (s.endp tw.val).disabled = false →
      (∀ flips, s.absent k = true ∨ s.coreAsleep k = true ∨ (s.core k).inReset = true → ∃ t, exec (.vaultCoreTurn tw bank ⟨n, flips⟩) s = .next t ∧
        Reaches s t at' ∧ t.vault tw.val = { v with coreDone := v.coreDone.set 0 bank.val (n + 1) } ∧ t.cores = s.cores ∧ t.ends = s.ends) ∧
      (∀ g, s.absent k = false → s.coreAsleep k = false → (s.core k).inReset = false → s.groupFor tw.val bank.val n = some g →
        (s.core k).up = [] →
        (∀ (r : VaultReq) (a : Nat) (bs : List Byte), v.down.get [] core.val = [] → v.coreReqs.get [] core.val = [r] →
          r.act = .write a bs → bs.length = 32 → vaultBank a = bank.val → r.ready ≤ at' →
          ∃ t, exec (.vaultCoreTurn tw bank ⟨n, []⟩) s = .next t ∧ Reaches s t at' ∧ (t.vault tw.val).mem = v.mem.write a bs ∧
            (t.vault tw.val).coreReqs.get [] core.val = [] ∧ t.lpddr = s.lpddr ∧ ∀ j, j ≠ tw.val → t.vault j = s.vault j) ∧
        (∀ (r : VaultReq) (a m : Nat), ((s.core k).bond.filter fun u => decide (u.1 = g)).length < 4 → v.down.get [] core.val = [] →
          v.coreReqs.get [] core.val = [r] → r.act = .read a m → a % 32 + m ≤ 32 → vaultBank a = bank.val → r.ready ≤ at' → v.err = [] →
          ∃ t, exec (.vaultCoreTurn tw bank ⟨n, []⟩) s = .next t ∧ Reaches s t at' ∧ (t.vault tw.val).mem = v.mem ∧
            (t.core k).bond = (s.core k).bond ++ [(g, .data r.txn r.pos (v.mem.read a m) none)] ∧
            (t.vault tw.val).coreReqs.get [] core.val = []) ∧
        (∀ (u : PortUnit) us flips, v.down.get [] core.val = u :: us → v.coreReqs.get [] core.val = [] →
          let room := ((s.core k).bond.filter fun u => decide (u.1 = g)).length < 4
          ∃ t, exec (.vaultCoreTurn tw bank ⟨n, flips⟩) s = .next t ∧ (t.vault tw.val).mem = v.mem ∧
            (room → (t.core k).bond = (s.core k).bond ++ [(g, .unit u)] ∧ (t.vault tw.val).down.get [] core.val = us) ∧
            (¬ room → (t.core k).bond = (s.core k).bond ∧ (t.vault tw.val).down.get [] core.val = u :: us)))) ∧
    (v.sideDone.get 0 bank.val ≤ n → (s.endp tw.val).disabled = false → (bank.val + n) % 8 < 7 →
      let q := if (bank.val + n) % 8 < 4 then 0 else 1
      (v.sideReqs.get [] q = [] → ∃ t, exec (.vaultSideTurn tw bank n) s = .next t ∧ Reaches s t at' ∧
        t.vault tw.val = { v with sideDone := v.sideDone.set 0 bank.val (n + 1) } ∧ t.ends = s.ends) ∧
      (∀ (r : VaultReq) (a : Nat) (bs : List Byte), v.sideReqs.get [] q = [r] → r.act = .write a bs → bs.length = 32 → vaultBank a = bank.val →
        r.ready ≤ at' → ∃ t, exec (.vaultSideTurn tw bank n) s = .next t ∧ Reaches s t at' ∧ (t.vault tw.val).mem = v.mem.write a bs ∧
          (t.vault tw.val).sideReqs.get [] q = [] ∧ t.lpddr = s.lpddr ∧ ∀ j, j ≠ tw.val → t.vault j = s.vault j))

/-- The cache part and the vertical bonds (R325, R327, R328, R332, R333): a fill whose data has come takes a way of its set, and its units
take inbound turns; with the last of them the way is valid. INVALIDATE empties the cache part at the next rotation boundary and changes no
byte of the vault. A bond whose bit was corrected in 8 of 16 lanes, or that failed the bond test, is marked, or retires its group when no
spare is left or two marks stand; a spare replaces the bond marked first; a group retires, and a tower with both groups of a pair retired
is disabled; a failed power-bond group disables its row. The model's own choices: assumptions 3, 5, 6. -/
def Obligations.CacheAndBonds : Prop :=
  (∀ (tw : Fin 8) (line : Nat) (f : Fill) (d : List Byte) (s : State), (s.vault tw.val).fills = [f] → f.line = line → f.data = some d →
    f.install = none → f.dropped = false → s.vaultSets tw.val ≠ 0 →
    ∃ t k, exec (.vaultFillInstall tw line) s = .next t ∧ k / 16 = line % s.vaultSets tw.val ∧
      (t.vault tw.val).fills = [{ f with install := some (k, (d.length + 31) / 32) }] ∧ (t.vault tw.val).ways.get ⟨false, 0, 0⟩ k = ⟨false, 0, 0⟩ ∧
      (∀ j, j ≠ k → (t.vault tw.val).ways.get ⟨false, 0, 0⟩ j = (s.vault tw.val).ways.get ⟨false, 0, 0⟩ j) ∧
      (t.vault tw.val).sideReqs.get [] 0 = (s.vault tw.val).sideReqs.get [] 0 ++
        (unitsOf (s.vaultDirect tw.val + 256 * k) d).map (fun u => ⟨0, 0, .fill u.1 u.2 line, s.now⟩) ∧
      (t.vault tw.val).mem = (s.vault tw.val).mem) ∧
  (∀ (tw : Fin 8) (bank : Fin 512) (n line k a : Nat) (f : Fill) (bs : List Byte) (r : VaultReq) (s : State),
    let v := s.vault tw.val
    v.sideDone.get 0 bank.val ≤ n → (s.endp tw.val).disabled = false → (bank.val + n) % 8 < 4 → v.sideReqs.get [] 0 = [r] →
    r.act = .fill a bs line → vaultBank a = bank.val → r.ready ≤ (4 * n + 4) / 5 → v.fills = [f] → f.line = line → f.install = some (k, 1) →
    f.dropped = false → f.waiting = [] → v.fillWait = [] →
    ∃ t, exec (.vaultSideTurn tw bank n) s = .next t ∧ (t.vault tw.val).fills = [] ∧ (t.vault tw.val).sideReqs.get [] 0 = [] ∧
      (t.vault tw.val).ways.get ⟨false, 0, 0⟩ k = ⟨true, line, t.now⟩ ∧ (t.vault tw.val).mem = v.mem.write a bs) ∧
  (∀ (tw : Fin 8) (s : State), ∃ t, exec (.vaultInvalidate tw) s = .next t ∧
    Reaches s t ((1024 * ((s.now * 5 + 1023) / 1024) + 4) / 5) ∧ (t.vault tw.val).ways = [] ∧ (∀ f ∈ (t.vault tw.val).fills, f.dropped = true) ∧
    (t.vault tw.val).mem = (s.vault tw.val).mem ∧ (t.vault tw.val).dirty = (s.vault tw.val).dirty ∧ bitOf (t.reg (endBlock tw.val)) 0 = false) ∧
  (∀ (tw : Fin 8) (group : Fin 512) (bond : Fin 288) (s : State),
    let g := (s.vault tw.val).bonds.get BondGroup.intact group.val
    let fails := bond.val ∈ g.tested ∨ 8 ≤ (g.recent.filter fun l => l.contains bond.val).length
    let seen := { g with tested := g.tested.filter (· ≠ bond.val), recent := g.recent.map fun (l : List Nat) => l.filter (· ≠ bond.val) }
    let becomes := fun (i : Instr) (g' : BondGroup) => ∃ t, exec i s = .next t ∧ (t.vault tw.val).bonds.get BondGroup.intact group.val = g' ∧
      (∀ h, h ≠ group.val → (t.vault tw.val).bonds.get BondGroup.intact h = (s.vault tw.val).bonds.get BondGroup.intact h) ∧
      (t.vault tw.val).mem = (s.vault tw.val).mem
    (¬ fails → exec (.bondFailed tw group bond) s = .next s) ∧
    (fails → g.retired = false → (∀ m ∈ g.marks, m.1 ≠ bond.val) →
      (g.spares + g.marks.length < 8 → g.marks.length < 2 →
        becomes (.bondFailed tw group bond) { seen with failed := bond.val :: g.failed, marks := g.marks ++ [(bond.val, s.now)] }) ∧
      (8 ≤ g.spares + g.marks.length ∨ 2 ≤ g.marks.length →
        becomes (.bondFailed tw group bond) { seen with failed := bond.val :: g.failed, retiring := true })) ∧
    (∀ b rest, g.marks = b :: rest → g.retired = false → g.spares < 8 →
      becomes (.bondSpareSteered tw group) { g with marks := rest, spares := g.spares + 1 }) ∧
    (g.retiring = true → g.retired = false → becomes (.bondGroupRetire tw group) { g with retired := true, retiring := false } ∧
      (((s.vault tw.val).bonds.get BondGroup.intact (group.val ^^^ 1)).retired = true →
        ∃ t, exec (.bondGroupRetire tw group) s = .next t ∧ (t.endp tw.val).disabled = true))) ∧
  (∀ (tw : Fin 8) (row : Fin 16) (s : State), bitOf (s.reg (endBlock tw.val + 0x30)) row.val = false →
    ∃ t, exec (.powerBondFailed tw row) s = .next t ∧ bitOf (t.reg (endBlock tw.val + 0x30)) row.val = true ∧
      ∀ c : Fin 256, c.val / 16 = row.val → (t.core ⟨tw, c⟩).disabled = true)

/-- The module's shutdown has latched: both VCORE feeds are off (R376). -/
def ShutDown (t : State) : Prop := t.power.thermal.shutdown = true ∧ t.power.feedA.st = .off ∧ t.power.feedB.st = .off

/-- The Bimetal model in model mode (R371 to R376): an evaluation falls on the next multiple of its period, takes the temperatures it was
given and the coolant inlet from THM_CTRL or as 50 °C (R372), moves k by R375 and shuts the module down at 115 °C and only there; a valid
diode at 118 °C shuts it down; a comparison beyond 10 °C enters conservative mode, one beyond 4 °C adapts the die; 60 s of small errors
leave it; 10 s without an inlet write clear INLET_VALID. The model's own choices: assumptions 3, 5, 6, 72, 73. -/
def Obligations.ThermalModel : Prop :=
  (∀ (temps : List NodeTemp) (s : State), s.power.thermal.conservative = false → s.power.thermal.shutdown = false →
    let k := s.power.thermal.steps
    let p := if s.power.thermal.fast then 10000 else 100000
    ∃ t, exec (.bimetalEvaluation temps) s = .next t ∧ Reaches s t ((s.marks.get 0 5 / p + 1) * p) ∧
      (∀ n, n ≠ 292 → (∀ x ∈ temps, x.node ≠ n) → t.power.thermal.temp n = s.power.thermal.temp n) ∧
      (∀ x, temps = [x] → x.node < 292 → t.power.thermal.temp x.node = x.temp) ∧
      t.power.thermal.temp 292 = 16 * (if bitOf (s.reg 0x1A000) 47 then min 100 (s.field 0x1A000 39 32) else 50 : Nat) ∧
      ((∃ n, n < 136 ∧ 1600 ≤ t.power.thermal.temp n) → (∀ r, s.power.thermal.rose = some r → r + 100000 ≤ t.now) → k < 32 →
        t.power.thermal.steps = k + 1) ∧
      ((∀ n, n < 136 → t.power.thermal.temp n ≤ 1552) → (∀ r, s.power.thermal.changed = some r → r + 1000000 ≤ t.now) → 0 < k →
        t.power.thermal.steps = k - 1) ∧
      ((∀ n, n < 136 → t.power.thermal.temp n < 1600) → (∃ n, n < 136 ∧ 1552 < t.power.thermal.temp n) → t.power.thermal.steps = k) ∧
      ((∃ n, n < 136 ∧ 1840 ≤ t.power.thermal.temp n) → ShutDown t ∧ t.field 0x1A008 62 61 = 1) ∧
      ((∀ n, n < 136 → t.power.thermal.temp n < 1840) → t.power.thermal.shutdown = false ∧ t.power.feedA = s.power.feedA ∧ t.power.feedB = s.power.feedB)) ∧
  (∀ (die : Fin 8) (s : State), s.power.thermal.shutdown = false →
    (∀ x : Int, 1888 ≤ x → x ≤ 2400 → ∃ t, exec (.diodeSample die x x x x) s = .next t ∧ ShutDown t ∧ t.field 0x1A008 62 61 = 2 ∧
      Reaches s t ((s.marks.get 0 (16 + die.val) / 10000 + 1) * 10000)) ∧
    (∀ a b c d : Int, a < 1888 → b < 1888 → c < 1888 → d < 1888 → s.power.thermal.conservative = false →
      ∃ t, exec (.diodeSample die a b c d) s = .next t ∧ t.power.feedA = s.power.feedA ∧ t.power.feedB = s.power.feedB ∧
        t.power.thermal.shutdown = false ∧ t.power.thermal.diodes.get none (4 * die.val) = some a ∧
        t.power.thermal.diodes.get none (4 * die.val + 3) = some d)) ∧
  (∀ (die : Fin 8) (x y : Int) (s : State), (∀ i, i < 4 → s.power.thermal.diodes.get none (4 * die.val + i) = some x) → -320 ≤ x → x ≤ 2400 →
    let e := (y - x).natAbs
    ∃ t, exec (.modelValidation die y y y y) s = .next t ∧ t.power.thermal.errMax.get 0 die.val = e ∧
      (160 < e → t.power.thermal.conservative = true ∧ t.field 0x1A008 7 0 = min (s.field 0x1A008 7 0 + 1) 255) ∧
      (e ≤ 160 → t.power.thermal.conservative = s.power.thermal.conservative ∧ t.reg 0x1A008 = s.reg 0x1A008) ∧
      (64 < e → e ≤ 160 → t.field (dieReg die.val) 15 8 = min (s.field (dieReg die.val) 15 8 + 1) 255 ∧
        (x < y → t.power.thermal.coefUp.get 0 die.val = s.power.thermal.coefUp.get 0 die.val + 1) ∧
        (y < x → t.power.thermal.coefDown.get 0 die.val = s.power.thermal.coefDown.get 0 die.val + 1)) ∧
      (e ≤ 64 → t.power.thermal.coefUp = s.power.thermal.coefUp ∧ t.power.thermal.coefDown = s.power.thermal.coefDown ∧ t.regs = s.regs)) ∧
  (∀ (at' : Nat) (s : State), s.power.thermal.smallSince = some at' → s.power.thermal.conservative = true →
    (bitOf (s.reg 0x1A000) 0 = false → ∃ t, exec .conservativeExit s = .next t ∧ t.power.thermal.conservative = false ∧ Reaches s t (at' + 60000000000)) ∧
    (bitOf (s.reg 0x1A000) 0 = true → exec .conservativeExit s = .next s)) ∧
  (∀ (at' : Nat) (s : State), s.power.thermal.inletAt = some at' → ∃ t, exec .inletTimeout s = .next t ∧ bitOf (t.reg 0x1A000) 47 = false ∧
    Reaches s t (at' + 10000000000) ∧ ∀ o, o ≠ 0x1A000 → t.reg o = s.reg o) ∧
  (∀ (tw : Fin 8) (s : State),
    (∃ t, exec (.ledgerDailyClose tw) s = .next t ∧ (t.vault tw.val).turning = [] ∧
      (t.vault tw.val).damage = (s.vault tw.val).damage + openRanges (s.vault tw.val).turning ∧ t.regs = s.regs) ∧
    ∃ t, exec (.ledgerDamageUpdate tw) s = .next t ∧
      let sum := min (s.field (endBlock tw.val + 0x100) 39 0 + (s.vault tw.val).damage / 800) (2 ^ 40 - 1)
      t.field (endBlock tw.val + 0x100) 39 0 = sum ∧ (t.vault tw.val).damage = (s.vault tw.val).damage % 800 ∧
      (35840000 ≤ sum → bitOf (t.reg (endBlock tw.val + 0x100)) 63 = true))

/-- Droop, stretch windows and the ladder (R351, R352, R360, R361): a row that sees a droop stretches, its neighbours one core cycle
later; a window with more than 1 in 16 stretched cycles sets OVER_BUDGET and limits the point; the governor announces one step down at
once and one up after 1 ms, E being the first multiple of 1,024 ns at least 10 microseconds on; the check cancels where a PLL is not
locked, a feed lies 5 mV off or a ceiling has fallen; at E every region moves. The model's own choices: assumptions 3, 5, 6, 74. -/
def Obligations.ClockLadder : Prop :=
  (∀ (tw : Fin 8) (rows : BitVec 16) (s : State), ∃ t, exec (.droopStretch tw rows) s = .next t ∧ t.now = s.now ∧
    let up := fun (r : Nat) => !bitOf (s.reg (endBlock tw.val + 0x208)) r && !bitOf (s.reg (endBlock tw.val + 0x208)) 32
    let own := fun (r : Nat) => rows.getLsbD r && up r
    ∀ row : Fin 16,
      let hit := (rows.getLsbD row.val || (s.power.ladder.asked.get 0 tw.val).testBit row.val) && up row.val
      (t.power.ladder.asked.get 0 tw.val).testBit row.val = (decide (0 < row.val) && own (row.val - 1) || own (row.val + 1)) ∧
      t.power.ladder.stretched.get 0 (tw.val * 16 + row.val) = s.power.ladder.stretched.get 0 (tw.val * 16 + row.val) + (if hit then 1 else 0) ∧
      ∀ c : Fin 256, c.val / 16 = row.val → s.coreAsleep ⟨tw, c⟩ = false → s.absent ⟨tw, c⟩ = false →
        (t.core ⟨tw, c⟩).cycle = (s.core ⟨tw, c⟩).cycle + (if hit then 1 else 0)) ∧
  (∀ (tw : Fin 8) (row : Fin 16) (s : State),
    let n := s.power.ladder.stretched.get 0 (tw.val * 16 + row.val)
    s.power.ladder.point ≤ 22 → ∃ t, exec (.stretchWindowEnd tw row) s = .next t ∧
      let late := min 1000 (t.now - s.power.ladder.lastEpoch)
      let steep := (pointMhz s.power.ladder.point * late + pointMhz s.power.ladder.before * (1000 - late)) / 1000 - n < 16 * n
      t.power.ladder.stretched.get 0 (tw.val * 16 + row.val) = 0 ∧
      Reaches s t ((s.marks.get 0 (128 + 16 * tw.val + row.val) / 1000 + 1) * 1000) ∧
      (steep → bitOf (t.reg (endBlock tw.val + 0x208)) (48 + row.val) = true ∧
        t.power.ladder.stretch = some (s.power.ladder.point - 1, t.now, t.now)) ∧
      (¬ steep → t.regs = s.regs ∧ t.power.ladder.stretch = s.power.ladder.stretch)) ∧
  (∀ (a w x : Nat) (s : State),
    let l := s.power.ladder
    let m := (lowest (s.limits a w x)).1
    let e := (s.now + 10000 + 1023) / 1024 * 1024
    (s.feedCeiling = none → exec (.governorEvaluate a w x) s = .next s) ∧
    (s.feedCeiling ≠ none → l.stretch = none → l.change = none →
      (m < l.point → ∃ t, exec (.governorEvaluate a w x) s = .next t ∧ t.power.ladder.target = m ∧ t.power.ladder.setMv = l.setMv ∧
        t.power.ladder.change = some ⟨l.point - 1, e, false, s.ceilings, false⟩ ∧ t.power.ladder.point = l.point) ∧
      (m = l.point → ∃ t, exec (.governorEvaluate a w x) s = .next t ∧ t.power.ladder.target = m ∧ t.power.ladder.change = none ∧
        t.power.ladder.point = l.point) ∧
      (∀ u, l.point < m → l.upSince = some u →
        (u + 1000000 ≤ s.now → ∃ t, exec (.governorEvaluate a w x) s = .next t ∧ t.power.ladder.change = some ⟨l.point + 1, e, false, s.ceilings, false⟩ ∧
          t.power.ladder.setMv = pointMv (l.point + 1) ∧ t.power.ladder.point = l.point) ∧
        (s.now < u + 1000000 → ∃ t, exec (.governorEvaluate a w x) s = .next t ∧ t.power.ladder.change = none ∧ t.power.ladder.setMv = l.setMv)))) ∧
  (∀ (c : PointChange) (s : State), s.power.ladder.change = some c →
    (c.checked = false → ∃ t, exec (.freqChangeCheck false) s = .next t ∧ Reaches s t (c.epoch - 2000) ∧ t.power.ladder.change = none ∧
      t.power.ladder.setMv = pointMv s.power.ladder.point ∧ t.power.ladder.point = s.power.ladder.point) ∧
    (c.checked = false → c.point ≤ s.power.ladder.point → ∃ t, exec (.freqChangeCheck true) s = .next t ∧
      t.power.ladder.change = some { c with checked := true } ∧ t.power.ladder.point = s.power.ladder.point) ∧
    (c.checked = false → s.power.ladder.point < c.point →
      let near := fun (f : Feed) => f.st ≠ .active ∨ apart f.mv (pointMv c.point) ≤ 5
      let fell := c.fell = true ∨ ∃ x ∈ s.ceilings.zip c.ceilings, x.1 < x.2
      (¬ near s.power.feedA ∨ ¬ near s.power.feedB ∨ fell → ∃ t, exec (.freqChangeCheck true) s = .next t ∧
        t.power.ladder.change = none ∧ t.power.ladder.point = s.power.ladder.point ∧ t.power.ladder.setMv = pointMv s.power.ladder.point) ∧
      (near s.power.feedA → near s.power.feedB → ¬ fell → ∃ t, exec (.freqChangeCheck true) s = .next t ∧
        t.power.ladder.change = some { c with checked := true } ∧ t.power.ladder.point = s.power.ladder.point)) ∧
    (c.checked = true → ∃ t, exec .freqChangeEpoch s = .next t ∧ Reaches s t c.epoch ∧ t.power.ladder.point = c.point ∧
      t.power.ladder.change = none ∧ t.power.ladder.setMv = pointMv c.point))

/-- Constantan time (R353 to R359, R468, R539): a frame falls on the next multiple of 1,024 ns, and a plane an endpoint loses is retired
with CAUSE 0x03; a time flit carries the sender's time; a follower takes its offset from its upstream, steps only while IDLE beyond 1
microsecond, and is unlocked beyond 5 ns or after 100 ms; TIME_SET steps only a module that leads and is IDLE; an endpoint blind for 10
microseconds is reset; the loss of REFCLK is counted and moves no time. A time flit has the fields of R356 in their bits. The model's own
choices: assumptions 3, 5, 6, 73, 78. -/
def Obligations.ConstantanTime : Prop :=
  (∀ s : State,
    (∃ t, exec (.timeFrame []) s = .next t ∧ Reaches s t ((s.marks.get 0 1 / 1024 + 1) * 1024) ∧ t.planes = s.planes ∧ t.regs = s.regs) ∧
    ∀ x : LostLine, s.lit x.plane.val = true → s.plane x.plane.val ≠ .retired → ∃ t, exec (.timeFrame [x]) s = .next t ∧
      t.plane x.plane.val = .retired ∧ (t.reg (0x14100 + 8 * x.plane.val)).field 55 48 = 3) ∧
  (∀ (pair : Fin 24) (s : State),
    (s.lit (16 + pair.val) = false ∨ s.timeLane pair.val = none → exec (.timeFlitSend pair) s = .next s) ∧
    (∀ k, s.lit (16 + pair.val) = true → s.timeLane pair.val = some k → ∃ t f, exec (.timeFlitSend pair) s = .next t ∧
      t.power.time.sent.get none pair.val = some f ∧ t.power.time.sentOn.get 0 pair.val = k + 1 ∧ f.tTx = t.now % 2 ^ 64 ∧
      f.src.val = pair.val / 4 ∧ f.fibre.val = pair.val % 4 ∧ f.srcModule = s.moduleId ∧ f.locked = s.timeLocked ∧ (s.timeRole ≠ 2 → f.stratum = 0))) ∧
  (∀ (pair : Fin 24) (f : TimeFlit) (ppm : Fin 51) (s : State),
    let θ : Int := ((((s.now % 2 ^ 64 : Nat) : Int) - f.tTx) - ((f.echoRx : Int) - f.echoTx)) / 2
    (s.timeRole ≠ 2 → ∃ t, exec (.timeFlitReceived pair f ppm) s = .next t ∧ t.now = s.now ∧ t.regs = s.regs ∧
      t.power.time.theta = s.power.time.theta ∧ t.power.time.locked = s.power.time.locked) ∧
    (s.timeRole = 2 → s.power.time.heard = [] → f.locked = true → f.stratum < 14 → f.echoTx ≠ 0 →
      ∃ t, exec (.timeFlitReceived pair f ppm) s = .next t ∧ t.power.time.theta = θ ∧ t.power.time.source = pair.val ∧
        t.power.time.stratum = f.stratum + 1 ∧ (5 < θ.natAbs → t.power.time.locked = false) ∧
        (θ.natAbs ≤ 4 → s.power.time.good = 15 → t.power.time.locked = true) ∧
        (s.jobState ≠ 0 ∨ θ.natAbs ≤ 1000 → t.now = s.now ∧ t.regs = s.regs ∧
          t.power.time.steer = if θ = 0 then 0 else if 0 < θ then -(ppm.val : Int) else ppm.val) ∧
        (s.jobState = 0 → 1000 < θ.natAbs → t.now = ((s.now : Int) - θ).toNat ∧ t.field 0x10418 47 32 = (s.field 0x10418 47 32 + 1) % 65536))) ∧
  (∀ (at' : Nat) (s : State), s.timeRole = 2 → s.power.time.lastMeasure = some at' → ∃ t, exec .followerLockTimeout s = .next t ∧
    t.power.time.locked = false ∧ Reaches s t (at' + 100000000)) ∧
  (∀ (v : Word) (s : State),
    (s.timeRole ≠ 2 → s.jobState = 0 → ∃ t, exec (.timeSet v) s = .next t ∧ t.now = s.now - s.now % 2 ^ 64 + v.toNat ∧
      t.field 0x10418 47 32 = (s.field 0x10418 47 32 + 1) % 65536) ∧
    (s.timeRole = 2 ∨ s.jobState ≠ 0 → ∃ t, exec (.timeSet v) s = .next t ∧ t.now = s.now ∧ bitOf (t.reg 0x10418) 62 = true)) ∧
  (∀ (e : Endpoint) (at' : Nat) (s : State), s.power.time.blind.get none e.val = some at' → s.mod.blind.get none e.val = none → s.resetReqs = [] →
    ∃ t, exec (.lambda24Lost e) s = .next t ∧ Reaches s t (at' + 10000) ∧
      t.resetReqs = [⟨if e.val < 8 then 4 else 5, e.val, 0x0500, t.now⟩]) ∧
  (∀ s : State,
    (s.power.refLost = none → s.power.refSeen = true → ∃ t, exec .refclkLost s = .next t ∧ t.power.refLost = some s.now ∧ t.now = s.now ∧
      t.field 0x100A0 23 16 = min (s.field 0x100A0 23 16 + 1) 255 ∧ t.hwFault = s.hwFault) ∧
    ∃ t, exec .refclkRestored s = .next t ∧ t.power.refLost = none ∧ t.power.refSeen = true ∧ t.now = s.now ∧ t.regs = s.regs) ∧
  (∀ f : TimeFlit, f.stratum < 16 → f.srcModule < 1024 → HeadHas f.head [(0, 8, 0xC2), (8, 5, 16 + f.src.val), (13, 2, f.fibre.val),
    (15, 1, if f.locked then 1 else 0), (16, 4, f.stratum), (20, 10, f.srcModule), (30, 34, 0), (64, 64, f.tTx % 2 ^ 64), (128, 64, f.echoTx % 2 ^ 64),
    (192, 64, f.echoRx % 2 ^ 64)])

/-- Row sleep and tower deep (R67, R69, R362): a row sleeps, and a die goes deep and keeps nothing, only while every thread of it is
STOPPED or FAULTED, and is otherwise refused; a row wakes in 20 microseconds and a die in 200. Nap (R67, R68, R72): an awake core with no
thread RUNNING or READY naps once it has been idle for NAP_DELAY microseconds, a delay of 0 acting as 1; 2 microseconds after its wake
started the first READY thread after the one that ran last takes it. The model's own choices: assumptions 3, 5, 76, 104. -/
def Obligations.RowSleepTowerDeep : Prop :=
  (∀ (tw : Fin 8) (row : Fin 16) (s : State),
     let ctrl := endBlock tw.val + 0x200
     let status := endBlock tw.val + 0x208
     let stopped := fun (c : Fin 256) => ∀ u, ((s.core ⟨tw, c⟩).th u).st = .stopped ∨ ((s.core ⟨tw, c⟩).th u).st = .faulted
     ((∀ c : Fin 256, c.val / 16 = row.val → stopped c) → ∃ t, exec (.rowSleepRequest tw row) s = .next t ∧ t.cores = s.cores ∧
       bitOf (t.reg ctrl) row.val = true ∧ bitOf (t.reg status) row.val = true ∧
       ∀ c : Fin 256, c.val / 16 = row.val → t.coreAsleep ⟨tw, c⟩ = true) ∧
     ((∃ c : Fin 256, c.val / 16 = row.val ∧ ¬ stopped c) → ∃ t, exec (.rowSleepRequest tw row) s = .next t ∧ t.cores = s.cores ∧
       bitOf (t.reg ctrl) row.val = false ∧ bitOf (t.reg status) (16 + row.val) = true ∧
       bitOf (t.reg status) row.val = bitOf (s.reg status) row.val) ∧
     (bitOf (s.reg status) row.val = true → s.power.ladder.waking.get none (17 * tw.val + row.val) = none →
       ∃ t, exec (.rowWakeRequest tw row) s = .next t ∧ bitOf (t.reg ctrl) row.val = false ∧ bitOf (t.reg status) row.val = true ∧
         t.power.ladder.waking.get none (17 * tw.val + row.val) = some s.now) ∧
     (∀ w, s.power.ladder.waking.get none (17 * tw.val + row.val) = some w → ∃ t, exec (.rowWakeDone tw row) s = .next t ∧
       Reaches s t (w + 20000) ∧ bitOf (t.reg status) row.val = false ∧ t.power.ladder.waking.get none (17 * tw.val + row.val) = none) ∧
     ((∀ c, stopped c) → ∃ t, exec (.towerDeepRequest tw) s = .next t ∧ bitOf (t.reg ctrl) 16 = true ∧ bitOf (t.reg status) 32 = true ∧
       (t.vault tw.val).mem = (s.vault tw.val).mem ∧
       ∀ c : Fin 256, (t.core ⟨tw, c⟩).spad = [] ∧ ∀ u, (t.core ⟨tw, c⟩).th u = Thread.reset) ∧
     ((∃ c, ¬ stopped c) → ∃ t, exec (.towerDeepRequest tw) s = .next t ∧ t.cores = s.cores ∧ bitOf (t.reg ctrl) 16 = false ∧
       t.field status 31 16 = 0xFFFF) ∧
     (bitOf (s.reg status) 32 = true → s.power.ladder.waking.get none (17 * tw.val + 16) = none →
       ∃ t, exec (.towerDeepWakeRequest tw) s = .next t ∧ bitOf (t.reg ctrl) 16 = false ∧
         t.power.ladder.waking.get none (17 * tw.val + 16) = some s.now) ∧
     (∀ w, s.power.ladder.waking.get none (17 * tw.val + 16) = some w → ∃ t, exec (.towerDeepWakeDone tw) s = .next t ∧
       Reaches s t (w + 200000) ∧ bitOf (t.reg status) 32 = false)) ∧
  (∀ (k : CoreId) (s : State),
     ((s.core k).sleep = .awake → (s.core k).idle = true → bitOf (s.reg (coreBlock k + 8)) 8 = true → s.coreAsleep k = false →
       s.absent k = false → (s.core k).inReset = false →
       ∃ t, exec (.coreNapEnter k) s = .next t ∧ (t.core k).sleep = .nap ∧
         Reaches s t ((s.core k).idleSince + 1000 * max 1 (s.field (coreBlock k + 8) 25 16)) ∧
         (∀ u, (t.core k).th u = (s.core k).th u) ∧ (t.core k).spad = (s.core k).spad) ∧
     (∀ ready, (s.core k).sleep = .waking ready → (s.core k).running? = none →
       ∃ t, exec (.coreNapWakeDone k) s = .next t ∧ (t.core k).sleep = .awake ∧ Reaches s t ready ∧
         (∀ u, nextAfter (s.core k).ranLast (fun v => decide (((s.core k).th v).st = .ready)) = some u →
           ((t.core k).th u).st = .running ∧ (t.core k).ranLast = u) ∧ (t.core k).spad = (s.core k).spad))

/-- The feeds (R364 to R367, R426, R529, R531, R534): a VCORE feed more than 25 mV off for 20 microseconds fails, and one within bounds
goes on; a reported fault fails it at once; after 10 s without a fault it is in TRIAL, after 1 ms of that ACTIVE; UNLATCH returns a
LATCHED feed to FAILED; a VAUX feed out of range is disconnected while the other is good, and comes back after 10 s, the other staying
connected unless it is FAILED; with both gone the module stops; a voltage outside the absolute maxima has no behaviour. The model's own
choices: assumptions 3, 5, 6, 75, 77, 79. -/
def Obligations.PowerFeeds : Prop :=
  (∀ (a b x y : Nat) (s : State), 950 < a ∨ 950 < b → exec (.feedSense a b x y) s = .fault .outsideAbsoluteMaximum) ∧
  (∀ (a b x m : Nat) (s : State), s.power.feedA.st = .active → s.power.feedB.st = .active → s.power.ladder.setMv = m → a ≤ 950 → b ≤ 950 →
    let due := (s.marks.get 0 2 / 1000 + 1) * 1000
    (apart a m ≤ 25 → apart b m ≤ 25 → ∃ t, exec (.feedSense a b x x) s = .next t ∧ Reaches s t due ∧ t.power.feedA.st = .active ∧
      t.power.feedB.st = .active ∧ t.power.feedA.mv = a ∧ t.power.feedB.mv = b) ∧
    (∀ since, 25 < apart a m → b = m → s.power.feedA.voltSince = some since → since + 20000 ≤ max s.now due → s.power.feedA.readmitted = none →
      ∃ t, exec (.feedSense a b x x) s = .next t ∧ t.power.feedA.st = .failed ∧ t.power.feedA.cause = 1 ∧ t.power.feedB.st = .active)) ∧
  (∀ (b : Bool) (r : StatusRead) (s : State), (s.feed b).st = .active → (s.feed (!b)).st = .active → r.answered = true →
    (r.fault = true → (s.feed b).readmitted = none →
      (∃ t, exec (.smbalert b r) s = .next t ∧ (t.feed b).st = .failed ∧ (t.feed b).cause = 3 ∧ (t.feed (!b)) = s.feed (!b)) ∧
      ∃ t, exec (.pmbusPeriodicRead b r) s = .next t ∧ (t.feed b).st = .failed ∧ (t.feed b).cause = 3) ∧
    (r.fault = false → r.off = false →
      (∃ t, exec (.smbalert b r) s = .next t ∧ (t.feed b).st = .active ∧ (t.feed b).silent = 0 ∧ t.now = s.now) ∧
      ∃ t, exec (.pmbusPeriodicRead b r) s = .next t ∧ (t.feed b).st = .active ∧
        Reaches s t ((s.marks.get 0 (if b then 4 else 3) / 10000000 + 1) * 10000000))) ∧
  (∀ (b : Bool) (r : StatusRead) (at' : Nat) (s : State),
    ((s.feed b).clearSince = some at' → (s.feed b).st = .failed → s.power.thermal.shutdown = false →
      (r.answered = true → r.fault = false → r.input = true → ∃ t, exec (.feedTrialStart b r) s = .next t ∧ (t.feed b).st = .trial ∧
        Reaches s t (at' + 10000000000)) ∧
      (r.answered = true → r.fault = true → ∃ t, exec (.feedTrialStart b r) s = .next t ∧ (t.feed b).st = .failed ∧ (t.feed b).fault = true)) ∧
    ((s.feed b).trialSince = some at' → (s.feed b).st = .trial → ∃ t, exec (.feedTrialPass b) s = .next t ∧ (t.feed b).st = .active ∧
      Reaches s t (at' + 1000000))) ∧
  (∀ s : State,
    (s.power.feedA.st = .latched → ∃ t, exec .unlatchA s = .next t ∧ t.power.feedA.st = .failed ∧ t.power.feedB = s.power.feedB) ∧
    (s.power.feedB.st = .latched → ∃ t, exec .unlatchB s = .next t ∧ t.power.feedB.st = .failed ∧ t.power.feedA = s.power.feedA) ∧
    (s.power.feedA.st ≠ .latched → exec .unlatchA s = .next s)) ∧
  (∀ (b : Bool) (mv : Nat) (s : State),
    (15000 < mv → exec (.vauxFeedFail b mv) s = .fault .outsideAbsoluteMaximum ∧ exec (.vauxFeedReconnect b mv) s = .fault .outsideAbsoluteMaximum) ∧
    (mv < 10800 ∨ (13200 < mv ∧ mv ≤ 15000) → (s.vaux b).failed = false →
      ((s.vaux (!b)).failed = false → ∃ t, exec (.vauxFeedFail b mv) s = .next t ∧ (t.vaux b).failed = true ∧ (t.vaux b).connected = false ∧
        t.vaux (!b) = s.vaux (!b) ∧ t.power.ladder = s.power.ladder) ∧
      ((s.vaux (!b)).failed = true → ∃ t, exec (.vauxFeedFail b mv) s = .next t ∧ (t.vaux b).failed = true ∧ (t.vaux b).connected = true ∧
        (t.vaux (!b)).connected = true)) ∧
    (mv < 10800 ∨ (13200 < mv ∧ mv ≤ 15000) → (s.vaux b).failed = true → ∃ t, exec (.vauxFeedFail b mv) s = .next t ∧ (t.vaux b).failed = true ∧
      (t.vaux b).failedAt = s.now ∧ (t.vaux b).connected = (s.vaux b).connected ∧ t.vaux (!b) = s.vaux (!b)) ∧
    (10800 ≤ mv → mv ≤ 13200 → (s.vaux b).failed = true → ∃ t, exec (.vauxFeedReconnect b mv) s = .next t ∧ (t.vaux b).failed = false ∧
      (t.vaux b).connected = true ∧ (t.vaux (!b)).connected = ((s.vaux (!b)).connected && !(s.vaux (!b)).failed) ∧
      Reaches s t ((s.vaux b).failedAt + 10000000000)) ∧
    (mv < 10000 → (s.vaux (!b)).connected = false → 10000 ≤ (s.vaux (!b)).mv → ∃ t, exec (.vauxInputBelow10v b mv) s = .next t ∧
      (t.vaux (!b)).connected = true)) ∧
  (∀ (a b : Nat) (s : State), a ≤ 15000 → b ≤ 15000 →
    (s.power.on = false → 10800 ≤ a → a ≤ 13200 → ∃ t, exec (.vauxGood a b) s = .next t ∧ t.power.on = true ∧ t.now = 0 ∧
      t.power.vauxA.connected = true ∧ t.power.vauxA.failed = false) ∧
    (s.power.on = true → a < 10000 → b < 10000 → ∃ t, exec (.vauxLoss a b) s = .next t ∧ t.power.on = false ∧ t.lpddr = [] ∧ t.csram = [] ∧
      t.cores = [] ∧ t.serial = s.serial ∧ t.mod.start.banks = s.mod.start.banks))

/-- A job's life (R206, R221 to R226): ENABLE by a host port in IDLE latches the package and starts the check, and is refused with the
code of the first row that holds; outside IDLE it is IGNORED; a package that passes is loaded; loading puts every enabled core's threads
at their entry points and names S, the first multiple of 1,024 ns at least 20 microseconds on; at S the tables take effect and the started
threads are READY; END stops the job, and once it is quiet the idle tables return at the next frame boundary. Expert moves (R200, R201,
R229): a host port's command is decided while RUNNING with no move pending and a place the entry names, and is otherwise IGNORED; the
oldest decided move runs, counted in MOVES, its new word in every enabled tower's placement status. The model's own choices: assumptions
3, 5, 30, 80, 81, 82, 129, 130. -/
def Obligations.JobLifecycle : Prop :=
  (∀ (p : Port) (s : State),
    let len := s.field 0x10818 23 0
    let refused := fun (code : Nat) => ∃ t, exec (.jobEnable p) s = .next t ∧ t.jobState = 0 ∧ t.field 0x10808 39 32 = code ∧ t.mod.job.latch = none
    (s.jobState ≠ 0 → ∃ t, exec (.jobEnable p) s = .next t ∧ bitOf (t.reg 0x10808) 40 = true ∧ t.jobState = s.jobState ∧ t.mod.job = s.mod.job) ∧
    (s.jobState = 0 → Port.isHost p = false → refused 0x52) ∧
    (s.jobState = 0 → Port.isHost p = true →
      (s.mod.pair.role = 2 → refused 0x55) ∧
      (s.mod.pair.role ≠ 2 → bitOf (s.reg 0x10010) 63 = true → refused 0x54) ∧
      (s.mod.pair.role ≠ 2 → bitOf (s.reg 0x10010) 63 = false → len < 512 ∨ 0x800000 < len → refused 0x30) ∧
      (s.mod.pair.role ≠ 2 → bitOf (s.reg 0x10010) 63 = false → 512 ≤ len → len ≤ 0x800000 → ∃ t l, exec (.jobEnable p) s = .next t ∧ t.jobState = 1 ∧
        t.mod.job.latch = some l ∧ l.len = len ∧ l.addr = s.field 0x10810 40 8 * 256 ∧ l.digest = (List.range 4).map fun n => s.reg (0x10840 + 8 * n)))) ∧
  (∀ (l : JobLatch) (s : State), s.mod.job.latch = some l → s.jobState = 1 →
    (∀ i, s.badLine l.addr l.len = some i → ∃ t, exec .jobPackageCopied s = .next t ∧ t.jobState = 0 ∧ t.field 0x10808 39 32 = 0x50 ∧
      t.field 0x10820 31 0 = 256 * i % 2 ^ 32) ∧
    (∀ code f, s.badLine l.addr l.len = none → s.jobCheck (s.hashedLines l.addr l.len) l.bytes = some (code, f) →
      ∃ t, exec .jobPackageCopied s = .next t ∧ t.jobState = 0 ∧ t.field 0x10808 39 32 = code % 256 ∧ t.field 0x10820 47 40 = f.sect % 256 ∧
        t.field 0x10820 31 0 = f.entry % 2 ^ 32) ∧
    (s.badLine l.addr l.len = none → s.jobCheck (s.hashedLines l.addr l.len) l.bytes = none →
      ∃ t, exec .jobPackageCopied s = .next t ∧ t.jobState = 2 ∧ t.mod.job.buffer = s.hashedLines l.addr l.len ∧ t.field 0x10808 39 32 = 0)) ∧
  (∀ s : State, s.jobState = 2 → (∀ k, s.coreAsleep k = false) → ∃ t, exec .jobLoadDone s = .next t ∧ t.jobState = 3 ∧
    t.mod.job.live = s.mod.job.buffer ∧ t.mod.job.start = some ((s.now + 20000 + 1023) / 1024 * 1024) ∧
    t.power.ladder.jobPoint = some (pkgClockPoint s.mod.job.buffer) ∧ t.reg 0x10838 = BitVec.ofNat 64 (pkgTag s.mod.job.buffer) ∧
    ∀ k : CoreId, s.coreEnabled k.tower.val k.core.val = true → ∀ u, (t.core k).th u =
      { Thread.reset with pc := BitVec.ofNat 13 (corePc s.mod.job.buffer k.index u.val) }) ∧
  (∀ (S : Nat) (s : State), s.jobState = 3 → s.mod.job.start = some S → ∃ t, exec .jobStart s = .next t ∧ Reaches s t S ∧ t.jobState = 4 ∧
    t.landing.isSome = true ∧ t.chanTable.isSome = true ∧ t.reg 0x10828 = BitVec.ofNat 64 S ∧
    ∀ (k : CoreId) (u : Fin 8), s.coreEnabled k.tower.val k.core.val = true → coreStart s.mod.job.live k.index u.val = true →
      ((t.core k).th u).st = .ready ∨ ((t.core k).th u).st = .running) ∧
  (∀ (p : Port) (s : State),
    (Port.isHost p = true → s.jobState = 3 ∨ s.jobState = 4 → ∃ t, exec (.jobEnd p) s = .next t ∧ t.jobState = 5 ∧ t.mod.job.moves = [] ∧
      ∀ k u, ((s.core k).th u).st ≠ .running → ((t.core k).th u).st = .stopped ∨ ((t.core k).th u).st = .faulted) ∧
    (Port.isHost p = true → s.jobState ≠ 3 → s.jobState ≠ 4 → ∃ t, exec (.jobEnd p) s = .next t ∧ bitOf (t.reg 0x10808) 40 = true ∧
      t.jobState = s.jobState ∧ t.cores = s.cores) ∧
    (Port.isHost p = false → ∃ t, exec (.jobEnd p) s = .next t ∧ t.regs = s.regs ∧ t.cores = s.cores)) ∧
  (∀ s : State, s.jobState = 5 → s.jobQuiet = true → ∃ t, exec .jobEndComplete s = .next t ∧ t.jobState = 0 ∧ t.landing = none ∧
    t.chanTable = none ∧ Reaches s t ((s.now + 1023) / 1024 * 1024)) ∧
  (∀ (p : Port) (index : BitVec 32) (s : State), ∀ q ∈ ([(.expertMoveHome, 0), (.expertMoveAlt, 1), (.expertMoveNowhere, 2)] :
      List ((Port → BitVec 32 → Instr) × Nat)),
    let may := s.mod.job.moves = [] ∧ s.jobState = 4 ∧ index.toNat < secCount s.mod.job.live 3 ∧
      s.moveTarget (placeAt s.mod.job.live index.toNat) q.2 = true
    (Port.isHost p = true → may → ∃ t, exec (q.1 p index) s = .next t ∧ t.mod.job.moves = [⟨index.toNat, q.2, s.now⟩] ∧ t.regs = s.regs) ∧
    (Port.isHost p = true → ¬ may → ∃ t, exec (q.1 p index) s = .next t ∧ t.mod.job = s.mod.job ∧ bitOf (t.reg 0x10808) 40 = true) ∧
    (Port.isHost p = false → ∃ t, exec (q.1 p index) s = .next t ∧ t.mod.job = s.mod.job ∧ t.regs = s.regs)) ∧
  (∀ (m : Move) rest (s : State), s.mod.job.moves = m :: rest → m.place < 2 ^ 32 → (∀ i, i < 8 → (s.vault i).err = []) →
    ∃ t, exec .expertMoveRun s = .next t ∧ t.mod.job.moves = rest ∧ t.mod.job.places.get 0 m.entry = m.place ∧
      t.field 0x10808 31 16 = (s.field 0x10808 31 16 + 1) % 65536 ∧
      ∀ i, i < 8 → (s.endp i).disabled = false →
        (t.vault i).mem.readNat (pkgPstat s.mod.job.live + 8 * m.entry) 8 = (s.mod.job.moved.get 0 m.entry + 1) % 2 ^ 32 * 2 ^ 32 + m.place)

/-- The module register space (R18 to R20, R393, R405, R407): a 64-bit read returns the register and clears its RC fields; a read of the
low half latches the high one for its path, which a later read of the high half returns; an unaligned or narrow access reads 0, has no
other effect and is counted; a write by a port that may not is DENIED; a permitted one writes the RW bits it covers; MODULE changes in
IDLE only. The model's own choices: assumptions 12, 60, 90. -/
def Obligations.Registers : Prop :=
  (∀ (p : Port) (off : BitVec 24) (s : State), off.toNat % 8 = 0 →
    let o := off.toNat
    let path := Port.path p
    (∃ t, exec (.registerReadClear p off) s = .next t ∧ t.mod.ports.answers.get none path = some (s.readWord p o) ∧
      (∀ r, Reg.at? o = some r → s.readable o = true → t.reg o = s.reg o &&& ~~~ r.mask fun f => decide (f.acc = .rc)) ∧
      ∀ o', o' ≠ o → t.reg o' = s.reg o') ∧
    (∃ t, exec (.regReadLowHalf p off) s = .next t ∧
      t.mod.ports.answers.get none path = some (((s.readWord p o).extractLsb' 0 32).setWidth 64) ∧
      t.latchOf p o = some (o, (s.readWord p o).extractLsb' 32 32) ∧
      (∀ r, Reg.at? o = some r → s.readable o = true →
        t.reg o = s.reg o &&& ~~~ r.mask fun f => decide (f.acc = .rc) && decide (f.hi < 32)) ∧ ∀ o', o' ≠ o → t.reg o' = s.reg o') ∧
    (∀ v, s.latchOf p o = some (o, v) → ∃ t, exec (.regReadHighHalf p off) s = .next t ∧
      t.mod.ports.answers.get none path = some (v.setWidth 64) ∧ t.latchOf p o = none ∧ ∀ o', o' ≠ o → t.reg o' = s.reg o') ∧
    ((∀ v, s.latchOf p o ≠ some (o, v)) → ∃ t, exec (.regReadHighHalf p off) s = .next t ∧ t.latchOf p o = s.latchOf p o ∧
      t.mod.ports.answers.get none path = some (((s.readWord p o).extractLsb' 32 32).setWidth 64) ∧ ∀ o', o' ≠ o → t.reg o' = s.reg o')) ∧
  (∀ (p : Port) (off : BitVec 24) (part : Part) (w : Word) (s : State), off.toNat % 8 ≠ 0 →
    let counted := fun (t : State) => t.field 0x1000 63 48 = min (s.field 0x1000 63 48 + 1) 65535 ∧ ∀ o, o ≠ 0x1000 → t.reg o = s.reg o
    (∃ t, exec (.registerWrite p off part w) s = .next t ∧ counted t ∧ t.mod.ports = s.mod.ports) ∧
    ∀ i ∈ ([.registerReadClear p off, .regReadLowHalf p off, .regReadHighHalf p off] : List Instr), ∃ t, exec i s = .next t ∧ counted t ∧
      t.mod.ports.answers.get none (Port.path p) = some 0 ∧ t.mod.ports.latches = s.mod.ports.latches) ∧
  (∀ (p : Port) (s : State),
    let path := Port.path p
    (∃ t, exec (.regAccessNarrow p true) s = .next t ∧ t.mod.ports.answers.get none path = some 0 ∧
      t.field 0x1000 63 48 = min (s.field 0x1000 63 48 + 1) 65535) ∧
    (∃ t, exec (.regAccessNarrow p false) s = .next t ∧ t.mod.ports.answers = s.mod.ports.answers ∧
      t.field 0x1000 63 48 = min (s.field 0x1000 63 48 + 1) 65535)) ∧
  (∀ (p : Port) (off : BitVec 24) (part : Part) (w : Word) (r : Reg) (s : State), Port.isHost p = true → 0x1000 ≤ off.toNat →
    (off.toNat < 0xF000 ∨ 0xF040 ≤ off.toNat) → off.toNat % 8 = 0 → Reg.at? off.toNat = some r → r.place.host = false →
    ∃ t, exec (.registerWrite p off part w) s = .next t ∧ t.field 0x1000 47 32 = min (s.field 0x1000 47 32 + 1) 65535 ∧
      ∀ o, o ≠ 0x1000 → t.reg o = s.reg o) ∧
  (∀ (p : Port) (n : Fin 4) (w : Word) (s : State), Port.isHost p = true →
    let off : BitVec 24 := BitVec.ofNat 24 (0x10840 + 8 * n.val)
    (∃ t, exec (.registerWrite p off .full w) s = .next t ∧ t.reg (0x10840 + 8 * n.val) = w ∧ ∀ o, o ≠ 0x10840 + 8 * n.val → t.reg o = s.reg o) ∧
    ∃ t, exec (.registerWrite p off .high w) s = .next t ∧
      t.reg (0x10840 + 8 * n.val) = (s.reg (0x10840 + 8 * n.val) &&& 0xFFFFFFFF) ||| (w <<< 32)) ∧
  (∀ (p : Port) (m : BitVec 10) (s : State), Port.isHost p = false →
    (s.jobState = 0 → ∃ t, exec (.modIdWrite p m) s = .next t ∧ t.field 0x10000 63 54 = m.toNat ∧ ∀ o, o ≠ 0x10000 → t.reg o = s.reg o) ∧
    (s.jobState ≠ 0 → ∃ t, exec (.modIdWrite p m) s = .next t ∧ t.reg 0x10000 = s.reg 0x10000))

/-- Host ports (R396 to R403, R408, R409, R413, R532): a CXL.mem request enters its tag's stream, waits behind one to its line, or beyond
the memory is answered with poison; the host window's lines complete their request; a snoop changes nothing; MMIO to an endpoint block
leaves as one packet; a link reset abandons the port's streams; the link comes up only with PERST released and an image running; a
doorbell's two halves make one store; every microsecond a snapshot shows the time. The model's own choices: assumptions 3, 5, 6, 87, 92.
-/
def Obligations.HostPorts : Prop :=
  (∀ (port : Bool) (tag : BitVec 16) (a : BitVec 36) (data : Vector Byte 64) (s : State),
    let off := s.hdmBase * 2 ^ 36 + a.toNat / 64 * 64
    let x := memStream port tag.toNat
    (off < hashedLimit → s.lineBusy port (off / 256) = false →
      (∃ t, exec (.cxlMemRead port tag a) s = .next t ∧ t.req x = withOp (memOp s.moduleId off port tag.toNat none) (s.req x) ∧
        ∀ y, y ≠ x → t.req y = s.req y) ∧
      ∃ t, exec (.cxlMemWrite port tag a data) s = .next t ∧ t.req x = withOp (memOp s.moduleId off port tag.toNat (some data.toList)) (s.req x) ∧
        t.lpddr = s.lpddr) ∧
    (off < hashedLimit → s.lineBusy port (off / 256) = true → ∃ t, exec (.cxlMemRead port tag a) s = .next t ∧ t.requesters = s.requesters ∧
      t.mod.ports.waiting = s.mod.ports.waiting ++ [⟨port, tag.toNat, off, none⟩]) ∧
    (hashedLimit ≤ off → ∃ t, exec (.cxlMemRead port tag a) s = .next t ∧ t.requesters = s.requesters ∧
      t.field 0x1000 31 16 = min (s.field 0x1000 31 16 + 1) 65535 ∧ t.mod.ports.mem.get none (if port then 1 else 0) = some ⟨tag.toNat, [], true⟩ ∧
      t.mod.ports.ras.get 0 (if port then 1 else 0) = s.mod.ports.ras.get 0 (if port then 1 else 0) + 1)) ∧
  (∀ (c1 failed : Bool) (bytes : List Byte) (x : Txn) (win c : Nat) (s : State), (s.endp (if c1 then 23 else 22)).txns = [x] → x.left = 1 →
    (∃ y, s.rangeOf (gaEndpoint x.pkt.addr) (gaOffset x.pkt.addr) = some (.host win c, y)) →
    ∃ t, exec (.hostWindowAccess c1 x.id bytes failed) s = .next t ∧ (t.endp (if c1 then 23 else 22)).txns = []) ∧
  (∀ (port : Bool) (a : Word) (s : State), exec (.hostSnoop port a) s = .next s) ∧
  (∀ (port write : Bool) (off : BitVec 24) (part : Part) (v : Word) (s : State), 0x100000 ≤ off.toNat → off.toNat < 0x400000 →
    let x := (if port then 23 else 22) * 2048 + 0x7F * 8
    (off.toNat % 8 ≠ 0 → ∃ t, exec (.hostMmioEndpoint port write off part v) s = .next t ∧ t.requesters = s.requesters ∧
      t.field 0x1000 63 48 = min (s.field 0x1000 63 48 + 1) 65535 ∧
      (write = false → t.mod.ports.answers.get none (if port then 1 else 0) = some 0)) ∧
    (off.toNat % 8 = 0 → ∃ t o piece, exec (.hostMmioEndpoint port write off part v) s = .next t ∧ (t.req x).ops = (s.req x).ops ++ [o] ∧ o.unsent = [piece] ∧
      piece.op = (if write then 2 else 1) ∧ piece.len = (if part = .full then 8 else 4) ∧ piece.far = s.windowAddr off.toNat part ∧
      t.regs = s.regs)) ∧
  (∀ (port : Bool) (s : State),
    (∃ t, exec (.hostLinkReset port) s = .next t ∧
      (t.endp (if port then 23 else 22)).srcInc = ((s.endp (if port then 23 else 22)).srcInc + 1) % 256 ∧
      (∀ x, x / 2048 = (if port then 23 else 22) → 0x40 ≤ x / 8 % 256 → x / 8 % 256 < 0x80 → (t.req x).ops = []) ∧
      ∀ w ∈ t.mod.ports.waiting, w.port ≠ port) ∧
    (∃ t, exec (.perstRelease port) s = .next t ∧ (t.cxl port).perst = false ∧ t.cxl (!port) = s.cxl (!port)) ∧
    (∀ (lopt : Bool) (w : Fin 16) (r : Fin 4),
      (∃ t, exec (.cxlLinkChange port false lopt w r) s = .next t ∧ (t.cxl port).up = false ∧ t.cxl (!port) = s.cxl (!port)) ∧
      (s.mayTrain port = true → linkMode w.val r.val lopt = true → ∃ t, exec (.cxlLinkChange port true lopt w r) s = .next t ∧
        t.cxl port = ⟨(s.cxl port).perst, true, w.val, r.val, lopt⟩) ∧
      (s.mayTrain port = false → exec (.cxlLinkChange port true lopt w r) s = .next s))) ∧
  (∀ (p : Port) (n : Fin 64) (v : BitVec 32) (s : State), p ≠ .management →
    let x := (if p = .hostB ∨ p = .window1 then 23 else 22) * 2048 + 0x7F * 8 + n.val % 8
    (∃ t, exec (.hostDoorbellValueLo p n v) s = .next t ∧ t.mod.ports.lows.get 0 n.val = v ∧ t.regs = s.regs ∧ t.requesters = s.requesters) ∧
    (s.bellTarget (s.reg (0x11100 + 16 * n.val)) = true → ∃ t o piece, exec (.hostDoorbellRing p n v) s = .next t ∧
      (t.req x).ops = (s.req x).ops ++ [o] ∧ o.unsent = [piece] ∧ piece.op = 2 ∧ piece.len = 8 ∧ piece.db = true ∧
      piece.far = s.reg (0x11100 + 16 * n.val) ∧ piece.operand = BitVec.ofNat 64 (v.toNat * 2 ^ 32 + (s.mod.ports.lows.get 0 n.val).toNat)) ∧
    (s.bellTarget (s.reg (0x11100 + 16 * n.val)) = false → ∃ t, exec (.hostDoorbellRing p n v) s = .next t ∧ t.requesters = s.requesters ∧
      t.field 0x1000 47 32 = min (s.field 0x1000 47 32 + 1) 65535)) ∧
  (∀ s : State, ∃ t, exec .healthSnapshot s = .next t ∧ Reaches s t ((s.marks.get 0 6 / 1000 + 1) * 1000) ∧
    t.mod.ports.snap = (s.mod.ports.snap + 1) % 2 ^ 32 ∧ t.mod.ports.window.get 0 1 = BitVec.ofNat 64 t.now ∧
    (t.mod.ports.window.get 0 0).field 63 32 = t.mod.ports.snap ∧ t.regs = s.regs ∧ t.logHeld = [])

/-- The host command ring and staging (R411, R412, R447): EN rising sets HEAD to 0; TAIL takes only an index of the ring; one entry at a
time is processed, HEAD passing it with its STATUS; an image that passes every check is staged in a slot that no active or pending bank
uses, one that does not is rejected with the first reason that holds, and STAGE_ABORT erases the slot. The model's own choices:
assumptions 6, 84, 101. -/
def Obligations.HostRing : Prop :=
  (∀ (p : Port) (size : BitVec 4) (tail : BitVec 12) (s : State), p ≠ .management →
    (bitOf (s.reg 0x11008) 4 = false → ∃ t, exec (.hcmdEnable p size) s = .next t ∧ bitOf (t.reg 0x11008) 4 = true ∧
      t.field 0x11008 3 0 = size.toNat ∧ t.field 0x11018 11 0 = 0) ∧
    (bitOf (s.reg 0x11008) 4 = true → size.toNat ≠ s.field 0x11008 3 0 → ∃ t, exec (.hcmdEnable p size) s = .next t ∧
      t.field 0x11008 3 0 = s.field 0x11008 3 0 ∧ t.reg 0x11018 = s.reg 0x11018 ∧ t.field 0x1000 47 32 = min (s.field 0x1000 47 32 + 1) 65535) ∧
    (∃ t, exec (.hcmdDisable p size) s = .next t ∧ bitOf (t.reg 0x11008) 4 = false ∧ t.reg 0x11018 = s.reg 0x11018) ∧
    (tail.toNat < s.ringSize → ∃ t, exec (.hcmdTailWrite p tail) s = .next t ∧ t.field 0x11010 11 0 = tail.toNat ∧ ∀ o, o ≠ 0x11010 → t.reg o = s.reg o) ∧
    (s.ringSize ≤ tail.toNat → ∃ t, exec (.hcmdTailWrite p tail) s = .next t ∧ t.reg 0x11010 = s.reg 0x11010 ∧
      t.field 0x1000 47 32 = min (s.field 0x1000 47 32 + 1) 65535)) ∧
  (∀ s : State,
    let head := s.field 0x11018 11 0
    let takes := fun (i : Instr) (status : Nat) (result : List Byte) (t : State) => exec i s = .next t ∧
      t.mod.ports.hcmd = some ⟨head, status, result⟩ ∧ t.field 0x11018 11 0 = (head + 1) % s.ringSize
    (bitOf (s.reg 0x11008) 4 = false ∨ head = s.field 0x11010 11 0 → exec .hcmdNop s = .next s ∧ exec .stageQuery s = .next s) ∧
    (bitOf (s.reg 0x11008) 4 = true → head ≠ s.field 0x11010 11 0 →
      (∃ t, takes .hcmdNop 1 [] t ∧ t.cores = s.cores ∧ t.mod.start = s.mod.start) ∧
      (∃ t, takes .stageQuery 1 (([0x1B010, 0x1B018, 0x1B020, 0x1B008] : List Nat).flatMap fun o => bytesOf 8 (s.readReg o).toNat) t ∧
        t.mod.start = s.mod.start) ∧
      ∀ (slot length : BitVec 32) (image : Option (List Byte)) (genuine back : Bool),
        (s.stagingClosed = true → (∃ t, takes (.stageImage slot length image genuine back) 3 [] t ∧ t.mod.start = s.mod.start) ∧
          ∃ t, takes (.stageAbort slot) 3 [] t ∧ t.mod.start = s.mod.start) ∧
        (s.stagingClosed = false → s.slotTaken slot.toNat = true → (∃ t, takes (.stageImage slot length image genuine back) 5 [1] t ∧
          t.mod.start = s.mod.start ∧ t.field 0x1B008 63 56 = 1) ∧ ∃ t, takes (.stageAbort slot) 5 [1] t ∧ t.mod.start = s.mod.start) ∧
        (s.stagingClosed = false → s.slotTaken slot.toNat = false →
          (image = none → ∃ t, takes (.stageImage slot length image genuine back) 4 [] t ∧ t.mod.start = s.mod.start) ∧
          (∀ img, image = some img → s.stageReason slot.toNat length.toNat img genuine back = none → ∃ t, takes (.stageImage slot length image genuine back) 1 [] t ∧
            t.flashBank slot.toNat = ⟨1, img, genuine⟩ ∧ ∀ j, j ≠ slot.toNat → t.flashBank j = s.flashBank j) ∧
          (∀ img r, image = some img → s.stageReason slot.toNat length.toNat img genuine back = some r → ∃ t,
            takes (.stageImage slot length image genuine back) 5 (bytesOf 1 r) t ∧ t.field 0x1B008 63 56 = r ∧ t.flashBank (slot.toNat ^^^ 1) = s.flashBank (slot.toNat ^^^ 1)) ∧
          ∃ t, takes (.stageAbort slot) 1 [] t ∧ t.flashBank slot.toNat = Bank.empty)))

/-- Elvef (R372, R376, R421 to R424, R432, R448, R449, R462, R480): every command answers with its sequence number and a status; a command
whose arguments or state do not permit it answers 0x02 to 0x06 and does nothing; an activation makes the other bank pending, or restarts
C1 and then C0 on it, and reverts where an image fails or a chiplet is not healthy in 2 s; the surviving chiplet takes the primary role.
The model's own choices: assumptions 3, 5, 85, 88. -/
def Obligations.ElvefCommands : Prop :=
  (∀ (seq : BitVec 8) (s : State),
    let reply := fun (i : Instr) (status : Nat) (payload : List Byte) (t : State) =>
      exec i s = .next t ∧ t.mod.ports.elvef = some ⟨seq.toNat, status, payload⟩
    let kept := fun (t : State) => t.regs = s.regs ∧ t.cores = s.cores ∧ t.power = s.power ∧ t.mod.start = s.mod.start
    (∃ t, reply (.elvefFrameError seq) 2 [] t ∧ kept t) ∧
    (∃ t, reply (.elvefGetId seq) 0 (bytesOf 8 (s.readReg 0x10000).toNat ++ bytesOf 8 s.serial) t ∧ kept t) ∧
    (∀ off : BitVec 16, (off.toNat % 256 = 0 ∧ off.toNat < 4096 → ∃ t, reply (.elvefGetHealth seq off) 0 (s.healthBytes s.mod.start.primary1 off.toNat) t ∧ kept t) ∧
      (¬ (off.toNat % 256 = 0 ∧ off.toNat < 4096) → ∃ t, reply (.elvefGetHealth seq off) 4 [] t ∧ kept t)) ∧
    (∀ (off : BitVec 32) (v : Word),
      (off.toNat % 8 = 0 → off.toNat < 2 ^ 24 → ∃ t, reply (.elvefReadReg seq off) 0 (bytesOf 8 (s.readWord .management off.toNat).toNat) t ∧
        t.cores = s.cores ∧ ∀ o, o ≠ off.toNat → t.reg o = s.reg o) ∧
      (¬ (off.toNat % 8 = 0 ∧ off.toNat < 2 ^ 24) → (∃ t, reply (.elvefReadReg seq off) 4 [] t ∧ kept t) ∧ ∃ t, reply (.elvefWriteReg seq off v) 4 [] t ∧ kept t) ∧
      (∀ r, off.toNat % 8 = 0 → 0x1000 ≤ off.toNat → off.toNat < 2 ^ 24 → Reg.at? off.toNat = some r → r.place.mgmt = false → r ≠ .jobCtrl →
        ∃ t, reply (.elvefWriteReg seq off v) 3 [] t ∧ kept t)) ∧
    (∀ v : Word, s.power.thermal.window0 = true → s.power.thermal.window1 = true → ∃ t, reply (.elvefWriteReg seq 0x10050 v) 0 [] t ∧
      t.reg 0x10050 = v ∧ ∀ o, o ≠ 0x10050 → t.reg o = s.reg o) ∧
    (∀ c : BitVec 8, ∃ t, reply (.elvefSetInlet seq c) 0 [] t ∧ t.field 0x1A000 39 32 = c.toNat ∧ bitOf (t.reg 0x1A000) 47 = true ∧
      t.power.thermal.inletAt = some s.now) ∧
    (∃ t, reply (.elvefPowerOff seq) 0 [] t ∧ t.power.feedA.st = .off ∧ t.power.feedB.st = .off ∧ t.jobState = 0 ∧ t.landing = none) ∧
    (s.power.thermal.shutdown = true → ∃ t, reply (.elvefPowerOn seq) 5 [] t ∧ kept t) ∧
    (s.power.thermal.shutdown = false → s.power.feedA.st = .off → s.power.feedB.st = .off → ∃ t, reply (.elvefPowerOn seq) 0 [] t ∧
      t.power.feedA.enabledAt = some s.now ∧ t.power.feedB.enabledAt = some s.now ∧ t.mod.start.holding = false) ∧
    (∀ mask : BitVec 8,
      (∀ st, s.activateRefusal mask.toNat false = some st → (∃ t, reply (.fwActivateNextStart seq mask) st [] t ∧ kept t) ∧
        ∃ t, reply (.fwActivateCancel seq mask) st [] t ∧ kept t) ∧
      (s.activateRefusal mask.toNat false = none → ∀ k ∈ kindsOf mask.toNat,
        (∃ t, exec (.fwActivateNextStart seq mask) s = .next t ∧ t.field (secImage k) 5 5 = 1 ∧ t.mod.start = s.mod.start) ∧
        ∃ t, exec (.fwActivateCancel seq mask) s = .next t ∧ t.field (secImage k) 5 5 = 0 ∧ t.mod.start = s.mod.start) ∧
      (∀ st, s.activateRefusal mask.toNat true = some st → ∃ t, reply (.fwActivateLive seq mask) st [] t ∧ kept t) ∧
      (s.activateRefusal mask.toNat true = none → ∃ t, exec (.fwActivateLive seq mask) s = .next t ∧ t.activeBank 1 = 1 - s.activeBank 1 ∧
        t.mod.start.act = some ⟨1, s.activeBank 1, s.now⟩)) ∧
    (∀ (d : BitVec 8) (u : BitVec 16),
      (s.resetBusy = true → ∃ t, reply (.elvefReset seq d u) 5 [] t ∧ t.resetReqs = s.resetReqs) ∧
      (s.resetBusy = false → s.unitThere d.toNat u.toNat = false → ∃ t, reply (.elvefReset seq d u) 4 [] t ∧ t.resetReqs = s.resetReqs) ∧
      (s.resetBusy = false → s.unitThere d.toNat u.toNat = true → s.resetReqs = [] → ∃ t, reply (.elvefReset seq d u) 0 [] t ∧
        t.resetReqs = [⟨d.toNat, if d.toNat = 7 then 0xFFF else u.toNat, 0x0400, s.now⟩])) ∧
    (bitOf (s.reg 0x10010) 62 = true → ∃ t, reply (.elvefServiceLock seq) 5 [] t ∧ kept t) ∧
    (bitOf (s.reg 0x10010) 62 = false → ∃ t, reply (.elvefServiceLock seq) 0 [] t ∧ bitOf (t.reg 0x10010) 63 = false) ∧
    (s.jobState = 0 → s.mod.pair.role ≠ 1 → ∃ t, reply (.elvefServiceUnlock seq) 0 [] t ∧ bitOf (t.reg 0x10010) 63 = true) ∧
    (s.jobState ≠ 0 ∨ s.mod.pair.role = 1 → ∃ t, reply (.elvefServiceUnlock seq) 5 [] t ∧ kept t) ∧
    (∀ index count : BitVec 8, (1 ≤ count.toNat → count.toNat ≤ 32 → ∃ t, reply (.elvefLogRead seq index count) 0
        ((List.range count.toNat).flatMap fun i => bytesOf 8 (s.log.get 0 ((index.toNat + i) % 256)).toNat) t ∧ kept t) ∧
      (count.toNat = 0 ∨ 32 < count.toNat → ∃ t, reply (.elvefLogRead seq index count) 4 [] t ∧ kept t))) ∧
  (∀ (a : Activation) (s : State), s.mod.start.act = some a →
    (∃ t, exec .liveActivationTimeout s = .next t ∧ Reaches s t (a.since + 2000000000) ∧ t.mod.start.act = none ∧ t.field 0x1B008 41 40 = 2 ∧
      t.mod.start.primary1 = false) ∧
    (a.state = 1 → s.bankPasses 1 (s.activeBank 1) = true → ∃ t, exec (.managementProcessorsRestarted true true) s = .next t ∧
      t.mod.start.primary1 = true ∧ t.mod.start.act = some ⟨2, a.oldBank, s.now⟩) ∧
    (2 ≤ a.state → s.bankPasses 1 (s.activeBank 1) = true → ∃ t, exec (.managementProcessorsRestarted false true) s = .next t ∧
      t.mod.start.primary1 = false ∧ t.mod.start.act = none ∧ t.field 0x1B008 41 40 = 1) ∧
    (a.state = 1 → s.bankPasses 1 (s.activeBank 1) = false → ∃ t, exec (.managementProcessorsRestarted true true) s = .next t ∧
      t.mod.start.primary1 = false ∧ t.mod.start.act = none ∧ t.field 0x1B008 41 40 = 2)) ∧
  (∀ s : State, s.mod.start.act = none → s.mod.start.up0 = true → s.mod.start.up1 = true →
    (s.mod.start.primary1 = false → ∃ t, exec (.controlChipletLost false) s = .next t ∧ t.mod.start.primary1 = true ∧ t.mod.start.up0 = false) ∧
    (s.mod.start.primary1 = true → ∃ t, exec (.controlChipletLost true) s = .next t ∧ t.mod.start.primary1 = false ∧ t.mod.start.up1 = false))

/-- The I3C target, the UART and JTAG (R421, R431 to R433): the CCCs set and return the target's address, events and lengths, at most 262
bytes; the UART answers what Elvef would of the same register, window or log; a self-test runs in IDLE alone and writes only its unit's
memory; a JTAG instruction that is not permitted selects BYPASS, and a private scan marks SCAN_USED and stops its dies. The model's own
choices: assumptions 46, 89, 90, 91. -/
def Obligations.ServicePorts : Prop :=
  (∀ s : State,
    let i3c := s.mod.ports.i3c
    let sets := fun (i : Instr) (x : I3c) => ∃ t, exec i s = .next t ∧ t.mod.ports.i3c = x ∧ t.regs = s.regs ∧ t.cores = s.cores
    let pid := bigBytes 6 (Config.mipiManufacturer % 2 ^ 15 * 2 ^ 33 + 0x0F07 * 2 ^ 16 + s.serial % 2 ^ 16)
    (∀ a : BitVec 7, (i3c.address = none → sets (.i3cEntdaa a) { i3c with address := some a.toNat, answer := pid ++ [0x06, 0x00] } ∧
        sets (.i3cSetdasa a) { i3c with address := some a.toNat }) ∧
      (i3c.address ≠ none → sets (.i3cEntdaa a) i3c ∧ sets (.i3cSetdasa a) i3c)) ∧
    sets .i3cRstdaa { i3c with address := none } ∧
    (∀ e : BitVec 8, sets (.i3cEnec e) { i3c with events := i3c.events || e.getLsbD 0 } ∧ sets (.i3cDisec e) { i3c with events := i3c.events && !e.getLsbD 0 }) ∧
    sets .i3cGetpid { i3c with answer := pid } ∧ sets .i3cGetbcr { i3c with answer := [0x06] } ∧ sets .i3cGetdcr { i3c with answer := [0x00] } ∧
    (∃ x y, sets .i3cGetstatus { i3c with answer := [x, y] }) ∧
    (∀ n : BitVec 16, sets (.i3cSetmwl n) { i3c with mwl := min 262 n.toNat } ∧ sets (.i3cSetmrl n) { i3c with mrl := min 262 n.toNat }) ∧
    sets .i3cGetmwl { i3c with answer := bigBytes 2 i3c.mwl } ∧ sets .i3cGetmrl { i3c with answer := bigBytes 2 i3c.mrl ++ [1] } ∧
    (∀ a : BitVec 8, (a.toNat ≤ 1 → sets (.i3cRstact a) { i3c with rstact := a.toNat }) ∧ (1 < a.toNat → sets (.i3cRstact a) i3c))) ∧
  (∀ s : State,
    let reply := fun (i : Instr) (status : Nat) (payload : List Byte) (t : State) => exec i s = .next t ∧ t.mod.ports.uart = some ⟨0, status, payload⟩
    (∃ t, reply .uartId 0 (bytesOf 8 (s.readReg 0x10000).toNat ++ bytesOf 8 s.serial) t ∧ t.regs = s.regs) ∧
    (∀ off : BitVec 32, (off.toNat % 8 = 0 → 0x1000 ≤ off.toNat → off.toNat < 2 ^ 24 → ∃ t, reply (.uartR off) 0 (bytesOf 8 (s.readReg off.toNat).toNat) t ∧
        ∀ o, o ≠ off.toNat → t.reg o = s.reg o) ∧
      (¬ (off.toNat % 8 = 0 ∧ off.toNat < 2 ^ 24) → ∃ t, reply (.uartR off) 4 [] t ∧ t.regs = s.regs)) ∧
    (∀ off : BitVec 16, off.toNat % 256 = 0 → off.toNat < 4096 → ∃ t, reply (.uartH off) 0 (s.healthBytes false off.toNat) t ∧ t.regs = s.regs) ∧
    (∀ index count : BitVec 8, 1 ≤ count.toNat → count.toNat ≤ 32 → ∃ t, reply (.uartLog index count) 0
      ((List.range count.toNat).flatMap fun i => bytesOf 8 (s.log.get 0 ((index.toNat + i) % 256)).toNat) t ∧ t.regs = s.regs) ∧
    (∀ (u : TestUnit) (report : List Byte) (ws : List (Nat × Byte)),
      (s.jobState ≠ 0 → ∃ t, reply (.uartSelftest u report ws) 5 [] t ∧ t.lpddr = s.lpddr ∧ t.vaults = s.vaults ∧ t.cores = s.cores) ∧
      (∀ m, s.jobState = 0 → u = .memoryPort m → ∃ t, reply (.uartSelftest u report ws) 0 report t ∧ t.vaults = s.vaults ∧ t.cores = s.cores ∧
        ∀ a, hashPort a ≠ 8 + m.val → t.lpddr.byte a = s.lpddr.byte a))) ∧
  (∀ s : State,
    let selects := fun (i : Instr) (code : Nat) => ∃ t, exec i s = .next t ∧ t.mod.ports.jtag = code ∧ t.regs = s.regs ∧ t.cores = s.cores
    selects .jtagBypass 0 ∧ selects .jtagIdcode 1 ∧ selects .jtagSamplePreload 2 ∧
    (∃ t n, exec .jtagIdcode s = .next t ∧ t.mod.ports.jtagOut = some n ∧ n / 2 ^ 12 % 2 ^ 16 = 0xF070 ∧ n < 2 ^ 32) ∧
    (bitOf (s.reg 0x10010) 63 = true → selects .jtagExtest 3 ∧ selects .jtagClamp 4 ∧ selects .jtagHighz 5) ∧
    (bitOf (s.reg 0x10010) 63 = false → selects .jtagExtest 0 ∧ selects .jtagClamp 0 ∧ selects .jtagHighz 0 ∧ ∀ dies, selects (.jtagPrivateScan dies) 0) ∧
    (∀ tw : Fin 8, bitOf (s.reg 0x10010) 63 = true → ∃ t, exec (.jtagPrivateScan [.compute tw]) s = .next t ∧ t.mod.ports.jtag = 6 ∧
      bitOf (t.reg 0x10010) 62 = true ∧ (t.endp tw.val).inReset = true ∧ ∀ c u, (t.core ⟨tw, c⟩).th u = Thread.reset))

/-- The pair (R427 to R430, R480 to R484): a member sends a message every 100 microseconds while its management processors run; its 32
bytes and CRC give it back; one that fails acceptance is counted and changes no role; a paired standby takes over on a RELEASE, on the
FAULT flag and when the link goes down, with a TERM above both; an active member yields to a higher TERM and steps down into the hold;
Elvef joins, leaves and releases as the state permits. The model's own choices: assumptions 3, 5, 6, 98, 103. -/
def Obligations.Pairing : Prop :=
  (∀ s : State,
    (s.linkOn = false → exec .heartbeatSend s = .next s ∧ exec .partnerMessageBad s = .next s) ∧
    (s.managed = false → exec .heartbeatSend s = .next s) ∧
    (s.linkOn = true → s.power.on = true → s.managed = true → ∃ t m, exec .heartbeatSend s = .next t ∧ t.mod.pair.sent = some m ∧
      Reaches s t ((s.marks.get 0 7 / 100000 + 1) * 100000) ∧ m.srcModule = s.moduleId ∧ m.term = s.term ∧ m.time = t.clock ∧
      m.type = (if t.now < s.mod.pair.takeoverUntil then 2 else if 0 < s.mod.pair.releaseLeft then 3 else 1) ∧ t.mod.pair.role = s.mod.pair.role) ∧
    (s.linkOn = true → ∃ t, exec .partnerMessageBad s = .next t ∧ t.field 0x10018 39 32 = min (s.field 0x10018 39 32 + 1) 255 ∧ t.mod.pair = s.mod.pair) ∧
    (∀ m : PartnerMsg, m.type < 256 → m.version < 256 → m.seq < 2 ^ 16 → m.srcModule < 1024 → m.role < 256 → m.flags < 16 → m.term < 2 ^ 32 →
      m.time < 2 ^ 64 → m.checkpoint < 2 ^ 32 → (messageBytes m).length = 32 ∧ messageOf (messageBytes m) = some m) ∧
    (s.mod.pair.up = false → exec .partnerLinkDown s = .next s) ∧
    (s.mod.pair.up = true → s.mod.pair.role ≠ 2 → ∃ t, exec .partnerLinkDown s = .next t ∧ t.mod.pair.up = false ∧
      Reaches s t (s.mod.pair.heardAt + 300000) ∧ t.mod.pair.role = s.mod.pair.role) ∧
    (s.mod.pair.up = true → s.standby = true → ∃ t, exec .partnerLinkDown s = .next t ∧ t.mod.pair.role = 1 ∧ t.field 0x10068 39 32 = 1) ∧
    (∀ at', s.mod.pair.releasedAt = some at' → s.mod.pair.role = 1 → ∃ t, exec .releaseTimeout s = .next t ∧ Reaches s t (at' + 5000000000) ∧
      t.mod.pair.releasedAt = none ∧ t.mod.pair.role = 1) ∧
    (∀ at', s.noteHealthy.mod.pair.healthySince = some at' → s.field 0x10060 47 32 ≠ 0 → ∃ t, exec .takebackReady s = .next t ∧
      Reaches s t (at' + s.field 0x10060 47 32 * 1000000000) ∧ t.mod.start.holding = false ∧ t.mod.pair.role = s.mod.pair.role)) ∧
  (∀ (m : PartnerMsg) (s : State), ∀ q ∈ ([(.heartbeat, 1), (.takeover, 2), (.release, 3)] : List ((PartnerMsg → Instr) × Nat)),
    let n := { m with type := q.2 }
    (s.accepts n = false → ∃ t, exec (q.1 m) s = .next t ∧ t.mod.pair = s.mod.pair ∧ t.field 0x10018 39 32 = min (s.field 0x10018 39 32 + 1) 255) ∧
    (s.accepts n = true → s.mod.pair.role = 0 → ∃ t, exec (q.1 m) s = .next t ∧ t.mod.pair.heard = some n ∧ t.mod.pair.heardAt = s.now ∧
      t.mod.pair.up = true ∧ t.mod.pair.role = 0 ∧ t.regs = s.regs) ∧
    (s.accepts n = true → s.mod.pair.role = 1 → m.role = 0 → s.yields n = true → ∃ t, exec (q.1 m) s = .next t ∧ t.mod.pair.role ≠ 1 ∧
      t.mod.start.stage = 0 ∧ t.cores = []) ∧
    (s.accepts n = true → s.mod.pair.role = 1 → m.role ≠ 0 → ∃ t, exec (q.1 m) s = .next t ∧ t.mod.pair.heard = some n ∧ t.mod.pair.role = 1 ∧
      t.cores = s.cores) ∧
    (s.accepts n = true → s.standby = true → q.2 = 3 ∨ m.flags / 2 % 2 = 1 → ∃ t, exec (q.1 m) s = .next t ∧ t.mod.pair.role = 1 ∧
      t.term = (max s.term m.term + 1) % 2 ^ 32 ∧ t.field 0x10068 39 32 = (if q.2 = 3 then 5 else 2) ∧ t.mod.start.holding = false)) ∧
  (∀ (seq : BitVec 8) (s : State),
    let reply := fun (i : Instr) (status : Nat) (t : State) => exec i s = .next t ∧ ∃ p, t.mod.ports.elvef = some ⟨seq.toNat, status, p⟩
    let ready := s.keptStatus [.field 0x10060 63 63]
    (∃ t st, reply (.pairLeave seq) st t ∧ t.mod.pair.role = 0 ∧ bitOf (t.reg 0x10060) 62 = false) ∧
    (s.mod.pair.up = false → ∃ t st, reply (.pairJoinActive seq) st t ∧ t.mod.pair.role = 1 ∧ bitOf (t.reg 0x10060) 62 = true ∧ t.mod.start.holding = false) ∧
    (∀ h, s.mod.pair.up = true → s.mod.pair.heard = some h → h.role = 0 → ∃ t, reply (.pairJoinActive seq) 5 t ∧ t.mod.pair = s.mod.pair ∧ t.regs = s.regs) ∧
    (s.jobState ≠ 0 → ∃ t, reply (.pairJoinStandby seq) 5 t ∧ t.mod.pair = s.mod.pair ∧ t.regs = s.regs) ∧
    (s.jobState = 0 → ∃ t st, reply (.pairJoinStandby seq) st t ∧ t.mod.start.stage = 0 ∧ t.cores = [] ∧ t.mod.pair.role = 2) ∧
    (s.mod.pair.role = 1 → s.partnerReady = true → ∃ t, reply (.pairRelease seq) 0 t ∧ t.mod.pair.releaseAsked = true ∧ t.mod.pair.role = 1) ∧
    (s.mod.pair.role ≠ 1 ∨ s.partnerReady = false → ∃ t, reply (.pairRelease seq) 5 t ∧ t.mod.pair = s.mod.pair) ∧
    (∃ t, reply (.pairSetPreferred seq) ready t ∧ bitOf (t.reg 0x10060) 63 = true ∧ t.mod.pair = s.mod.pair) ∧
    (∃ t, reply (.pairClearPreferred seq) ready t ∧ bitOf (t.reg 0x10060) 63 = false ∧ t.mod.pair = s.mod.pair))

/-- The staged start and evidence (R376, R434 to R437, R441 to R446, R450): S0 to S3 complete in order, each only with an image that
passes; S1 enables VCORE or holds, and leaves the primary role to C1 where only C1's copy passes; S2 needs 8 planes and every channel
trained; S3 needs a tower, and marks the bonds that failed their test; a stage that falls short, or overruns twice its bound, stops the
start with the fault decision, and so does a start that no VCORE feed has come up for within 50 ms, with cause 0x02; GO ends a hold;
SVN_MIN never falls; evidence takes the next signature index or is refused with 0x53. The model's own choices: assumptions 3, 5, 6, 42,
70, 86, 148. -/
def Obligations.StartAndEvidence : Prop :=
  (∀ s : State,
    (s.power.on = true → s.mod.start.s0 = false → ∃ t, exec .stageS0Complete s = .next t ∧ t.mod.start.s0 = true ∧
      t.mod.pair.role = if s.field 0x10060 62 62 = 1 then 2 else 0) ∧
    (∀ bank fb, s.starting 0 = true → s.power.refLost = none → s.power.refSeen = true → (∀ k ∈ [1, 2, 3], s.field (secImage k) 5 5 = 0) →
      s.bankFor 1 = some (bank, fb) → s.power.thermal.shutdown = false → s.power.feedA.st = .off →
      s.mod.start.badCopy0 = false ∨ s.mod.start.badCopy1 = false →
      ∃ t, exec .stageS1Complete s = .next t ∧ t.mod.start.stage = 1 ∧ t.mod.start.holding = bitOf (s.reg 0x10040) 0 ∧
        (s.mod.start.badCopy0 = false → (t.mod.start.running.get none 0).map Running.header = some (imgHeader (s.flashBank (slotOf 1 bank)).image) ∧
          t.mod.start.primary1 = false) ∧
        (s.mod.start.badCopy0 = true → (t.mod.start.running.get none 1).map Running.header = some (imgHeader (s.flashBank (slotOf 1 bank)).image) ∧
          t.mod.start.primary1 = true ∧ t.mod.start.running.get none 0 = s.mod.start.running.get none 0) ∧
        t.power.feedA.enabledAt = if bitOf (s.reg 0x10040) 0 then s.power.feedA.enabledAt else some s.now) ∧
    (s.starting 0 = true → s.power.refLost = none → s.power.refSeen = true → (∀ k ∈ [1, 2, 3], s.field (secImage k) 5 5 = 0) → 
      s.bankFor 1 = none ∨ (s.mod.start.badCopy0 = true ∧ s.mod.start.badCopy1 = true) →
      ∃ t, exec .stageS1Complete s = .next t ∧ t.mod.start.stage = 0 ∧ t.mod.start.short = true ∧ t.mod.start.running = s.mod.start.running) ∧
    (∀ (planes : BitVec 16) (fibres : BitVec 24) (cold lost : List (Fin 288)) (lanes : List (LaneId × Nat × Nat)) (n : Nat) (bank : Nat) (fb : Bool),
      s.starting 1 = true → s.mod.start.holding = false → s.activeFeeds ≠ 0 → s.bankFor 2 = some (bank, fb) →
      (∀ c rest, lost = c :: rest → ∃ t, exec (.stageS2Complete planes fibres ⟨cold, lost⟩ ⟨lanes, n⟩) s = .next t ∧ t.mod.start.stage = 1 ∧
        t.mod.start.short = true ∧ ∀ d ∈ lost, (t.chan d.val).st = .failed) ∧
      (8 ≤ ((List.range 16).filter fun p => planes.getLsbD p && s.lightBays.lit p).length → (∀ c, c < 288 → (s.chan c).st ≠ .failed) →
        ∃ t, exec (.stageS2Complete planes fibres ⟨cold, []⟩ ⟨lanes, n⟩) s = .next t ∧ t.mod.start.stage = 2 ∧ t.power.time.s2Done = true ∧
          (s.mod.start.memKept = false → t.lpddr = []) ∧ ∀ c, c < 288 → (t.chan c).st = .ready ∨ (t.chan c).st = .marked) ∧
      (((List.range 16).filter fun p => planes.getLsbD p && s.lightBays.lit p).length < 8 →
        ∃ t, exec (.stageS2Complete planes fibres ⟨cold, []⟩ ⟨lanes, n⟩) s = .next t ∧ t.mod.start.stage = 1 ∧ t.mod.start.short = true ∧ t.regs = s.regs)) ∧
    (∀ (tws : BitVec 8) (bad : List CoreId) (bonds : List (Fin 8 × Fin 512 × Fin 288)) (n : Nat) (bank : Nat) (fb : Bool), s.starting 2 = true →
      s.activeFeeds ≠ 0 → s.bankFor 3 = some (bank, fb) →
      (tws ≠ 0 → ∃ t, exec (.stageS3Complete tws ⟨bad, bonds⟩ n) s = .next t ∧ t.mod.start.stage = 3 ∧
        (∀ i, i < 8 → tws.getLsbD i = false → (t.endp i).disabled = true) ∧ (∀ k ∈ bad, (t.core k).disabled = true) ∧
        (∀ b ∈ bonds, b.2.2.val ∈ ((t.vault b.1.val).bonds.get BondGroup.intact b.2.1.val).tested) ∧ ∀ k, (t.core k).spad = []) ∧
      (tws = 0 → ∃ t, exec (.stageS3Complete tws ⟨bad, bonds⟩ n) s = .next t ∧ t.mod.start.stage = 2 ∧ t.mod.start.short = true ∧ t.cores = s.cores)) ∧
    (s.mod.start.stopped = false → s.mod.start.holding = false → s.mod.start.stage ≠ 3 → s.power.on = true →
      ∀ fell, ∃ t, exec (.stageFailed (.stage fell)) s = .next t ∧ t.mod.start.stopped = true ∧ (s.hwFault = none → t.hwFault = some (0x11, t.now % 2 ^ 48)) ∧
        (∀ f, s.hwFault = some f → t.hwFault = some f) ∧ (s.mod.start.short = true → t.now = s.now) ∧
        (s.mod.start.short = false → Reaches s t (s.mod.start.since + 2 * s.stageBound fell))) ∧
    (∀ e, s.mod.start.stopped = false → s.mod.start.holding = false → s.mod.start.stage ≠ 3 → s.power.on = true → s.activeFeeds = 0 →
      s.power.feedA.enabledAt = some e → ∃ t, exec (.stageFailed .noFeed) s = .next t ∧ t.mod.start.stopped = true ∧ Reaches s t (e + 50000000) ∧
        (s.hwFault = none → t.hwFault = some (0x02, t.now % 2 ^ 48)) ∧ ∀ f, s.hwFault = some f → t.hwFault = some f) ∧
    (∀ p : Port, (Port.isHost p = true → ∃ t, exec (.startGo p) s = .next t ∧ t.mod.start = s.mod.start ∧
        t.field 0x1000 47 32 = min (s.field 0x1000 47 32 + 1) 65535) ∧
      (Port.isHost p = false → ∃ t, exec (.startGo p) s = .next t ∧ t.mod.start.holding = false ∧
        (s.mod.start.holding = true → s.power.thermal.shutdown = false → s.power.feedA.st = .off → t.power.feedA.enabledAt = some s.now))) ∧
    (∀ (kind : Fin 3) (r : Running), 0 < kind.val → s.mod.start.running.get none (kind.val + 1) = some r →
      s.mod.start.fallback.get false (kind.val + 1) = false → s.mod.start.stage = 3 → r.svn < 65536 →
      ∃ t, exec (.svnMinRise kind) s = .next t ∧ t.svnMin (kind.val + 1) = max (s.svnMin (kind.val + 1)) r.svn) ∧
    (∀ r : Running, s.mod.start.running.get none s.primary = some r → s.mod.start.fallback.get false 1 = false → s.hwFault = none →
      s.mod.start.act = none → s.mod.start.stage ≠ 0 → r.svn < 65536 → ∃ t, exec (.svnMinRise 0) s = .next t ∧
        t.svnMin 1 = max (s.svnMin 1) r.svn ∧ Reaches s t (s.mod.start.primarySince + 60000000000))) ∧
  (∀ (b : Bool) (nonce : List Byte) (s : State),
    let reply := fun (i : Instr) (bs : List Byte) (t : State) => exec i s = .next t ∧ t.mod.ports.doe.get [] (if b then 1 else 0) = bs
    let rec' := s.recordHead 1 b (s.ots b).generation s.now nonce (s.reg 0x10838).toNat ++ s.jobDigest
    (nonce.length ≠ 32 → ∃ t, reply (.doeEvidence b nonce) (bytesOf 4 1) t ∧ t.mod.start = s.mod.start) ∧
    (nonce.length = 32 → s.canSign b = true → (s.ots b).next + 1 ≠ 2 ^ 30 - 1 → ∃ t,
      reply (.doeEvidence b nonce) (bytesOf 4 0 ++ rec' ++ identitySignature b (s.ots b).generation (s.ots b).next rec') t ∧
      (t.ots b).next = (s.ots b).next + 1) ∧
    (nonce.length = 32 → s.canSign b = false → ∃ t, reply (.doeEvidence b nonce) (bytesOf 4 0x53) t ∧ t.mod.start = s.mod.start ∧
      t.field 0x1B008 23 16 = min (s.field 0x1B008 23 16 + 1) 255) ∧
    (∀ r, s.mod.job.record = some r → ∃ t, reply (.doeEnableRecord b) (bytesOf 4 0 ++ r) t ∧ t.regs = s.regs) ∧
    (s.mod.job.record = none → ∃ t, reply (.doeEnableRecord b) (bytesOf 4 1) t ∧ t.regs = s.regs) ∧
    ∃ t, reply (.doeChain b) (bytesOf 4 0 ++ Config.certificate b ++ (s.ots b).successors.flatten) t ∧ t.regs = s.regs)

/-- Resets and hang detection (R80, R181, R231, R461, R462, R465 to R469, R473): a request is taken only while no reset runs and its unit
is there; the reset starts once its dump is written, or after 5 ms; a core keeps its scratchpad and loses its threads, a tower's vault
keeps its direct part, a module reset starts again from S1; one that overruns its limit asks for the next on the ladder; each detector
asks for the reset of the unit it watches at the moment its limit passes. The model's own choices: assumptions 3, 5, 6, 95, 96, 97, 137.
-/
def Obligations.ResetsAndHangs : Prop :=
  (∀ (p : Port) (d : Fin 8) (u : BitVec 16) (s : State),
    (Port.isHost p = true → ∃ t, exec (.resetRequest p d u) s = .next t ∧ t.resetReqs = s.resetReqs ∧
      t.field 0x1000 47 32 = min (s.field 0x1000 47 32 + 1) 65535) ∧
    (Port.isHost p = false → d.val ≠ 0 → s.resetBusy = true ∨ s.unitThere d.val u.toNat = false → ∃ t, exec (.resetRequest p d u) s = .next t ∧
      t.resetReqs = s.resetReqs ∧ bitOf (t.reg 0x10048) 62 = true) ∧
    (Port.isHost p = false → d.val ≠ 0 → s.resetBusy = false → s.unitThere d.val u.toNat = true → s.resetReqs = [] →
      ∃ t, exec (.resetRequest p d u) s = .next t ∧ t.resetReqs = [⟨d.val, if d.val = 7 then 0xFFF else u.toNat, 0x0400, s.now⟩] ∧ t.regs = s.regs)) ∧
  (∀ (d : Fin 8) (u : BitVec 16) (answers : BitVec 8) (r : ResetReq) (s : State), s.resetReqs = [r] → r.domain = d.val → r.unit = u.toNat →
    s.inRunning d.val u.toNat = false →
    (∃ t, exec (.dumpBeforeReset d u answers) s = .next t ∧ t.resetReqs = [] ∧ t.mod.resets = s.mod.resets ++
      [⟨d.val, u.toNat, r.code, r.asked, none, decide (r.code / 256 = 3)⟩] ∧ t.cores = s.cores) ∧
    (∀ k : CoreId, d.val = 1 → u.toNat = k.index → ∃ t, exec (.dumpAbandoned d u) s = .next t ∧ Reaches s t (r.asked + 5000000) ∧
      (t.core k).inReset = true ∧ (t.core k).spad = (s.core k).spad ∧ ∀ v, (t.core k).th v = Thread.reset)) ∧
  (∀ (d : Fin 8) (u : BitVec 16) (r : ResetRun) (s : State), s.mod.resets = [r] → r.domain = d.val → r.unit = u.toNat →
    (r.started = none → s.dumpWritten d.val u.toNat = false → exec (.unitResetStart d u) s = .next s ∧
      (s.resetReqs = [] → d.val = 1 → ∃ t, exec (.dumpAbandoned d u) s = .next t ∧ Reaches s t (r.asked + 5000000) ∧
        t.dumpWritten d.val u.toNat = true ∧ t.resetBusy = true)) ∧
    (r.started = none → s.dumpWritten d.val u.toNat = true →
      (∀ k : CoreId, d.val = 1 → u.toNat = k.index → ∃ t, exec (.unitResetStart d u) s = .next t ∧ (t.core k).inReset = true ∧
        (t.core k).spad = (s.core k).spad ∧ (∀ v, (t.core k).th v = Thread.reset) ∧
        (t.endp k.tower.val).srcInc = ((s.endp k.tower.val).srcInc + 1) % 256 ∧ t.mod.resets = [{ r with started := some s.now }] ∧
        ∀ n, n < 8 → (s.core k).pmcArmed.get false n = true → bitOf (t.reg (pmcSel k n)) 63 = true) ∧
      (d.val = 5 → u.toNat = 22 → ∃ t, exec (.unitResetStart d u) s = .next t ∧ t.mod.start.primary1 = true ∧ t.mod.start.up0 = false ∧
        t.mod.ports.cxlA.up = false ∧ t.mod.ports.cxlB = s.mod.ports.cxlB ∧ (t.endp 22).inReset = true) ∧
      (d.val = 4 → u.toNat < 8 → ∃ t, exec (.unitResetStart d u) s = .next t ∧ (t.endp u.toNat).inReset = true ∧
        (t.vault u.toNat).mem = (s.vault u.toNat).mem ∧ (t.vault u.toNat).ways = []) ∧
      (d.val = 7 → ∃ t, exec (.unitResetStart d u) s = .next t ∧ t.mod.start.stage = 0 ∧ t.cores = [] ∧ t.landing = none ∧ t.pending = s.pending ∧
        t.now = s.now)) ∧
    (∀ at', r.started = some at' →
      (∀ k : CoreId, d.val = 1 → u.toNat = k.index → ∃ t, exec (.unitResetComplete d u) s = .next t ∧ (t.core k).inReset = false ∧ t.mod.resets = [] ∧
        (t.core k).spad = (s.core k).spad) ∧
      (d.val = 5 → u.toNat = 22 → ∃ t, exec (.unitResetComplete d u) s = .next t ∧ t.mod.start.up0 = true ∧ (t.endp 22).inReset = false ∧
        t.mod.start.primary1 = s.mod.start.primary1) ∧
      (d.val = 1 → s.resetReqs = [] → ∃ t, exec (.resetEscalate d u) s = .next t ∧ Reaches s t (at' + 10000) ∧
        t.resetReqs = [⟨2, u.toNat / 16, 0x0301, t.now⟩] ∧ t.field 0x10048 47 40 = min (s.field 0x10048 47 40 + 1) 255))) ∧
  (∀ (k : CoreId) (s : State), s.resetReqs = [] →
    (s.field 0x10050 63 48 ≠ 0 → (s.core k).running?.isSome = true → (∃ u, ((s.core k).th u).st = .ready) → ∃ t, exec (.hangThreadHold k) s = .next t ∧
      Reaches s t ((s.core k).heldSince + s.field 0x10050 63 48 * 1000000) ∧ t.resetReqs = [⟨1, k.index, 0x0201, t.now⟩] ∧ t.cores = s.cores) ∧
    (s.field 0x10050 47 32 ≠ 0 → (s.core k).running?.isSome = true → ∃ t, exec (.hangStallInPlace k) s = .next t ∧
      Reaches s t ((s.core k).lastIssue + s.field 0x10050 47 32 * 1000) ∧ t.resetReqs = [⟨1, k.index, 0x0202, t.now⟩] ∧ t.cores = s.cores) ∧
    (∀ u : Fin 8, ((s.core k).th u).st = .waitRemote → ∃ t, exec (.hangRemoteEngine ⟨k.tower, k.core, u⟩) s = .next t ∧
      Reaches s t (((s.core k).th u).since + s.remoteBound + 10000) ∧ t.resetReqs = [⟨1, k.index, 0x0203, t.now⟩]) ∧
    (s.field 0x10050 63 48 = 0 → exec (.hangThreadHold k) s = .next s) ∧
    (∀ (c : Fin 288) (owner : BitVec 8) (r : ChanReq) rest, s.ownerQueue c.val owner.toNat = r :: rest → s.field 0x10050 31 16 ≠ 0 →
      (∃ i, i < 64 ∧ s.slotOwner c.val i = owner.toNat) → ∃ t, exec (.hangChannelAge c owner) s = .next t ∧
        Reaches s t (r.joined + s.field 0x10050 31 16 * 1000) ∧ t.resetReqs = [⟨5, 8 + c.val / 36, 0x0204, t.now⟩]) ∧
    (∀ (a b : Endpoint) (p : Fin 16) (at' : Nat), (s.ln (LaneId.base a b p).key).stalledSince = some at' → s.field 0x10050 15 0 ≠ 0 → 8 ≤ b.val →
      ∃ t, exec (.hangCreditStall (.base a b p)) s = .next t ∧ Reaches s t (at' + s.field 0x10050 15 0 * 1000000) ∧
        t.resetReqs = [⟨5, b.val, 0x0205, t.now⟩]))

/-- Replay, the witness check and checkpoints (R472, R473, R476 to R479, R485 to R488): a replay starts a stopped thread of a RUNNING job
at its PC or is IGNORED, and ends with RESULT 4 at its limit; a due STEP arms a sample, its record is sent once, and a comparison that
differs takes the fault decision; CKPT_DUE rises each interval; a checkpoint completes once everything it reads has been read, becomes
CKPT_DONE, and its slot the one that holds it; one that met what it could not read fails; a restore with no valid slot FAILED. The model's
own choices: assumptions 3, 5, 6, 99, 100, 102, 128, 131. -/
def Obligations.Recovery : Prop :=
  (∀ (p : Port) (k : CoreId) (u : Fin 8) (pc : BitVec 13) (limit : BitVec 16) (s : State), p ≠ .management →
    let may := s.jobState = 4 ∧ s.absent k = false ∧ s.coreEnabled k.tower.val k.core.val = true ∧ (s.core k).inReset = false ∧
      ((s.core k).th u).st = .stopped ∧ s.mod.replay = none ∧ pc.toNat < coreLength s.mod.job.live k.index
    (may → (∃ t, exec (.replaySolo p k u pc limit) s = .next t ∧ ((t.core k).th u).pc = pc ∧ (((t.core k).th u).st = .ready ∨ ((t.core k).th u).st = .running) ∧
        t.mod.replay = some ⟨k.index, u.val, s.now, limit.toNat⟩) ∧
      ∃ t, exec (.replayJoin p k u pc) s = .next t ∧ ((t.core k).th u).pc = pc ∧ (((t.core k).th u).st = .ready ∨ ((t.core k).th u).st = .running) ∧
        t.mod.replay = none) ∧
    (¬ may → (∃ t, exec (.replaySolo p k u pc limit) s = .next t ∧ bitOf (t.reg 0x10058) 62 = true ∧ t.cores = s.cores) ∧
      ∃ t, exec (.replayJoin p k u pc) s = .next t ∧ bitOf (t.reg 0x10058) 62 = true ∧ t.cores = s.cores)) ∧
  (∀ (r : Replay) (s : State), s.mod.replay = some r → r.limit ≠ 0 → r.core < 2048 → ∃ t, exec .replayLimit s = .next t ∧
    Reaches s t (r.started + r.limit * 1000000) ∧ t.mod.replay = none ∧ t.field 0x10058 61 59 = 4) ∧
  (∀ s : State,
    let step := s.jobWord 0x7FF000
    let period := witPeriod s.mod.job.live
    (s.jobState = 4 → period ≠ 0 → step % period = 0 → s.mod.witness.lastStep < step → s.sampled ≠ [] → witCount s.mod.job.live ≠ 0 →
      s.mod.witness.sample = none → ∃ t x, exec .witnessSample s = .next t ∧ t.mod.witness.sample = some x ∧ x.j = step / period ∧
        some x.core = s.sampled[step / period % s.sampled.length]? ∧ x.cap = none ∧ t.mod.witness.lastStep = step) ∧
    (∀ x, s.mod.witness.sample = some x →
      (∀ c, x.cap = some c → x.ran = true → x.sentAt = none → ∃ t, exec .witnessRecordReady s = .next t ∧
        t.mod.witness.sample = some { x with sentAt := some s.now }) ∧
      (∀ at', x.sentAt = some at' → x.j ≤ s.jobWord 0x7FF020 →
        let m := (s.core (coreIdOf (x.witness / 8))).spad
        (m.read 0x70800 16384 = m.read 0x74800 16384 → ∃ t, exec .witnessCompare s = .next t ∧ t.mod.witness.sample = none ∧
          t.mod.witness.mismatch = s.mod.witness.mismatch ∧ t.hwFault = s.hwFault) ∧
        (m.read 0x70800 16384 ≠ m.read 0x74800 16384 → ∃ t, exec .witnessCompare s = .next t ∧ t.mod.witness.sample = none ∧
          t.mod.witness.mismatch = true ∧ t.hwFault.isSome = true)) ∧
      (∀ at', x.sentAt = some at' → s.jobWord 0x7FF020 < x.j → ∃ t, exec .witnessLate s = .next t ∧ t.mod.witness.sample = none ∧
        Reaches s t (at' + max 1 (s.field 0x10088 63 56) * 1000000) ∧ t.field 0x10088 55 48 = min (s.field 0x10088 55 48 + 1) 255))) ∧
  (∀ s : State, s.ckptOn = true →
    (∃ t, exec .ckptDueTick s = .next t ∧ t.jobWord 0x7FF010 = (s.jobWord 0x7FF010 + 1) % 2 ^ 64 ∧ t.mod.ckpt.dueAt = t.now ∧
      Reaches s t (s.mod.ckpt.dueAt + max 1 (s.field 0x10060 31 16) * 1000000)) ∧
    (s.mod.ckpt.running = none → s.ckptDone < s.jobWord 0x7FF008 → ∃ t, exec .checkpointRequest s = .next t ∧
      t.mod.ckpt.running = some (s.jobWord 0x7FF008, s.now) ∧ t.mod.ckpt.slot = s.mod.ckpt.slot ∧ t.ckptDone = s.ckptDone)) ∧
  (∀ (c at' : Nat) (s : State), s.mod.ckpt.running = some (c, at') →
    (s.mod.ckpt.restoring = false →
      (∃ t, exec (.checkpointDone false) s = .next t ∧ t.mod.ckpt.running = none ∧ bitOf (t.reg 0x10080) 61 = true ∧ t.mod.ckpt.slot = s.mod.ckpt.slot ∧
        t.ckptDone = s.ckptDone) ∧
      (s.mod.ckpt.bad = true → ∃ t, exec (.checkpointDone true) s = .next t ∧ t.mod.ckpt.running = none ∧ bitOf (t.reg 0x10080) 61 = true ∧
        t.mod.ckpt.slot = s.mod.ckpt.slot ∧ t.ckptDone = s.ckptDone) ∧
      (s.mod.ckpt.bad = false → s.saveDrained = false → exec (.checkpointDone true) s = .next s) ∧
      (s.mod.ckpt.bad = false → s.saveDrained = true → ∃ t, exec (.checkpointDone true) s = .next t ∧ t.mod.ckpt.running = none ∧
        t.mod.ckpt.slot = 1 - s.mod.ckpt.slot ∧ t.ckptDone = c % 2 ^ 64 ∧ t.mod.ckpt.count = s.mod.ckpt.count + 1)) ∧
    (∀ a b, s.mod.ckpt.restoring = true →
      (∃ t, exec (.ckptRestoreDone a b false) s = .next t ∧ t.mod.ckpt.running = none ∧ bitOf (t.reg 0x10080) 61 = true ∧ t.lpddr = s.lpddr) ∧
      (slotChosen (memOf a) (memOf b) = none → ∃ t, exec (.ckptRestoreDone a b true) s = .next t ∧ t.mod.ckpt.running = none ∧
        bitOf (t.reg 0x10080) 61 = true ∧ t.lpddr = s.lpddr) ∧
      (∀ m, slotChosen (memOf a) (memOf b) = some m → m.readNat 0x50 4 = 0 → ∃ t, exec (.ckptRestoreDone a b true) s = .next t ∧
        t.mod.ckpt.running = none ∧ bitOf (t.reg 0x10080) 62 = true ∧ t.lpddr = s.lpddr))) ∧
  (∀ (p : Port) (s : State), p ≠ .management →
    (s.ckptFree = true → (∃ t, exec (.ckptRestore p) s = .next t ∧ t.mod.ckpt.running = some (0, s.now) ∧ t.mod.ckpt.restoring = true ∧ t.regs = s.regs) ∧
      ∃ t, exec (.ckptInvalidate p) s = .next t ∧ slotValid t.mod.ckpt.slotA = false ∧ slotValid t.mod.ckpt.slotB = false ∧ t.regs = s.regs) ∧
    (s.ckptFree = false → (∃ t, exec (.ckptRestore p) s = .next t ∧ t.mod.ckpt = s.mod.ckpt ∧ bitOf (t.reg 0x10080) 60 = true) ∧
      ∃ t, exec (.ckptInvalidate p) s = .next t ∧ t.mod.ckpt = s.mod.ckpt ∧ bitOf (t.reg 0x10080) 60 = true))

/-- Counters, counter dumps and Babbitt (R499 to R504, R512 to R519, R523 to R526): a counter that wraps sets OVF; an armed sample takes a
thread and PC of its window; a boundary takes a snapshot, or counts why it could not; a record that completes advances HEAD and one that
fails is counted; EN off stops the dumps; progress is recorded each minute, scrub passes start every 10 minutes, and the most written
block moves once a day. The model's own choices: assumptions 3, 5, 6, 99, 101, 106. -/
def Obligations.CountersDumpsUpkeep : Prop :=
  (∀ (k : CoreId) (n : Fin 8) (s : State),
    (bitOf (s.reg (pmcSel k n.val)) 11 = true → eventListed ((s.reg (pmcSel k n.val)).field 9 0) = true → s.pmcLive k = true →
      s.field (pmcCnt k n.val) 47 0 = 2 ^ 48 - 1 → ∃ t, exec (.pmcOverflow k n) s = .next t ∧ t.field (pmcCnt k n.val) 47 0 = 0 ∧
        bitOf (t.reg (pmcSel k n.val)) 63 = true ∧ t.ends = s.ends) ∧
    (∀ (i : Fin 24) thread pc, (s.core k).pmcArmed.get false n.val = true → ((s.core k).pmcWindow.get [] n.val)[i.val]? = some (thread, pc) → thread < 8 → pc < 8192 →
      ∃ t, exec (.pmcSample k n i) s = .next t ∧ t.field (pmcCnt k n.val) 63 61 = thread ∧ t.field (pmcCnt k n.val) 60 48 = pc ∧
        (t.core k).pmcArmed.get false n.val = false)) ∧
  (∀ s : State,
    let b := s.nextBoundary
    let en := bitOf (s.reg 0x1C000) 0
    let e := s.mod.engine
    (en = false → ∃ t, exec .dumpBoundary s = .next t ∧ Reaches s t b ∧ t.mod.engine.shadow = e.shadow ∧ t.mod.engine.boundary = b) ∧
    (en = true → s.power.time.skipDump = true → ∃ t, exec .dumpBoundary s = .next t ∧ t.mod.engine.missed = e.missed + 1 ∧ t.power.time.skipDump = false) ∧
    (en = true → s.power.time.skipDump = false → e.shadow ≠ none → ∃ t, exec .dumpBoundary s = .next t ∧ t.mod.engine.missed = e.missed + 1 ∧
      t.mod.engine.shadow = e.shadow ∧ t.field 0x1C028 47 32 = min (s.field 0x1C028 47 32 + 1) 65535) ∧
    (en = true → s.power.time.skipDump = false → e.shadow = none → s.ringRoom = false → ∃ t, exec .dumpBoundary s = .next t ∧
      t.mod.engine.missed = e.missed + 1 ∧ t.field 0x1C028 31 16 = min (s.field 0x1C028 31 16 + 1) 65535) ∧
    (en = true → s.power.time.skipDump = false → e.shadow = none → s.ringRoom = true → ∃ t new, exec .dumpBoundary s = .next t ∧
      t.mod.engine.previous = some new ∧ new.time = t.now ∧ Reaches s t b ∧ t.mod.engine.shadow = e.previous.map (fun p => (p, new)) ∧
      t.mod.engine.missed = 0) ∧
    (∀ x, e.shadow = some x →
      (∃ t, exec (.dumpRecordComplete false) s = .next t ∧ t.mod.engine.shadow = none ∧ t.field 0x1C028 15 0 = min (s.field 0x1C028 15 0 + 1) 65535 ∧
        t.reg 0x1C018 = s.reg 0x1C018 ∧ t.lpddr = s.lpddr) ∧
      (e.bad = true → ∃ t, exec (.dumpRecordComplete true) s = .next t ∧ t.mod.engine.shadow = none ∧
        t.field 0x1C028 15 0 = min (s.field 0x1C028 15 0 + 1) 65535 ∧ t.reg 0x1C018 = s.reg 0x1C018) ∧
      (e.bad = false → s.recordDrained = false → exec (.dumpRecordComplete true) s = .next s) ∧
      (e.bad = false → s.recordDrained = true → s.field 0x1C010 31 0 ≠ 0 → ∃ t, exec (.dumpRecordComplete true) s = .next t ∧ t.mod.engine.shadow = none ∧ t.mod.engine.seq = e.seq + 1 ∧
        t.field 0x1C018 31 0 = (s.field 0x1C018 31 0 + 1) % s.field 0x1C010 31 0))) ∧
  (∀ (p : Port) (v : Word) (s : State), p ≠ .management →
    (∃ t, exec (.dmpDisable p v) s = .next t ∧ bitOf (t.reg 0x1C000) 0 = false) ∧
    (bitOf (s.reg 0x1C000) 0 = false → s.ringPlaceOk = true → 2 ≤ s.field 0x1C010 31 0 → ∃ t, exec (.dmpEnable p v) s = .next t ∧
      bitOf (t.reg 0x1C000) 0 = true ∧ t.reg 0x1C018 = 0 ∧ t.mod.engine.previous = none ∧ t.mod.engine.seq = 0) ∧
    (bitOf (s.reg 0x1C000) 0 = false → s.ringPlaceOk = false → ∃ t, exec (.dmpEnable p v) s = .next t ∧ bitOf (t.reg 0x1C000) 0 = false ∧
      bitOf (t.reg 0x1C028) 62 = true)) ∧
  (∀ s : State,
    (s.power.on = true → ∃ t, exec .babbittProgressRecord s = .next t ∧ Reaches s t ((s.marks.get 0 9 / 60000000000 + 1) * 60000000000) ∧
      (∀ c, c < 288 → t.mod.babbitt.recorded.get 0 c = (s.chan c).scrubLine) ∧ ∀ i, i < 8 → t.mod.babbitt.recorded.get 0 (288 + i) = (s.vault i).scrubLane) ∧
    (bitOf (s.reg 0x10090) 2 = true → ∃ t, exec .spadScrubPassStart s = .next t ∧ Reaches s t ((s.marks.get 0 10 / 600000000000 + 1) * 600000000000) ∧
      ∀ k : CoreId, s.coreEnabled k.tower.val k.core.val = true → (t.core k).scrubLeft = 32768) ∧
    (∀ (c1 : Bool) (block target : Nat), bitOf (s.reg 0x10090) 3 = true → s.chipWindow c1 = true → s.mod.babbitt.recent = [] → s.mod.babbitt.total = [] →
      ∃ t, exec (.mramWearMove c1 block target) s = .next t ∧ t.field 0x10098 15 8 = (s.field 0x10098 15 8 + 1) % 256 ∧
        t.mod.babbitt.map.get 0 (2 * block + if c1 then 1 else 0) = block ^^^ target))

/-- Every step takes the command at the front of the queue and executes it on the state with the rest of the queue. On an empty queue, by
the model's own choice (assumption 3, DESIGN CHOICE), the count of Constantan time makes its next advance, of 1 ns or, before stage S1, of
20 ns, which a rate correction now and then leaves out or doubles; nothing else happens. -/
def Obligations.StepTakesFront : Prop :=
  (∀ (c : Instr) (q : List Instr) (s : State), step { s with pending := c :: q } = exec c { s with pending := q }) ∧
  ∀ s : State, s.pending = [] →
    (s.power.time.steer = 0 → s.power.time.slip.natAbs < 1000000 →
      step s = .next { s with now := s.now + if s.power.on = true ∧ s.mod.start.stage = 0 then 20 else 1 }) ∧
    ∃ t n x, step s = .next t ∧ n ≤ 2 ∧ t = { s with now := s.now + n * s.tickNs, power := { s.power with time := { s.power.time with slip := x } } }

/-- Decode and encode agree on every instruction of a program, with every operand at every value the encoding admits (R114 to R118, and
the class tables): the word of an instruction stands for that instruction, a word stands for an instruction only where it is its word, bit
for bit, and the legal words are exactly the words of instructions. -/
def Obligations.WordsDecode : Prop :=
  (∀ (i : Instr) (w : Word), encodeWord i = some w → ∃ c, decodeWord c w = some i) ∧
  (∀ (c : Ctx) (w : Word) (i : Instr), decodeWord c w = some i → encodeWord i = some w) ∧
  ∀ w : Word, legalWord w = true ↔ ∃ i, encodeWord i = some w

/-- Right after a module reset (R23, R151, R212, R228, R231, R385, R492): the job is IDLE with nothing refused or moved, the idle tables
are in force, every register but the kept ones reads its Reset column, the kept ones as shipped, and every thread's system registers read
0. The model's own choices: assumptions 1, 2. -/
def Obligations.ResetValues : Prop :=
  State.reset.pending = [] ∧ State.reset.jobState = 0 ∧ State.reset.field 0x10808 39 32 = 0 ∧ State.reset.field 0x10808 31 16 = 0 ∧
  bitOf (State.reset.reg 0x10808) 40 = false ∧ State.reset.landing = none ∧ State.reset.chanTable = none ∧ State.reset.resetReqs = [] ∧
  State.reset.field 0x10050 63 48 = 10 ∧ State.reset.field 0x10050 47 32 = 1000 ∧ State.reset.field 0x10050 31 16 = 100 ∧
  State.reset.field 0x10050 15 0 = 10 ∧ State.reset.field 0x19000 47 32 = 6000 ∧
  (∀ o, o ∉ [0x10050, 0x10060, 0x10088, 0x10090, 0x19000] → State.reset.reg o = resetAt o) ∧
  ∀ c : Ctx, (State.reset.th c).numctl = 0 ∧ (State.reset.th c).hctl = 0 ∧ (State.reset.th c).einfo = 0 ∧ (State.reset.th c).eaddr = 0 ∧
    ∀ xr : XReg, (State.reset.th c).xr xr = 0

/-- Whatever command is at the front, a step that answers a next state takes just that command from the queue, leaves the device's own
constants (its part, its serial number and its stepping: R4, R407, R423) as they are, and keeps the LPDDR5X and the control SRAM in
canonical form: addresses strictly rising, and no cell listed that holds what an unlisted one reads as. -/
def Obligations.StepKeepsMemory : Prop :=
  ∀ s t : State, s.lpddr.wf = true → s.csram.wf = true → step s = .next t →
    t.lpddr.wf = true ∧ t.csram.wf = true ∧ t.pending = s.pending.tail ∧ t.part1920 = s.part1920 ∧ t.serial = s.serial ∧
    t.stepping = s.stepping

/-- The memories after a reset are in the canonical form that every step keeps. The model's own choices: assumption 11. -/
def Obligations.ResetMemory : Prop :=
  State.reset.lpddr.wf = true ∧ State.reset.csram.wf = true
end

