-- ==== Sys2Proof/Laws/Table.lean ====
section
/-!
SUPPORT. Tables and memories: reading after a write, and the canonical form that every operation keeps.
-/
namespace Sys2Proof.Machine
open Sys2Proof

variable {β : Type}

@[simp] theorem Tab.get_nil (d : β) (k : Nat) : Tab.get d [] k = d := rfl

@[simp] theorem Tab.get_cons (d : β) (i : Nat) (w : β) (t : Tab β) (k : Nat) :
    Tab.get d ((i, w) :: t) k = if i = k then w else t.get d k := rfl

theorem Tab.get_insert (d : β) (t : Tab β) (k j : Nat) (v : β) :
    (t.insert k v).get d j = if j = k then v else t.get d j := by
  induction t with
  | nil => simp [Tab.insert, eq_comm]
  | cons p t ih =>
    obtain ⟨i, w⟩ := p
    unfold Tab.insert
    by_cases h1 : i = k
    · subst i; simp only [if_true, Tab.get_cons]
      by_cases h2 : j = k
      · simp [h2]
      · simp [h2, Ne.symm h2]
    · simp only [h1, if_false]
      by_cases h3 : k < i
      · simp only [h3, if_true, Tab.get_cons]
        by_cases h2 : j = k
        · simp [h2]
        · simp [h2, Ne.symm h2]
      · simp only [h3, if_false, Tab.get_cons, ih]
        by_cases h2 : j = k
        · subst j; simp [h1]
        · simp [h2]

theorem Tab.get_erase (d : β) (t : Tab β) (k j : Nat) :
    (t.erase k).get d j = if j = k then d else t.get d j := by
  induction t with
  | nil => simp [Tab.erase]
  | cons p t ih =>
    obtain ⟨i, w⟩ := p
    unfold Tab.erase
    by_cases h1 : i = k
    · subst i; simp only [if_true, ih, Tab.get_cons]
      by_cases h2 : j = k
      · simp [h2]
      · simp [h2, Ne.symm h2]
    · simp only [h1, if_false, Tab.get_cons, ih]
      by_cases h2 : j = k
      · subst j; simp [h1]
      · simp [h2]

section
variable [DecidableEq β]

/-- Reading after a write. -/
@[simp] theorem Tab.get_set (d : β) (t : Tab β) (k j : Nat) (v : β) : (t.set d k v).get d j = if j = k then v else t.get d j := by
  unfold Tab.set
  split
  · subst v; exact Tab.get_erase d t k j
  · exact Tab.get_insert d t k j v

@[simp] theorem Tab.get_modify (d : β) (t : Tab β) (k j : Nat) (f : β → β) :
    (t.modify d k f).get d j = if j = k then f (t.get d k) else t.get d j := Tab.get_set d t k j _

theorem Tab.wfFrom_mono (d : β) (t : Tab β) (lo lo' : Nat) (h : t.wfFrom d lo = true) (hk : lo' ≤ lo) : t.wfFrom d lo' = true := by
  cases t with
  | nil => rfl
  | cons p t =>
    obtain ⟨i, w⟩ := p
    simp only [Tab.wfFrom, Bool.and_eq_true, decide_eq_true_eq] at h ⊢
    exact ⟨⟨by omega, h.1.2⟩, h.2⟩

theorem Tab.wfFrom_insert (d : β) (t : Tab β) (lo k : Nat) (v : β) (h : t.wfFrom d lo = true) (hk : lo ≤ k) (hv : v ≠ d) :
    (t.insert k v).wfFrom d lo = true := by
  induction t generalizing lo with
  | nil => simp [Tab.insert, Tab.wfFrom, hk, hv]
  | cons p t ih =>
    obtain ⟨i, w⟩ := p
    simp only [Tab.wfFrom, Bool.and_eq_true, decide_eq_true_eq] at h
    simp only [Tab.insert]
    split
    · subst i; simp [Tab.wfFrom, hk, hv, h.2]
    · split
      · simp [Tab.wfFrom, hk, hv, h.1.2, h.2]; omega
      · simp [Tab.wfFrom, h.1.1, h.1.2]; exact ih (i + 1) h.2 (by omega)

theorem Tab.wfFrom_erase (d : β) (t : Tab β) (lo k : Nat) (h : t.wfFrom d lo = true) : (t.erase k).wfFrom d lo = true := by
  induction t generalizing lo with
  | nil => rfl
  | cons p t ih =>
    obtain ⟨i, w⟩ := p
    simp only [Tab.wfFrom, Bool.and_eq_true, decide_eq_true_eq] at h
    simp only [Tab.erase]
    split
    · exact Tab.wfFrom_mono d _ (i + 1) lo (ih (i + 1) h.2) (by omega)
    · simp [Tab.wfFrom, h.1.1, h.1.2, ih (i + 1) h.2]

/-- A write keeps the canonical form. -/
theorem Tab.wf_set (d : β) (t : Tab β) (k : Nat) (v : β) (h : t.wf d = true) : (t.set d k v).wf d = true := by
  unfold Tab.set
  split
  · exact Tab.wfFrom_erase d t 0 k h
  · rename_i hv; exact Tab.wfFrom_insert d t 0 k v h (by omega) hv

theorem Tab.wf_modify (d : β) (t : Tab β) (k : Nat) (f : β → β) (h : t.wf d = true) : (t.modify d k f).wf d = true :=
  Tab.wf_set d t k _ h

theorem Tab.wfFrom_drop (d : β) (p : Nat → Bool) (t : Tab β) (lo : Nat) (h : t.wfFrom d lo = true) :
    (t.drop p).wfFrom d lo = true := by
  induction t generalizing lo with
  | nil => rfl
  | cons q t ih =>
    obtain ⟨i, w⟩ := q
    simp only [Tab.wfFrom, Bool.and_eq_true, decide_eq_true_eq] at h
    unfold Tab.drop at ih ⊢
    simp only [List.filter]
    split
    · simp [Tab.wfFrom, h.1.1, h.1.2, ih (i + 1) h.2]
    · exact Tab.wfFrom_mono d _ (i + 1) lo (ih (i + 1) h.2) (by omega)

theorem Tab.wf_drop (d : β) (p : Nat → Bool) (t : Tab β) (h : t.wf d = true) : (t.drop p).wf d = true :=
  Tab.wfFrom_drop d p t 0 h

@[simp] theorem Tab.wf_nil (d : β) : Tab.wf d [] = true := rfl

end

/-- A dropped key reads as unlisted; the others read as before. -/
theorem Tab.get_drop (d : β) (p : Nat → Bool) (t : Tab β) (j : Nat) : (t.drop p).get d j = if p j = true then d else t.get d j := by
  induction t with
  | nil => simp [Tab.drop]
  | cons q t ih =>
    obtain ⟨i, w⟩ := q
    unfold Tab.drop at ih ⊢
    simp only [List.filter]
    by_cases hi : p i = true
    · simp only [hi, Bool.not_true, ih, Tab.get_cons]
      by_cases hj : i = j
      · subst j; simp [hi]
      · simp [hj]
    · simp only [hi, Bool.not_false, Tab.get_cons, ih]
      by_cases hj : i = j
      · subst j; simp [hi]
      · simp [hj]

/-! Memories. -/

@[simp] theorem Mem.wf_nil : Mem.wf [] = true := rfl

@[simp] theorem Mem.wf_setByte (m : Mem) (a : Nat) (b : Byte) (h : m.wf = true) : (m.setByte a b).wf = true := Tab.wf_set _ m a b h

/-- A write of bytes keeps the canonical form. -/
@[simp] theorem Mem.wf_write (m : Mem) (a : Nat) (bs : List Byte) (h : m.wf = true) : (m.write a bs).wf = true := by
  induction bs generalizing m a with
  | nil => exact h
  | cons b bs ih => exact ih _ _ (Mem.wf_setByte m a b h)

theorem Mem.wf_drop (m : Mem) (p : Nat → Bool) (h : m.wf = true) : (Tab.drop p m).wf (0 : Byte) = true := Tab.wf_drop _ _ m h

@[simp] theorem Mem.wf_clear (m : Mem) (a n : Nat) (h : m.wf = true) : (m.clear a n).wf = true := Tab.wf_drop _ _ m h

@[simp] theorem Mem.byte_setByte (m : Mem) (a j : Nat) (b : Byte) : (m.setByte a b).byte j = if j = a then b else m.byte j :=
  Tab.get_set _ m a j b

/-- A byte reads as written inside the bytes written, and as before outside them. -/
theorem Mem.byte_write (m : Mem) (a j : Nat) (bs : List Byte) :
    (m.write a bs).byte j = if a ≤ j ∧ j < a + bs.length then bs.getD (j - a) 0 else m.byte j := by
  induction bs generalizing m a with
  | nil =>
    have : ¬ (a ≤ j ∧ j < a + ([] : List Byte).length) := by simp only [List.length_nil]; omega
    rw [if_neg this, Mem.write]
  | cons b bs ih =>
    rw [Mem.write, ih, Mem.byte_setByte]
    have hl : (b :: bs).length = bs.length + 1 := rfl
    by_cases hj : j = a
    · subst j
      rw [if_neg (by omega), if_pos rfl, if_pos (by omega)]
      simp
    · by_cases h1 : a + 1 ≤ j ∧ j < a + 1 + bs.length
      · have h2 : j - a = (j - (a + 1)) + 1 := by omega
        rw [if_pos h1, if_pos (by omega), h2]; rfl
      · rw [if_neg h1, if_neg hj, if_neg (by omega)]

theorem Mem.byte_clear (m : Mem) (a n j : Nat) : (m.clear a n).byte j = if a ≤ j ∧ j < a + n then 0 else m.byte j := by
  unfold Mem.clear Mem.byte
  rw [Tab.get_drop]
  simp [Bool.and_eq_true, decide_eq_true_eq]

end Sys2Proof.Machine
end

