-- ==== Sys2Proof/Laws/State.lean ====
section
/-!
SUPPORT. What each update of the state leaves as it was, one lemma per field, and what it reads back.
-/
namespace Sys2Proof.Machine
open Sys2Proof

/-! `State.setReg`. -/

@[simp] theorem State.setReg_pending (s : State) (off : Nat) (v : Word) : (s.setReg off v).pending = s.pending := rfl
@[simp] theorem State.setReg_now (s : State) (off : Nat) (v : Word) : (s.setReg off v).now = s.now := rfl
@[simp] theorem State.setReg_freeNo (s : State) (off : Nat) (v : Word) : (s.setReg off v).freeNo = s.freeNo := rfl
@[simp] theorem State.setReg_part1920 (s : State) (off : Nat) (v : Word) : (s.setReg off v).part1920 = s.part1920 := rfl
@[simp] theorem State.setReg_cores (s : State) (off : Nat) (v : Word) : (s.setReg off v).cores = s.cores := rfl
@[simp] theorem State.setReg_counters (s : State) (off : Nat) (v : Word) : (s.setReg off v).counters = s.counters := rfl
@[simp] theorem State.setReg_requesters (s : State) (off : Nat) (v : Word) : (s.setReg off v).requesters = s.requesters := rfl
@[simp] theorem State.setReg_ends (s : State) (off : Nat) (v : Word) : (s.setReg off v).ends = s.ends := rfl
@[simp] theorem State.setReg_lanes (s : State) (off : Nat) (v : Word) : (s.setReg off v).lanes = s.lanes := rfl
@[simp] theorem State.setReg_planes (s : State) (off : Nat) (v : Word) : (s.setReg off v).planes = s.planes := rfl
@[simp] theorem State.setReg_lpddr (s : State) (off : Nat) (v : Word) : (s.setReg off v).lpddr = s.lpddr := rfl
@[simp] theorem State.setReg_lpddrErr (s : State) (off : Nat) (v : Word) : (s.setReg off v).lpddrErr = s.lpddrErr := rfl
@[simp] theorem State.setReg_channels (s : State) (off : Nat) (v : Word) : (s.setReg off v).channels = s.channels := rfl
@[simp] theorem State.setReg_vaults (s : State) (off : Nat) (v : Word) : (s.setReg off v).vaults = s.vaults := rfl
@[simp] theorem State.setReg_csram (s : State) (off : Nat) (v : Word) : (s.setReg off v).csram = s.csram := rfl
@[simp] theorem State.setReg_sentLinks (s : State) (off : Nat) (v : Word) : (s.setReg off v).sentLinks = s.sentLinks := rfl
@[simp] theorem State.setReg_extLinks (s : State) (off : Nat) (v : Word) : (s.setReg off v).extLinks = s.extLinks := rfl
@[simp] theorem State.setReg_unreach (s : State) (off : Nat) (v : Word) : (s.setReg off v).unreach = s.unreach := rfl
@[simp] theorem State.setReg_landing (s : State) (off : Nat) (v : Word) : (s.setReg off v).landing = s.landing := rfl
@[simp] theorem State.setReg_chanTable (s : State) (off : Nat) (v : Word) : (s.setReg off v).chanTable = s.chanTable := rfl
@[simp] theorem State.setReg_epoch (s : State) (off : Nat) (v : Word) : (s.setReg off v).epoch = s.epoch := rfl
@[simp] theorem State.setReg_fepoch (s : State) (off : Nat) (v : Word) : (s.setReg off v).fepoch = s.fepoch := rfl
@[simp] theorem State.setReg_farState (s : State) (off : Nat) (v : Word) : (s.setReg off v).farState = s.farState := rfl
@[simp] theorem State.setReg_farModule (s : State) (off : Nat) (v : Word) : (s.setReg off v).farModule = s.farModule := rfl
@[simp] theorem State.setReg_lastLink (s : State) (off : Nat) (v : Word) : (s.setReg off v).lastLink = s.lastLink := rfl
@[simp] theorem State.setReg_pathM (s : State) (off : Nat) (v : Word) : (s.setReg off v).pathM = s.pathM := rfl
@[simp] theorem State.setReg_selfOk (s : State) (off : Nat) (v : Word) : (s.setReg off v).selfOk = s.selfOk := rfl
@[simp] theorem State.setReg_selfErr (s : State) (off : Nat) (v : Word) : (s.setReg off v).selfErr = s.selfErr := rfl
@[simp] theorem State.setReg_light (s : State) (off : Nat) (v : Word) : (s.setReg off v).light = s.light := rfl
@[simp] theorem State.setReg_hwFault (s : State) (off : Nat) (v : Word) : (s.setReg off v).hwFault = s.hwFault := rfl
@[simp] theorem State.setReg_log (s : State) (off : Nat) (v : Word) : (s.setReg off v).log = s.log := rfl
@[simp] theorem State.setReg_logTotal (s : State) (off : Nat) (v : Word) : (s.setReg off v).logTotal = s.logTotal := rfl
@[simp] theorem State.setReg_logHeld (s : State) (off : Nat) (v : Word) : (s.setReg off v).logHeld = s.logHeld := rfl
@[simp] theorem State.setReg_resetReqs (s : State) (off : Nat) (v : Word) : (s.setReg off v).resetReqs = s.resetReqs := rfl
@[simp] theorem State.setReg_power (s : State) (off : Nat) (v : Word) : (s.setReg off v).power = s.power := rfl
@[simp] theorem State.setReg_mod (s : State) (off : Nat) (v : Word) : (s.setReg off v).mod = s.mod := rfl
@[simp] theorem State.setReg_marks (s : State) (off : Nat) (v : Word) : (s.setReg off v).marks = s.marks := rfl
@[simp] theorem State.setReg_serial (s : State) (off : Nat) (v : Word) : (s.setReg off v).serial = s.serial := rfl
@[simp] theorem State.setReg_stepping (s : State) (off : Nat) (v : Word) : (s.setReg off v).stepping = s.stepping := rfl

/-! `State.modCore`. -/

@[simp] theorem State.modCore_pending (s : State) (k : CoreId) (f : Core → Core) : (s.modCore k f).pending = s.pending := rfl
@[simp] theorem State.modCore_now (s : State) (k : CoreId) (f : Core → Core) : (s.modCore k f).now = s.now := rfl
@[simp] theorem State.modCore_freeNo (s : State) (k : CoreId) (f : Core → Core) : (s.modCore k f).freeNo = s.freeNo := rfl
@[simp] theorem State.modCore_part1920 (s : State) (k : CoreId) (f : Core → Core) : (s.modCore k f).part1920 = s.part1920 := rfl
@[simp] theorem State.modCore_regs (s : State) (k : CoreId) (f : Core → Core) : (s.modCore k f).regs = s.regs := rfl
@[simp] theorem State.modCore_counters (s : State) (k : CoreId) (f : Core → Core) : (s.modCore k f).counters = s.counters := rfl
@[simp] theorem State.modCore_requesters (s : State) (k : CoreId) (f : Core → Core) : (s.modCore k f).requesters = s.requesters := rfl
@[simp] theorem State.modCore_ends (s : State) (k : CoreId) (f : Core → Core) : (s.modCore k f).ends = s.ends := rfl
@[simp] theorem State.modCore_lanes (s : State) (k : CoreId) (f : Core → Core) : (s.modCore k f).lanes = s.lanes := rfl
@[simp] theorem State.modCore_planes (s : State) (k : CoreId) (f : Core → Core) : (s.modCore k f).planes = s.planes := rfl
@[simp] theorem State.modCore_lpddr (s : State) (k : CoreId) (f : Core → Core) : (s.modCore k f).lpddr = s.lpddr := rfl
@[simp] theorem State.modCore_lpddrErr (s : State) (k : CoreId) (f : Core → Core) : (s.modCore k f).lpddrErr = s.lpddrErr := rfl
@[simp] theorem State.modCore_channels (s : State) (k : CoreId) (f : Core → Core) : (s.modCore k f).channels = s.channels := rfl
@[simp] theorem State.modCore_vaults (s : State) (k : CoreId) (f : Core → Core) : (s.modCore k f).vaults = s.vaults := rfl
@[simp] theorem State.modCore_csram (s : State) (k : CoreId) (f : Core → Core) : (s.modCore k f).csram = s.csram := rfl
@[simp] theorem State.modCore_sentLinks (s : State) (k : CoreId) (f : Core → Core) : (s.modCore k f).sentLinks = s.sentLinks := rfl
@[simp] theorem State.modCore_extLinks (s : State) (k : CoreId) (f : Core → Core) : (s.modCore k f).extLinks = s.extLinks := rfl
@[simp] theorem State.modCore_unreach (s : State) (k : CoreId) (f : Core → Core) : (s.modCore k f).unreach = s.unreach := rfl
@[simp] theorem State.modCore_landing (s : State) (k : CoreId) (f : Core → Core) : (s.modCore k f).landing = s.landing := rfl
@[simp] theorem State.modCore_chanTable (s : State) (k : CoreId) (f : Core → Core) : (s.modCore k f).chanTable = s.chanTable := rfl
@[simp] theorem State.modCore_epoch (s : State) (k : CoreId) (f : Core → Core) : (s.modCore k f).epoch = s.epoch := rfl
@[simp] theorem State.modCore_fepoch (s : State) (k : CoreId) (f : Core → Core) : (s.modCore k f).fepoch = s.fepoch := rfl
@[simp] theorem State.modCore_farState (s : State) (k : CoreId) (f : Core → Core) : (s.modCore k f).farState = s.farState := rfl
@[simp] theorem State.modCore_farModule (s : State) (k : CoreId) (f : Core → Core) : (s.modCore k f).farModule = s.farModule := rfl
@[simp] theorem State.modCore_lastLink (s : State) (k : CoreId) (f : Core → Core) : (s.modCore k f).lastLink = s.lastLink := rfl
@[simp] theorem State.modCore_pathM (s : State) (k : CoreId) (f : Core → Core) : (s.modCore k f).pathM = s.pathM := rfl
@[simp] theorem State.modCore_selfOk (s : State) (k : CoreId) (f : Core → Core) : (s.modCore k f).selfOk = s.selfOk := rfl
@[simp] theorem State.modCore_selfErr (s : State) (k : CoreId) (f : Core → Core) : (s.modCore k f).selfErr = s.selfErr := rfl
@[simp] theorem State.modCore_light (s : State) (k : CoreId) (f : Core → Core) : (s.modCore k f).light = s.light := rfl
@[simp] theorem State.modCore_hwFault (s : State) (k : CoreId) (f : Core → Core) : (s.modCore k f).hwFault = s.hwFault := rfl
@[simp] theorem State.modCore_log (s : State) (k : CoreId) (f : Core → Core) : (s.modCore k f).log = s.log := rfl
@[simp] theorem State.modCore_logTotal (s : State) (k : CoreId) (f : Core → Core) : (s.modCore k f).logTotal = s.logTotal := rfl
@[simp] theorem State.modCore_logHeld (s : State) (k : CoreId) (f : Core → Core) : (s.modCore k f).logHeld = s.logHeld := rfl
@[simp] theorem State.modCore_resetReqs (s : State) (k : CoreId) (f : Core → Core) : (s.modCore k f).resetReqs = s.resetReqs := rfl
@[simp] theorem State.modCore_power (s : State) (k : CoreId) (f : Core → Core) : (s.modCore k f).power = s.power := rfl
@[simp] theorem State.modCore_mod (s : State) (k : CoreId) (f : Core → Core) : (s.modCore k f).mod = s.mod := rfl
@[simp] theorem State.modCore_marks (s : State) (k : CoreId) (f : Core → Core) : (s.modCore k f).marks = s.marks := rfl
@[simp] theorem State.modCore_serial (s : State) (k : CoreId) (f : Core → Core) : (s.modCore k f).serial = s.serial := rfl
@[simp] theorem State.modCore_stepping (s : State) (k : CoreId) (f : Core → Core) : (s.modCore k f).stepping = s.stepping := rfl

/-! `State.setCounter`. -/

@[simp] theorem State.setCounter_pending (s : State) (x k : Nat) (v : Lane) : (s.setCounter x k v).pending = s.pending := rfl
@[simp] theorem State.setCounter_now (s : State) (x k : Nat) (v : Lane) : (s.setCounter x k v).now = s.now := rfl
@[simp] theorem State.setCounter_freeNo (s : State) (x k : Nat) (v : Lane) : (s.setCounter x k v).freeNo = s.freeNo := rfl
@[simp] theorem State.setCounter_part1920 (s : State) (x k : Nat) (v : Lane) : (s.setCounter x k v).part1920 = s.part1920 := rfl
@[simp] theorem State.setCounter_regs (s : State) (x k : Nat) (v : Lane) : (s.setCounter x k v).regs = s.regs := rfl
@[simp] theorem State.setCounter_cores (s : State) (x k : Nat) (v : Lane) : (s.setCounter x k v).cores = s.cores := rfl
@[simp] theorem State.setCounter_requesters (s : State) (x k : Nat) (v : Lane) : (s.setCounter x k v).requesters = s.requesters := rfl
@[simp] theorem State.setCounter_ends (s : State) (x k : Nat) (v : Lane) : (s.setCounter x k v).ends = s.ends := rfl
@[simp] theorem State.setCounter_lanes (s : State) (x k : Nat) (v : Lane) : (s.setCounter x k v).lanes = s.lanes := rfl
@[simp] theorem State.setCounter_planes (s : State) (x k : Nat) (v : Lane) : (s.setCounter x k v).planes = s.planes := rfl
@[simp] theorem State.setCounter_lpddr (s : State) (x k : Nat) (v : Lane) : (s.setCounter x k v).lpddr = s.lpddr := rfl
@[simp] theorem State.setCounter_lpddrErr (s : State) (x k : Nat) (v : Lane) : (s.setCounter x k v).lpddrErr = s.lpddrErr := rfl
@[simp] theorem State.setCounter_channels (s : State) (x k : Nat) (v : Lane) : (s.setCounter x k v).channels = s.channels := rfl
@[simp] theorem State.setCounter_vaults (s : State) (x k : Nat) (v : Lane) : (s.setCounter x k v).vaults = s.vaults := rfl
@[simp] theorem State.setCounter_csram (s : State) (x k : Nat) (v : Lane) : (s.setCounter x k v).csram = s.csram := rfl
@[simp] theorem State.setCounter_sentLinks (s : State) (x k : Nat) (v : Lane) : (s.setCounter x k v).sentLinks = s.sentLinks := rfl
@[simp] theorem State.setCounter_extLinks (s : State) (x k : Nat) (v : Lane) : (s.setCounter x k v).extLinks = s.extLinks := rfl
@[simp] theorem State.setCounter_unreach (s : State) (x k : Nat) (v : Lane) : (s.setCounter x k v).unreach = s.unreach := rfl
@[simp] theorem State.setCounter_landing (s : State) (x k : Nat) (v : Lane) : (s.setCounter x k v).landing = s.landing := rfl
@[simp] theorem State.setCounter_chanTable (s : State) (x k : Nat) (v : Lane) : (s.setCounter x k v).chanTable = s.chanTable := rfl
@[simp] theorem State.setCounter_epoch (s : State) (x k : Nat) (v : Lane) : (s.setCounter x k v).epoch = s.epoch := rfl
@[simp] theorem State.setCounter_fepoch (s : State) (x k : Nat) (v : Lane) : (s.setCounter x k v).fepoch = s.fepoch := rfl
@[simp] theorem State.setCounter_farState (s : State) (x k : Nat) (v : Lane) : (s.setCounter x k v).farState = s.farState := rfl
@[simp] theorem State.setCounter_farModule (s : State) (x k : Nat) (v : Lane) : (s.setCounter x k v).farModule = s.farModule := rfl
@[simp] theorem State.setCounter_lastLink (s : State) (x k : Nat) (v : Lane) : (s.setCounter x k v).lastLink = s.lastLink := rfl
@[simp] theorem State.setCounter_pathM (s : State) (x k : Nat) (v : Lane) : (s.setCounter x k v).pathM = s.pathM := rfl
@[simp] theorem State.setCounter_selfOk (s : State) (x k : Nat) (v : Lane) : (s.setCounter x k v).selfOk = s.selfOk := rfl
@[simp] theorem State.setCounter_selfErr (s : State) (x k : Nat) (v : Lane) : (s.setCounter x k v).selfErr = s.selfErr := rfl
@[simp] theorem State.setCounter_light (s : State) (x k : Nat) (v : Lane) : (s.setCounter x k v).light = s.light := rfl
@[simp] theorem State.setCounter_hwFault (s : State) (x k : Nat) (v : Lane) : (s.setCounter x k v).hwFault = s.hwFault := rfl
@[simp] theorem State.setCounter_log (s : State) (x k : Nat) (v : Lane) : (s.setCounter x k v).log = s.log := rfl
@[simp] theorem State.setCounter_logTotal (s : State) (x k : Nat) (v : Lane) : (s.setCounter x k v).logTotal = s.logTotal := rfl
@[simp] theorem State.setCounter_logHeld (s : State) (x k : Nat) (v : Lane) : (s.setCounter x k v).logHeld = s.logHeld := rfl
@[simp] theorem State.setCounter_resetReqs (s : State) (x k : Nat) (v : Lane) : (s.setCounter x k v).resetReqs = s.resetReqs := rfl
@[simp] theorem State.setCounter_power (s : State) (x k : Nat) (v : Lane) : (s.setCounter x k v).power = s.power := rfl
@[simp] theorem State.setCounter_mod (s : State) (x k : Nat) (v : Lane) : (s.setCounter x k v).mod = s.mod := rfl
@[simp] theorem State.setCounter_marks (s : State) (x k : Nat) (v : Lane) : (s.setCounter x k v).marks = s.marks := rfl
@[simp] theorem State.setCounter_serial (s : State) (x k : Nat) (v : Lane) : (s.setCounter x k v).serial = s.serial := rfl
@[simp] theorem State.setCounter_stepping (s : State) (x k : Nat) (v : Lane) : (s.setCounter x k v).stepping = s.stepping := rfl

/-! `State.modReq`. -/

@[simp] theorem State.modReq_pending (s : State) (x : Nat) (f : Requester → Requester) : (s.modReq x f).pending = s.pending := rfl
@[simp] theorem State.modReq_now (s : State) (x : Nat) (f : Requester → Requester) : (s.modReq x f).now = s.now := rfl
@[simp] theorem State.modReq_freeNo (s : State) (x : Nat) (f : Requester → Requester) : (s.modReq x f).freeNo = s.freeNo := rfl
@[simp] theorem State.modReq_part1920 (s : State) (x : Nat) (f : Requester → Requester) : (s.modReq x f).part1920 = s.part1920 := rfl
@[simp] theorem State.modReq_regs (s : State) (x : Nat) (f : Requester → Requester) : (s.modReq x f).regs = s.regs := rfl
@[simp] theorem State.modReq_cores (s : State) (x : Nat) (f : Requester → Requester) : (s.modReq x f).cores = s.cores := rfl
@[simp] theorem State.modReq_counters (s : State) (x : Nat) (f : Requester → Requester) : (s.modReq x f).counters = s.counters := rfl
@[simp] theorem State.modReq_ends (s : State) (x : Nat) (f : Requester → Requester) : (s.modReq x f).ends = s.ends := rfl
@[simp] theorem State.modReq_lanes (s : State) (x : Nat) (f : Requester → Requester) : (s.modReq x f).lanes = s.lanes := rfl
@[simp] theorem State.modReq_planes (s : State) (x : Nat) (f : Requester → Requester) : (s.modReq x f).planes = s.planes := rfl
@[simp] theorem State.modReq_lpddr (s : State) (x : Nat) (f : Requester → Requester) : (s.modReq x f).lpddr = s.lpddr := rfl
@[simp] theorem State.modReq_lpddrErr (s : State) (x : Nat) (f : Requester → Requester) : (s.modReq x f).lpddrErr = s.lpddrErr := rfl
@[simp] theorem State.modReq_channels (s : State) (x : Nat) (f : Requester → Requester) : (s.modReq x f).channels = s.channels := rfl
@[simp] theorem State.modReq_vaults (s : State) (x : Nat) (f : Requester → Requester) : (s.modReq x f).vaults = s.vaults := rfl
@[simp] theorem State.modReq_csram (s : State) (x : Nat) (f : Requester → Requester) : (s.modReq x f).csram = s.csram := rfl
@[simp] theorem State.modReq_sentLinks (s : State) (x : Nat) (f : Requester → Requester) : (s.modReq x f).sentLinks = s.sentLinks := rfl
@[simp] theorem State.modReq_extLinks (s : State) (x : Nat) (f : Requester → Requester) : (s.modReq x f).extLinks = s.extLinks := rfl
@[simp] theorem State.modReq_unreach (s : State) (x : Nat) (f : Requester → Requester) : (s.modReq x f).unreach = s.unreach := rfl
@[simp] theorem State.modReq_landing (s : State) (x : Nat) (f : Requester → Requester) : (s.modReq x f).landing = s.landing := rfl
@[simp] theorem State.modReq_chanTable (s : State) (x : Nat) (f : Requester → Requester) : (s.modReq x f).chanTable = s.chanTable := rfl
@[simp] theorem State.modReq_epoch (s : State) (x : Nat) (f : Requester → Requester) : (s.modReq x f).epoch = s.epoch := rfl
@[simp] theorem State.modReq_fepoch (s : State) (x : Nat) (f : Requester → Requester) : (s.modReq x f).fepoch = s.fepoch := rfl
@[simp] theorem State.modReq_farState (s : State) (x : Nat) (f : Requester → Requester) : (s.modReq x f).farState = s.farState := rfl
@[simp] theorem State.modReq_farModule (s : State) (x : Nat) (f : Requester → Requester) : (s.modReq x f).farModule = s.farModule := rfl
@[simp] theorem State.modReq_lastLink (s : State) (x : Nat) (f : Requester → Requester) : (s.modReq x f).lastLink = s.lastLink := rfl
@[simp] theorem State.modReq_pathM (s : State) (x : Nat) (f : Requester → Requester) : (s.modReq x f).pathM = s.pathM := rfl
@[simp] theorem State.modReq_selfOk (s : State) (x : Nat) (f : Requester → Requester) : (s.modReq x f).selfOk = s.selfOk := rfl
@[simp] theorem State.modReq_selfErr (s : State) (x : Nat) (f : Requester → Requester) : (s.modReq x f).selfErr = s.selfErr := rfl
@[simp] theorem State.modReq_light (s : State) (x : Nat) (f : Requester → Requester) : (s.modReq x f).light = s.light := rfl
@[simp] theorem State.modReq_hwFault (s : State) (x : Nat) (f : Requester → Requester) : (s.modReq x f).hwFault = s.hwFault := rfl
@[simp] theorem State.modReq_log (s : State) (x : Nat) (f : Requester → Requester) : (s.modReq x f).log = s.log := rfl
@[simp] theorem State.modReq_logTotal (s : State) (x : Nat) (f : Requester → Requester) : (s.modReq x f).logTotal = s.logTotal := rfl
@[simp] theorem State.modReq_logHeld (s : State) (x : Nat) (f : Requester → Requester) : (s.modReq x f).logHeld = s.logHeld := rfl
@[simp] theorem State.modReq_resetReqs (s : State) (x : Nat) (f : Requester → Requester) : (s.modReq x f).resetReqs = s.resetReqs := rfl
@[simp] theorem State.modReq_power (s : State) (x : Nat) (f : Requester → Requester) : (s.modReq x f).power = s.power := rfl
@[simp] theorem State.modReq_mod (s : State) (x : Nat) (f : Requester → Requester) : (s.modReq x f).mod = s.mod := rfl
@[simp] theorem State.modReq_marks (s : State) (x : Nat) (f : Requester → Requester) : (s.modReq x f).marks = s.marks := rfl
@[simp] theorem State.modReq_serial (s : State) (x : Nat) (f : Requester → Requester) : (s.modReq x f).serial = s.serial := rfl
@[simp] theorem State.modReq_stepping (s : State) (x : Nat) (f : Requester → Requester) : (s.modReq x f).stepping = s.stepping := rfl

/-! `State.modEnd`. -/

@[simp] theorem State.modEnd_pending (s : State) (e : Nat) (f : EndState → EndState) : (s.modEnd e f).pending = s.pending := rfl
@[simp] theorem State.modEnd_now (s : State) (e : Nat) (f : EndState → EndState) : (s.modEnd e f).now = s.now := rfl
@[simp] theorem State.modEnd_freeNo (s : State) (e : Nat) (f : EndState → EndState) : (s.modEnd e f).freeNo = s.freeNo := rfl
@[simp] theorem State.modEnd_part1920 (s : State) (e : Nat) (f : EndState → EndState) : (s.modEnd e f).part1920 = s.part1920 := rfl
@[simp] theorem State.modEnd_regs (s : State) (e : Nat) (f : EndState → EndState) : (s.modEnd e f).regs = s.regs := rfl
@[simp] theorem State.modEnd_cores (s : State) (e : Nat) (f : EndState → EndState) : (s.modEnd e f).cores = s.cores := rfl
@[simp] theorem State.modEnd_counters (s : State) (e : Nat) (f : EndState → EndState) : (s.modEnd e f).counters = s.counters := rfl
@[simp] theorem State.modEnd_requesters (s : State) (e : Nat) (f : EndState → EndState) : (s.modEnd e f).requesters = s.requesters := rfl
@[simp] theorem State.modEnd_lanes (s : State) (e : Nat) (f : EndState → EndState) : (s.modEnd e f).lanes = s.lanes := rfl
@[simp] theorem State.modEnd_planes (s : State) (e : Nat) (f : EndState → EndState) : (s.modEnd e f).planes = s.planes := rfl
@[simp] theorem State.modEnd_lpddr (s : State) (e : Nat) (f : EndState → EndState) : (s.modEnd e f).lpddr = s.lpddr := rfl
@[simp] theorem State.modEnd_lpddrErr (s : State) (e : Nat) (f : EndState → EndState) : (s.modEnd e f).lpddrErr = s.lpddrErr := rfl
@[simp] theorem State.modEnd_channels (s : State) (e : Nat) (f : EndState → EndState) : (s.modEnd e f).channels = s.channels := rfl
@[simp] theorem State.modEnd_vaults (s : State) (e : Nat) (f : EndState → EndState) : (s.modEnd e f).vaults = s.vaults := rfl
@[simp] theorem State.modEnd_csram (s : State) (e : Nat) (f : EndState → EndState) : (s.modEnd e f).csram = s.csram := rfl
@[simp] theorem State.modEnd_sentLinks (s : State) (e : Nat) (f : EndState → EndState) : (s.modEnd e f).sentLinks = s.sentLinks := rfl
@[simp] theorem State.modEnd_extLinks (s : State) (e : Nat) (f : EndState → EndState) : (s.modEnd e f).extLinks = s.extLinks := rfl
@[simp] theorem State.modEnd_unreach (s : State) (e : Nat) (f : EndState → EndState) : (s.modEnd e f).unreach = s.unreach := rfl
@[simp] theorem State.modEnd_landing (s : State) (e : Nat) (f : EndState → EndState) : (s.modEnd e f).landing = s.landing := rfl
@[simp] theorem State.modEnd_chanTable (s : State) (e : Nat) (f : EndState → EndState) : (s.modEnd e f).chanTable = s.chanTable := rfl
@[simp] theorem State.modEnd_epoch (s : State) (e : Nat) (f : EndState → EndState) : (s.modEnd e f).epoch = s.epoch := rfl
@[simp] theorem State.modEnd_fepoch (s : State) (e : Nat) (f : EndState → EndState) : (s.modEnd e f).fepoch = s.fepoch := rfl
@[simp] theorem State.modEnd_farState (s : State) (e : Nat) (f : EndState → EndState) : (s.modEnd e f).farState = s.farState := rfl
@[simp] theorem State.modEnd_farModule (s : State) (e : Nat) (f : EndState → EndState) : (s.modEnd e f).farModule = s.farModule := rfl
@[simp] theorem State.modEnd_lastLink (s : State) (e : Nat) (f : EndState → EndState) : (s.modEnd e f).lastLink = s.lastLink := rfl
@[simp] theorem State.modEnd_pathM (s : State) (e : Nat) (f : EndState → EndState) : (s.modEnd e f).pathM = s.pathM := rfl
@[simp] theorem State.modEnd_selfOk (s : State) (e : Nat) (f : EndState → EndState) : (s.modEnd e f).selfOk = s.selfOk := rfl
@[simp] theorem State.modEnd_selfErr (s : State) (e : Nat) (f : EndState → EndState) : (s.modEnd e f).selfErr = s.selfErr := rfl
@[simp] theorem State.modEnd_light (s : State) (e : Nat) (f : EndState → EndState) : (s.modEnd e f).light = s.light := rfl
@[simp] theorem State.modEnd_hwFault (s : State) (e : Nat) (f : EndState → EndState) : (s.modEnd e f).hwFault = s.hwFault := rfl
@[simp] theorem State.modEnd_log (s : State) (e : Nat) (f : EndState → EndState) : (s.modEnd e f).log = s.log := rfl
@[simp] theorem State.modEnd_logTotal (s : State) (e : Nat) (f : EndState → EndState) : (s.modEnd e f).logTotal = s.logTotal := rfl
@[simp] theorem State.modEnd_logHeld (s : State) (e : Nat) (f : EndState → EndState) : (s.modEnd e f).logHeld = s.logHeld := rfl
@[simp] theorem State.modEnd_resetReqs (s : State) (e : Nat) (f : EndState → EndState) : (s.modEnd e f).resetReqs = s.resetReqs := rfl
@[simp] theorem State.modEnd_power (s : State) (e : Nat) (f : EndState → EndState) : (s.modEnd e f).power = s.power := rfl
@[simp] theorem State.modEnd_mod (s : State) (e : Nat) (f : EndState → EndState) : (s.modEnd e f).mod = s.mod := rfl
@[simp] theorem State.modEnd_marks (s : State) (e : Nat) (f : EndState → EndState) : (s.modEnd e f).marks = s.marks := rfl
@[simp] theorem State.modEnd_serial (s : State) (e : Nat) (f : EndState → EndState) : (s.modEnd e f).serial = s.serial := rfl
@[simp] theorem State.modEnd_stepping (s : State) (e : Nat) (f : EndState → EndState) : (s.modEnd e f).stepping = s.stepping := rfl

/-! `State.modVault`. -/

@[simp] theorem State.modVault_pending (s : State) (t : Nat) (f : Vault → Vault) : (s.modVault t f).pending = s.pending := rfl
@[simp] theorem State.modVault_now (s : State) (t : Nat) (f : Vault → Vault) : (s.modVault t f).now = s.now := rfl
@[simp] theorem State.modVault_freeNo (s : State) (t : Nat) (f : Vault → Vault) : (s.modVault t f).freeNo = s.freeNo := rfl
@[simp] theorem State.modVault_part1920 (s : State) (t : Nat) (f : Vault → Vault) : (s.modVault t f).part1920 = s.part1920 := rfl
@[simp] theorem State.modVault_regs (s : State) (t : Nat) (f : Vault → Vault) : (s.modVault t f).regs = s.regs := rfl
@[simp] theorem State.modVault_cores (s : State) (t : Nat) (f : Vault → Vault) : (s.modVault t f).cores = s.cores := rfl
@[simp] theorem State.modVault_counters (s : State) (t : Nat) (f : Vault → Vault) : (s.modVault t f).counters = s.counters := rfl
@[simp] theorem State.modVault_requesters (s : State) (t : Nat) (f : Vault → Vault) : (s.modVault t f).requesters = s.requesters := rfl
@[simp] theorem State.modVault_ends (s : State) (t : Nat) (f : Vault → Vault) : (s.modVault t f).ends = s.ends := rfl
@[simp] theorem State.modVault_lanes (s : State) (t : Nat) (f : Vault → Vault) : (s.modVault t f).lanes = s.lanes := rfl
@[simp] theorem State.modVault_planes (s : State) (t : Nat) (f : Vault → Vault) : (s.modVault t f).planes = s.planes := rfl
@[simp] theorem State.modVault_lpddr (s : State) (t : Nat) (f : Vault → Vault) : (s.modVault t f).lpddr = s.lpddr := rfl
@[simp] theorem State.modVault_lpddrErr (s : State) (t : Nat) (f : Vault → Vault) : (s.modVault t f).lpddrErr = s.lpddrErr := rfl
@[simp] theorem State.modVault_channels (s : State) (t : Nat) (f : Vault → Vault) : (s.modVault t f).channels = s.channels := rfl
@[simp] theorem State.modVault_csram (s : State) (t : Nat) (f : Vault → Vault) : (s.modVault t f).csram = s.csram := rfl
@[simp] theorem State.modVault_sentLinks (s : State) (t : Nat) (f : Vault → Vault) : (s.modVault t f).sentLinks = s.sentLinks := rfl
@[simp] theorem State.modVault_extLinks (s : State) (t : Nat) (f : Vault → Vault) : (s.modVault t f).extLinks = s.extLinks := rfl
@[simp] theorem State.modVault_unreach (s : State) (t : Nat) (f : Vault → Vault) : (s.modVault t f).unreach = s.unreach := rfl
@[simp] theorem State.modVault_landing (s : State) (t : Nat) (f : Vault → Vault) : (s.modVault t f).landing = s.landing := rfl
@[simp] theorem State.modVault_chanTable (s : State) (t : Nat) (f : Vault → Vault) : (s.modVault t f).chanTable = s.chanTable := rfl
@[simp] theorem State.modVault_epoch (s : State) (t : Nat) (f : Vault → Vault) : (s.modVault t f).epoch = s.epoch := rfl
@[simp] theorem State.modVault_fepoch (s : State) (t : Nat) (f : Vault → Vault) : (s.modVault t f).fepoch = s.fepoch := rfl
@[simp] theorem State.modVault_farState (s : State) (t : Nat) (f : Vault → Vault) : (s.modVault t f).farState = s.farState := rfl
@[simp] theorem State.modVault_farModule (s : State) (t : Nat) (f : Vault → Vault) : (s.modVault t f).farModule = s.farModule := rfl
@[simp] theorem State.modVault_lastLink (s : State) (t : Nat) (f : Vault → Vault) : (s.modVault t f).lastLink = s.lastLink := rfl
@[simp] theorem State.modVault_pathM (s : State) (t : Nat) (f : Vault → Vault) : (s.modVault t f).pathM = s.pathM := rfl
@[simp] theorem State.modVault_selfOk (s : State) (t : Nat) (f : Vault → Vault) : (s.modVault t f).selfOk = s.selfOk := rfl
@[simp] theorem State.modVault_selfErr (s : State) (t : Nat) (f : Vault → Vault) : (s.modVault t f).selfErr = s.selfErr := rfl
@[simp] theorem State.modVault_light (s : State) (t : Nat) (f : Vault → Vault) : (s.modVault t f).light = s.light := rfl
@[simp] theorem State.modVault_hwFault (s : State) (t : Nat) (f : Vault → Vault) : (s.modVault t f).hwFault = s.hwFault := rfl
@[simp] theorem State.modVault_log (s : State) (t : Nat) (f : Vault → Vault) : (s.modVault t f).log = s.log := rfl
@[simp] theorem State.modVault_logTotal (s : State) (t : Nat) (f : Vault → Vault) : (s.modVault t f).logTotal = s.logTotal := rfl
@[simp] theorem State.modVault_logHeld (s : State) (t : Nat) (f : Vault → Vault) : (s.modVault t f).logHeld = s.logHeld := rfl
@[simp] theorem State.modVault_resetReqs (s : State) (t : Nat) (f : Vault → Vault) : (s.modVault t f).resetReqs = s.resetReqs := rfl
@[simp] theorem State.modVault_power (s : State) (t : Nat) (f : Vault → Vault) : (s.modVault t f).power = s.power := rfl
@[simp] theorem State.modVault_mod (s : State) (t : Nat) (f : Vault → Vault) : (s.modVault t f).mod = s.mod := rfl
@[simp] theorem State.modVault_marks (s : State) (t : Nat) (f : Vault → Vault) : (s.modVault t f).marks = s.marks := rfl
@[simp] theorem State.modVault_serial (s : State) (t : Nat) (f : Vault → Vault) : (s.modVault t f).serial = s.serial := rfl
@[simp] theorem State.modVault_stepping (s : State) (t : Nat) (f : Vault → Vault) : (s.modVault t f).stepping = s.stepping := rfl

/-! `State.modChan`. -/

@[simp] theorem State.modChan_pending (s : State) (c : Nat) (f : Channel → Channel) : (s.modChan c f).pending = s.pending := rfl
@[simp] theorem State.modChan_now (s : State) (c : Nat) (f : Channel → Channel) : (s.modChan c f).now = s.now := rfl
@[simp] theorem State.modChan_freeNo (s : State) (c : Nat) (f : Channel → Channel) : (s.modChan c f).freeNo = s.freeNo := rfl
@[simp] theorem State.modChan_part1920 (s : State) (c : Nat) (f : Channel → Channel) : (s.modChan c f).part1920 = s.part1920 := rfl
@[simp] theorem State.modChan_regs (s : State) (c : Nat) (f : Channel → Channel) : (s.modChan c f).regs = s.regs := rfl
@[simp] theorem State.modChan_cores (s : State) (c : Nat) (f : Channel → Channel) : (s.modChan c f).cores = s.cores := rfl
@[simp] theorem State.modChan_counters (s : State) (c : Nat) (f : Channel → Channel) : (s.modChan c f).counters = s.counters := rfl
@[simp] theorem State.modChan_requesters (s : State) (c : Nat) (f : Channel → Channel) : (s.modChan c f).requesters = s.requesters := rfl
@[simp] theorem State.modChan_ends (s : State) (c : Nat) (f : Channel → Channel) : (s.modChan c f).ends = s.ends := rfl
@[simp] theorem State.modChan_lanes (s : State) (c : Nat) (f : Channel → Channel) : (s.modChan c f).lanes = s.lanes := rfl
@[simp] theorem State.modChan_planes (s : State) (c : Nat) (f : Channel → Channel) : (s.modChan c f).planes = s.planes := rfl
@[simp] theorem State.modChan_lpddr (s : State) (c : Nat) (f : Channel → Channel) : (s.modChan c f).lpddr = s.lpddr := rfl
@[simp] theorem State.modChan_lpddrErr (s : State) (c : Nat) (f : Channel → Channel) : (s.modChan c f).lpddrErr = s.lpddrErr := rfl
@[simp] theorem State.modChan_vaults (s : State) (c : Nat) (f : Channel → Channel) : (s.modChan c f).vaults = s.vaults := rfl
@[simp] theorem State.modChan_csram (s : State) (c : Nat) (f : Channel → Channel) : (s.modChan c f).csram = s.csram := rfl
@[simp] theorem State.modChan_sentLinks (s : State) (c : Nat) (f : Channel → Channel) : (s.modChan c f).sentLinks = s.sentLinks := rfl
@[simp] theorem State.modChan_extLinks (s : State) (c : Nat) (f : Channel → Channel) : (s.modChan c f).extLinks = s.extLinks := rfl
@[simp] theorem State.modChan_unreach (s : State) (c : Nat) (f : Channel → Channel) : (s.modChan c f).unreach = s.unreach := rfl
@[simp] theorem State.modChan_landing (s : State) (c : Nat) (f : Channel → Channel) : (s.modChan c f).landing = s.landing := rfl
@[simp] theorem State.modChan_chanTable (s : State) (c : Nat) (f : Channel → Channel) : (s.modChan c f).chanTable = s.chanTable := rfl
@[simp] theorem State.modChan_epoch (s : State) (c : Nat) (f : Channel → Channel) : (s.modChan c f).epoch = s.epoch := rfl
@[simp] theorem State.modChan_fepoch (s : State) (c : Nat) (f : Channel → Channel) : (s.modChan c f).fepoch = s.fepoch := rfl
@[simp] theorem State.modChan_farState (s : State) (c : Nat) (f : Channel → Channel) : (s.modChan c f).farState = s.farState := rfl
@[simp] theorem State.modChan_farModule (s : State) (c : Nat) (f : Channel → Channel) : (s.modChan c f).farModule = s.farModule := rfl
@[simp] theorem State.modChan_lastLink (s : State) (c : Nat) (f : Channel → Channel) : (s.modChan c f).lastLink = s.lastLink := rfl
@[simp] theorem State.modChan_pathM (s : State) (c : Nat) (f : Channel → Channel) : (s.modChan c f).pathM = s.pathM := rfl
@[simp] theorem State.modChan_selfOk (s : State) (c : Nat) (f : Channel → Channel) : (s.modChan c f).selfOk = s.selfOk := rfl
@[simp] theorem State.modChan_selfErr (s : State) (c : Nat) (f : Channel → Channel) : (s.modChan c f).selfErr = s.selfErr := rfl
@[simp] theorem State.modChan_light (s : State) (c : Nat) (f : Channel → Channel) : (s.modChan c f).light = s.light := rfl
@[simp] theorem State.modChan_hwFault (s : State) (c : Nat) (f : Channel → Channel) : (s.modChan c f).hwFault = s.hwFault := rfl
@[simp] theorem State.modChan_log (s : State) (c : Nat) (f : Channel → Channel) : (s.modChan c f).log = s.log := rfl
@[simp] theorem State.modChan_logTotal (s : State) (c : Nat) (f : Channel → Channel) : (s.modChan c f).logTotal = s.logTotal := rfl
@[simp] theorem State.modChan_logHeld (s : State) (c : Nat) (f : Channel → Channel) : (s.modChan c f).logHeld = s.logHeld := rfl
@[simp] theorem State.modChan_resetReqs (s : State) (c : Nat) (f : Channel → Channel) : (s.modChan c f).resetReqs = s.resetReqs := rfl
@[simp] theorem State.modChan_power (s : State) (c : Nat) (f : Channel → Channel) : (s.modChan c f).power = s.power := rfl
@[simp] theorem State.modChan_mod (s : State) (c : Nat) (f : Channel → Channel) : (s.modChan c f).mod = s.mod := rfl
@[simp] theorem State.modChan_marks (s : State) (c : Nat) (f : Channel → Channel) : (s.modChan c f).marks = s.marks := rfl
@[simp] theorem State.modChan_serial (s : State) (c : Nat) (f : Channel → Channel) : (s.modChan c f).serial = s.serial := rfl
@[simp] theorem State.modChan_stepping (s : State) (c : Nat) (f : Channel → Channel) : (s.modChan c f).stepping = s.stepping := rfl

/-! `State.reach`. -/

@[simp] theorem State.reach_pending (s : State) (t : Nat) : (s.reach t).pending = s.pending := rfl
@[simp] theorem State.reach_freeNo (s : State) (t : Nat) : (s.reach t).freeNo = s.freeNo := rfl
@[simp] theorem State.reach_part1920 (s : State) (t : Nat) : (s.reach t).part1920 = s.part1920 := rfl
@[simp] theorem State.reach_regs (s : State) (t : Nat) : (s.reach t).regs = s.regs := rfl
@[simp] theorem State.reach_cores (s : State) (t : Nat) : (s.reach t).cores = s.cores := rfl
@[simp] theorem State.reach_counters (s : State) (t : Nat) : (s.reach t).counters = s.counters := rfl
@[simp] theorem State.reach_requesters (s : State) (t : Nat) : (s.reach t).requesters = s.requesters := rfl
@[simp] theorem State.reach_ends (s : State) (t : Nat) : (s.reach t).ends = s.ends := rfl
@[simp] theorem State.reach_lanes (s : State) (t : Nat) : (s.reach t).lanes = s.lanes := rfl
@[simp] theorem State.reach_planes (s : State) (t : Nat) : (s.reach t).planes = s.planes := rfl
@[simp] theorem State.reach_lpddr (s : State) (t : Nat) : (s.reach t).lpddr = s.lpddr := rfl
@[simp] theorem State.reach_lpddrErr (s : State) (t : Nat) : (s.reach t).lpddrErr = s.lpddrErr := rfl
@[simp] theorem State.reach_channels (s : State) (t : Nat) : (s.reach t).channels = s.channels := rfl
@[simp] theorem State.reach_vaults (s : State) (t : Nat) : (s.reach t).vaults = s.vaults := rfl
@[simp] theorem State.reach_csram (s : State) (t : Nat) : (s.reach t).csram = s.csram := rfl
@[simp] theorem State.reach_sentLinks (s : State) (t : Nat) : (s.reach t).sentLinks = s.sentLinks := rfl
@[simp] theorem State.reach_extLinks (s : State) (t : Nat) : (s.reach t).extLinks = s.extLinks := rfl
@[simp] theorem State.reach_unreach (s : State) (t : Nat) : (s.reach t).unreach = s.unreach := rfl
@[simp] theorem State.reach_landing (s : State) (t : Nat) : (s.reach t).landing = s.landing := rfl
@[simp] theorem State.reach_chanTable (s : State) (t : Nat) : (s.reach t).chanTable = s.chanTable := rfl
@[simp] theorem State.reach_epoch (s : State) (t : Nat) : (s.reach t).epoch = s.epoch := rfl
@[simp] theorem State.reach_fepoch (s : State) (t : Nat) : (s.reach t).fepoch = s.fepoch := rfl
@[simp] theorem State.reach_farState (s : State) (t : Nat) : (s.reach t).farState = s.farState := rfl
@[simp] theorem State.reach_farModule (s : State) (t : Nat) : (s.reach t).farModule = s.farModule := rfl
@[simp] theorem State.reach_lastLink (s : State) (t : Nat) : (s.reach t).lastLink = s.lastLink := rfl
@[simp] theorem State.reach_pathM (s : State) (t : Nat) : (s.reach t).pathM = s.pathM := rfl
@[simp] theorem State.reach_selfOk (s : State) (t : Nat) : (s.reach t).selfOk = s.selfOk := rfl
@[simp] theorem State.reach_selfErr (s : State) (t : Nat) : (s.reach t).selfErr = s.selfErr := rfl
@[simp] theorem State.reach_light (s : State) (t : Nat) : (s.reach t).light = s.light := rfl
@[simp] theorem State.reach_hwFault (s : State) (t : Nat) : (s.reach t).hwFault = s.hwFault := rfl
@[simp] theorem State.reach_log (s : State) (t : Nat) : (s.reach t).log = s.log := rfl
@[simp] theorem State.reach_logTotal (s : State) (t : Nat) : (s.reach t).logTotal = s.logTotal := rfl
@[simp] theorem State.reach_logHeld (s : State) (t : Nat) : (s.reach t).logHeld = s.logHeld := rfl
@[simp] theorem State.reach_resetReqs (s : State) (t : Nat) : (s.reach t).resetReqs = s.resetReqs := rfl
@[simp] theorem State.reach_power (s : State) (t : Nat) : (s.reach t).power = s.power := rfl
@[simp] theorem State.reach_mod (s : State) (t : Nat) : (s.reach t).mod = s.mod := rfl
@[simp] theorem State.reach_marks (s : State) (t : Nat) : (s.reach t).marks = s.marks := rfl
@[simp] theorem State.reach_serial (s : State) (t : Nat) : (s.reach t).serial = s.serial := rfl
@[simp] theorem State.reach_stepping (s : State) (t : Nat) : (s.reach t).stepping = s.stepping := rfl

/-! `State.modLane`. -/

@[simp] theorem State.modLane_pending (s : State) (k : Nat) (f : LaneState → LaneState) : (s.modLane k f).pending = s.pending := rfl
@[simp] theorem State.modLane_now (s : State) (k : Nat) (f : LaneState → LaneState) : (s.modLane k f).now = s.now := rfl
@[simp] theorem State.modLane_freeNo (s : State) (k : Nat) (f : LaneState → LaneState) : (s.modLane k f).freeNo = s.freeNo := rfl
@[simp] theorem State.modLane_part1920 (s : State) (k : Nat) (f : LaneState → LaneState) : (s.modLane k f).part1920 = s.part1920 := rfl
@[simp] theorem State.modLane_regs (s : State) (k : Nat) (f : LaneState → LaneState) : (s.modLane k f).regs = s.regs := rfl
@[simp] theorem State.modLane_cores (s : State) (k : Nat) (f : LaneState → LaneState) : (s.modLane k f).cores = s.cores := rfl
@[simp] theorem State.modLane_counters (s : State) (k : Nat) (f : LaneState → LaneState) : (s.modLane k f).counters = s.counters := rfl
@[simp] theorem State.modLane_requesters (s : State) (k : Nat) (f : LaneState → LaneState) : (s.modLane k f).requesters = s.requesters := rfl
@[simp] theorem State.modLane_ends (s : State) (k : Nat) (f : LaneState → LaneState) : (s.modLane k f).ends = s.ends := rfl
@[simp] theorem State.modLane_planes (s : State) (k : Nat) (f : LaneState → LaneState) : (s.modLane k f).planes = s.planes := rfl
@[simp] theorem State.modLane_lpddr (s : State) (k : Nat) (f : LaneState → LaneState) : (s.modLane k f).lpddr = s.lpddr := rfl
@[simp] theorem State.modLane_lpddrErr (s : State) (k : Nat) (f : LaneState → LaneState) : (s.modLane k f).lpddrErr = s.lpddrErr := rfl
@[simp] theorem State.modLane_channels (s : State) (k : Nat) (f : LaneState → LaneState) : (s.modLane k f).channels = s.channels := rfl
@[simp] theorem State.modLane_vaults (s : State) (k : Nat) (f : LaneState → LaneState) : (s.modLane k f).vaults = s.vaults := rfl
@[simp] theorem State.modLane_csram (s : State) (k : Nat) (f : LaneState → LaneState) : (s.modLane k f).csram = s.csram := rfl
@[simp] theorem State.modLane_sentLinks (s : State) (k : Nat) (f : LaneState → LaneState) : (s.modLane k f).sentLinks = s.sentLinks := rfl
@[simp] theorem State.modLane_extLinks (s : State) (k : Nat) (f : LaneState → LaneState) : (s.modLane k f).extLinks = s.extLinks := rfl
@[simp] theorem State.modLane_unreach (s : State) (k : Nat) (f : LaneState → LaneState) : (s.modLane k f).unreach = s.unreach := rfl
@[simp] theorem State.modLane_landing (s : State) (k : Nat) (f : LaneState → LaneState) : (s.modLane k f).landing = s.landing := rfl
@[simp] theorem State.modLane_chanTable (s : State) (k : Nat) (f : LaneState → LaneState) : (s.modLane k f).chanTable = s.chanTable := rfl
@[simp] theorem State.modLane_epoch (s : State) (k : Nat) (f : LaneState → LaneState) : (s.modLane k f).epoch = s.epoch := rfl
@[simp] theorem State.modLane_fepoch (s : State) (k : Nat) (f : LaneState → LaneState) : (s.modLane k f).fepoch = s.fepoch := rfl
@[simp] theorem State.modLane_farState (s : State) (k : Nat) (f : LaneState → LaneState) : (s.modLane k f).farState = s.farState := rfl
@[simp] theorem State.modLane_farModule (s : State) (k : Nat) (f : LaneState → LaneState) : (s.modLane k f).farModule = s.farModule := rfl
@[simp] theorem State.modLane_lastLink (s : State) (k : Nat) (f : LaneState → LaneState) : (s.modLane k f).lastLink = s.lastLink := rfl
@[simp] theorem State.modLane_pathM (s : State) (k : Nat) (f : LaneState → LaneState) : (s.modLane k f).pathM = s.pathM := rfl
@[simp] theorem State.modLane_selfOk (s : State) (k : Nat) (f : LaneState → LaneState) : (s.modLane k f).selfOk = s.selfOk := rfl
@[simp] theorem State.modLane_selfErr (s : State) (k : Nat) (f : LaneState → LaneState) : (s.modLane k f).selfErr = s.selfErr := rfl
@[simp] theorem State.modLane_light (s : State) (k : Nat) (f : LaneState → LaneState) : (s.modLane k f).light = s.light := rfl
@[simp] theorem State.modLane_hwFault (s : State) (k : Nat) (f : LaneState → LaneState) : (s.modLane k f).hwFault = s.hwFault := rfl
@[simp] theorem State.modLane_log (s : State) (k : Nat) (f : LaneState → LaneState) : (s.modLane k f).log = s.log := rfl
@[simp] theorem State.modLane_logTotal (s : State) (k : Nat) (f : LaneState → LaneState) : (s.modLane k f).logTotal = s.logTotal := rfl
@[simp] theorem State.modLane_logHeld (s : State) (k : Nat) (f : LaneState → LaneState) : (s.modLane k f).logHeld = s.logHeld := rfl
@[simp] theorem State.modLane_resetReqs (s : State) (k : Nat) (f : LaneState → LaneState) : (s.modLane k f).resetReqs = s.resetReqs := rfl
@[simp] theorem State.modLane_power (s : State) (k : Nat) (f : LaneState → LaneState) : (s.modLane k f).power = s.power := rfl
@[simp] theorem State.modLane_mod (s : State) (k : Nat) (f : LaneState → LaneState) : (s.modLane k f).mod = s.mod := rfl
@[simp] theorem State.modLane_marks (s : State) (k : Nat) (f : LaneState → LaneState) : (s.modLane k f).marks = s.marks := rfl
@[simp] theorem State.modLane_serial (s : State) (k : Nat) (f : LaneState → LaneState) : (s.modLane k f).serial = s.serial := rfl
@[simp] theorem State.modLane_stepping (s : State) (k : Nat) (f : LaneState → LaneState) : (s.modLane k f).stepping = s.stepping := rfl

/-! `State.setPlane`. -/

@[simp] theorem State.setPlane_pending (s : State) (i : Nat) (v : PlaneState) : (s.setPlane i v).pending = s.pending := rfl
@[simp] theorem State.setPlane_now (s : State) (i : Nat) (v : PlaneState) : (s.setPlane i v).now = s.now := rfl
@[simp] theorem State.setPlane_freeNo (s : State) (i : Nat) (v : PlaneState) : (s.setPlane i v).freeNo = s.freeNo := rfl
@[simp] theorem State.setPlane_part1920 (s : State) (i : Nat) (v : PlaneState) : (s.setPlane i v).part1920 = s.part1920 := rfl
@[simp] theorem State.setPlane_regs (s : State) (i : Nat) (v : PlaneState) : (s.setPlane i v).regs = s.regs := rfl
@[simp] theorem State.setPlane_cores (s : State) (i : Nat) (v : PlaneState) : (s.setPlane i v).cores = s.cores := rfl
@[simp] theorem State.setPlane_counters (s : State) (i : Nat) (v : PlaneState) : (s.setPlane i v).counters = s.counters := rfl
@[simp] theorem State.setPlane_requesters (s : State) (i : Nat) (v : PlaneState) : (s.setPlane i v).requesters = s.requesters := rfl
@[simp] theorem State.setPlane_ends (s : State) (i : Nat) (v : PlaneState) : (s.setPlane i v).ends = s.ends := rfl
@[simp] theorem State.setPlane_lanes (s : State) (i : Nat) (v : PlaneState) : (s.setPlane i v).lanes = s.lanes := rfl
@[simp] theorem State.setPlane_lpddr (s : State) (i : Nat) (v : PlaneState) : (s.setPlane i v).lpddr = s.lpddr := rfl
@[simp] theorem State.setPlane_lpddrErr (s : State) (i : Nat) (v : PlaneState) : (s.setPlane i v).lpddrErr = s.lpddrErr := rfl
@[simp] theorem State.setPlane_channels (s : State) (i : Nat) (v : PlaneState) : (s.setPlane i v).channels = s.channels := rfl
@[simp] theorem State.setPlane_vaults (s : State) (i : Nat) (v : PlaneState) : (s.setPlane i v).vaults = s.vaults := rfl
@[simp] theorem State.setPlane_csram (s : State) (i : Nat) (v : PlaneState) : (s.setPlane i v).csram = s.csram := rfl
@[simp] theorem State.setPlane_sentLinks (s : State) (i : Nat) (v : PlaneState) : (s.setPlane i v).sentLinks = s.sentLinks := rfl
@[simp] theorem State.setPlane_extLinks (s : State) (i : Nat) (v : PlaneState) : (s.setPlane i v).extLinks = s.extLinks := rfl
@[simp] theorem State.setPlane_unreach (s : State) (i : Nat) (v : PlaneState) : (s.setPlane i v).unreach = s.unreach := rfl
@[simp] theorem State.setPlane_landing (s : State) (i : Nat) (v : PlaneState) : (s.setPlane i v).landing = s.landing := rfl
@[simp] theorem State.setPlane_chanTable (s : State) (i : Nat) (v : PlaneState) : (s.setPlane i v).chanTable = s.chanTable := rfl
@[simp] theorem State.setPlane_epoch (s : State) (i : Nat) (v : PlaneState) : (s.setPlane i v).epoch = s.epoch := rfl
@[simp] theorem State.setPlane_fepoch (s : State) (i : Nat) (v : PlaneState) : (s.setPlane i v).fepoch = s.fepoch := rfl
@[simp] theorem State.setPlane_farState (s : State) (i : Nat) (v : PlaneState) : (s.setPlane i v).farState = s.farState := rfl
@[simp] theorem State.setPlane_farModule (s : State) (i : Nat) (v : PlaneState) : (s.setPlane i v).farModule = s.farModule := rfl
@[simp] theorem State.setPlane_lastLink (s : State) (i : Nat) (v : PlaneState) : (s.setPlane i v).lastLink = s.lastLink := rfl
@[simp] theorem State.setPlane_pathM (s : State) (i : Nat) (v : PlaneState) : (s.setPlane i v).pathM = s.pathM := rfl
@[simp] theorem State.setPlane_selfOk (s : State) (i : Nat) (v : PlaneState) : (s.setPlane i v).selfOk = s.selfOk := rfl
@[simp] theorem State.setPlane_selfErr (s : State) (i : Nat) (v : PlaneState) : (s.setPlane i v).selfErr = s.selfErr := rfl
@[simp] theorem State.setPlane_light (s : State) (i : Nat) (v : PlaneState) : (s.setPlane i v).light = s.light := rfl
@[simp] theorem State.setPlane_hwFault (s : State) (i : Nat) (v : PlaneState) : (s.setPlane i v).hwFault = s.hwFault := rfl
@[simp] theorem State.setPlane_log (s : State) (i : Nat) (v : PlaneState) : (s.setPlane i v).log = s.log := rfl
@[simp] theorem State.setPlane_logTotal (s : State) (i : Nat) (v : PlaneState) : (s.setPlane i v).logTotal = s.logTotal := rfl
@[simp] theorem State.setPlane_logHeld (s : State) (i : Nat) (v : PlaneState) : (s.setPlane i v).logHeld = s.logHeld := rfl
@[simp] theorem State.setPlane_resetReqs (s : State) (i : Nat) (v : PlaneState) : (s.setPlane i v).resetReqs = s.resetReqs := rfl
@[simp] theorem State.setPlane_power (s : State) (i : Nat) (v : PlaneState) : (s.setPlane i v).power = s.power := rfl
@[simp] theorem State.setPlane_mod (s : State) (i : Nat) (v : PlaneState) : (s.setPlane i v).mod = s.mod := rfl
@[simp] theorem State.setPlane_marks (s : State) (i : Nat) (v : PlaneState) : (s.setPlane i v).marks = s.marks := rfl
@[simp] theorem State.setPlane_serial (s : State) (i : Nat) (v : PlaneState) : (s.setPlane i v).serial = s.serial := rfl
@[simp] theorem State.setPlane_stepping (s : State) (i : Nat) (v : PlaneState) : (s.setPlane i v).stepping = s.stepping := rfl

/-! `Core.modTh`. -/

@[simp] theorem Core.modTh_ranLast (c : Core) (t : Fin 8) (f : Thread → Thread) : (c.modTh t f).ranLast = c.ranLast := rfl
@[simp] theorem Core.modTh_took (c : Core) (t : Fin 8) (f : Thread → Thread) : (c.modTh t f).took = c.took := rfl
@[simp] theorem Core.modTh_cycle (c : Core) (t : Fin 8) (f : Thread → Thread) : (c.modTh t f).cycle = c.cycle := rfl
@[simp] theorem Core.modTh_stalled (c : Core) (t : Fin 8) (f : Thread → Thread) : (c.modTh t f).stalled = c.stalled := rfl
@[simp] theorem Core.modTh_stretched (c : Core) (t : Fin 8) (f : Thread → Thread) : (c.modTh t f).stretched = c.stretched := rfl
@[simp] theorem Core.modTh_faultAt (c : Core) (t : Fin 8) (f : Thread → Thread) : (c.modTh t f).faultAt = c.faultAt := rfl
@[simp] theorem Core.modTh_heldNo (c : Core) (t : Fin 8) (f : Thread → Thread) : (c.modTh t f).heldNo = c.heldNo := rfl
@[simp] theorem Core.modTh_nextIssue (c : Core) (t : Fin 8) (f : Thread → Thread) : (c.modTh t f).nextIssue = c.nextIssue := rfl
@[simp] theorem Core.modTh_idleSince (c : Core) (t : Fin 8) (f : Thread → Thread) : (c.modTh t f).idleSince = c.idleSince := rfl
@[simp] theorem Core.modTh_sleep (c : Core) (t : Fin 8) (f : Thread → Thread) : (c.modTh t f).sleep = c.sleep := rfl
@[simp] theorem Core.modTh_spad (c : Core) (t : Fin 8) (f : Thread → Thread) : (c.modTh t f).spad = c.spad := rfl
@[simp] theorem Core.modTh_spadErr (c : Core) (t : Fin 8) (f : Thread → Thread) : (c.modTh t f).spadErr = c.spadErr := rfl
@[simp] theorem Core.modTh_imem (c : Core) (t : Fin 8) (f : Thread → Thread) : (c.modTh t f).imem = c.imem := rfl
@[simp] theorem Core.modTh_imemErr (c : Core) (t : Fin 8) (f : Thread → Thread) : (c.modTh t f).imemErr = c.imemErr := rfl
@[simp] theorem Core.modTh_writebacks (c : Core) (t : Fin 8) (f : Thread → Thread) : (c.modTh t f).writebacks = c.writebacks := rfl
@[simp] theorem Core.modTh_tiles (c : Core) (t : Fin 8) (f : Thread → Thread) : (c.modTh t f).tiles = c.tiles := rfl
@[simp] theorem Core.modTh_work (c : Core) (t : Fin 8) (f : Thread → Thread) : (c.modTh t f).work = c.work := rfl
@[simp] theorem Core.modTh_longOps (c : Core) (t : Fin 8) (f : Thread → Thread) : (c.modTh t f).longOps = c.longOps := rfl
@[simp] theorem Core.modTh_stores (c : Core) (t : Fin 8) (f : Thread → Thread) : (c.modTh t f).stores = c.stores := rfl
@[simp] theorem Core.modTh_accessNo (c : Core) (t : Fin 8) (f : Thread → Thread) : (c.modTh t f).accessNo = c.accessNo := rfl
@[simp] theorem Core.modTh_bankFree (c : Core) (t : Fin 8) (f : Thread → Thread) : (c.modTh t f).bankFree = c.bankFree := rfl
@[simp] theorem Core.modTh_divFree (c : Core) (t : Fin 8) (f : Thread → Thread) : (c.modTh t f).divFree = c.divFree := rfl
@[simp] theorem Core.modTh_sfuFree (c : Core) (t : Fin 8) (f : Thread → Thread) : (c.modTh t f).sfuFree = c.sfuFree := rfl
@[simp] theorem Core.modTh_topkFree (c : Core) (t : Fin 8) (f : Thread → Thread) : (c.modTh t f).topkFree = c.topkFree := rfl
@[simp] theorem Core.modTh_tensor (c : Core) (t : Fin 8) (f : Thread → Thread) : (c.modTh t f).tensor = c.tensor := rfl
@[simp] theorem Core.modTh_tensorFree (c : Core) (t : Fin 8) (f : Thread → Thread) : (c.modTh t f).tensorFree = c.tensorFree := rfl
@[simp] theorem Core.modTh_tensorBank (c : Core) (t : Fin 8) (f : Thread → Thread) : (c.modTh t f).tensorBank = c.tensorBank := rfl
@[simp] theorem Core.modTh_heldTile (c : Core) (t : Fin 8) (f : Thread → Thread) : (c.modTh t f).heldTile = c.heldTile := rfl
@[simp] theorem Core.modTh_inbound (c : Core) (t : Fin 8) (f : Thread → Thread) : (c.modTh t f).inbound = c.inbound := rfl
@[simp] theorem Core.modTh_outbound (c : Core) (t : Fin 8) (f : Thread → Thread) : (c.modTh t f).outbound = c.outbound := rfl
@[simp] theorem Core.modTh_bond (c : Core) (t : Fin 8) (f : Thread → Thread) : (c.modTh t f).bond = c.bond := rfl
@[simp] theorem Core.modTh_up (c : Core) (t : Fin 8) (f : Thread → Thread) : (c.modTh t f).up = c.up := rfl
@[simp] theorem Core.modTh_served (c : Core) (t : Fin 8) (f : Thread → Thread) : (c.modTh t f).served = c.served := rfl
@[simp] theorem Core.modTh_key (c : Core) (t : Fin 8) (f : Thread → Thread) : (c.modTh t f).key = c.key := rfl
@[simp] theorem Core.modTh_scrubLane (c : Core) (t : Fin 8) (f : Thread → Thread) : (c.modTh t f).scrubLane = c.scrubLane := rfl
@[simp] theorem Core.modTh_scrubLeft (c : Core) (t : Fin 8) (f : Thread → Thread) : (c.modTh t f).scrubLeft = c.scrubLeft := rfl
@[simp] theorem Core.modTh_pmcPrev (c : Core) (t : Fin 8) (f : Thread → Thread) : (c.modTh t f).pmcPrev = c.pmcPrev := rfl
@[simp] theorem Core.modTh_pmcWindow (c : Core) (t : Fin 8) (f : Thread → Thread) : (c.modTh t f).pmcWindow = c.pmcWindow := rfl
@[simp] theorem Core.modTh_pmcArmed (c : Core) (t : Fin 8) (f : Thread → Thread) : (c.modTh t f).pmcArmed = c.pmcArmed := rfl
@[simp] theorem Core.modTh_disabled (c : Core) (t : Fin 8) (f : Thread → Thread) : (c.modTh t f).disabled = c.disabled := rfl
@[simp] theorem Core.modTh_resetTimes (c : Core) (t : Fin 8) (f : Thread → Thread) : (c.modTh t f).resetTimes = c.resetTimes := rfl
@[simp] theorem Core.modTh_inReset (c : Core) (t : Fin 8) (f : Thread → Thread) : (c.modTh t f).inReset = c.inReset := rfl
@[simp] theorem Core.modTh_lastIssue (c : Core) (t : Fin 8) (f : Thread → Thread) : (c.modTh t f).lastIssue = c.lastIssue := rfl
@[simp] theorem Core.modTh_heldSince (c : Core) (t : Fin 8) (f : Thread → Thread) : (c.modTh t f).heldSince = c.heldSince := rfl

/-! Registers of a thread. -/

@[simp] theorem Thread.setX_st (t : Thread) (r : XReg) (w : Word) : (t.setX r w).st = t.st := by unfold Thread.setX; split <;> rfl
@[simp] theorem Thread.setX_pc (t : Thread) (r : XReg) (w : Word) : (t.setX r w).pc = t.pc := by unfold Thread.setX; split <;> rfl
@[simp] theorem Thread.setX_v (t : Thread) (r : XReg) (w : Word) : (t.setX r w).v = t.v := by unfold Thread.setX; split <;> rfl
@[simp] theorem Thread.setX_p (t : Thread) (r : XReg) (w : Word) : (t.setX r w).p = t.p := by unfold Thread.setX; split <;> rfl
@[simp] theorem Thread.setX_armed (t : Thread) (r : XReg) (w : Word) : (t.setX r w).armed = t.armed := by unfold Thread.setX; split <;> rfl
@[simp] theorem Thread.setX_dbPending (t : Thread) (r : XReg) (w : Word) : (t.setX r w).dbPending = t.dbPending := by unfold Thread.setX; split <;> rfl
@[simp] theorem Thread.setX_wait (t : Thread) (r : XReg) (w : Word) : (t.setX r w).wait = t.wait := by unfold Thread.setX; split <;> rfl
@[simp] theorem Thread.setX_deferred (t : Thread) (r : XReg) (w : Word) : (t.setX r w).deferred = t.deferred := by unfold Thread.setX; split <;> rfl
@[simp] theorem Thread.setX_numctl (t : Thread) (r : XReg) (w : Word) : (t.setX r w).numctl = t.numctl := by unfold Thread.setX; split <;> rfl
@[simp] theorem Thread.setX_hctl (t : Thread) (r : XReg) (w : Word) : (t.setX r w).hctl = t.hctl := by unfold Thread.setX; split <;> rfl
@[simp] theorem Thread.setX_einfo (t : Thread) (r : XReg) (w : Word) : (t.setX r w).einfo = t.einfo := by unfold Thread.setX; split <;> rfl
@[simp] theorem Thread.setX_eaddr (t : Thread) (r : XReg) (w : Word) : (t.setX r w).eaddr = t.eaddr := by unfold Thread.setX; split <;> rfl
@[simp] theorem Thread.setX_stopReq (t : Thread) (r : XReg) (w : Word) : (t.setX r w).stopReq = t.stopReq := by unfold Thread.setX; split <;> rfl
@[simp] theorem Thread.setX_fenceDue (t : Thread) (r : XReg) (w : Word) : (t.setX r w).fenceDue = t.fenceDue := by unfold Thread.setX; split <;> rfl
@[simp] theorem Thread.setX_since (t : Thread) (r : XReg) (w : Word) : (t.setX r w).since = t.since := by unfold Thread.setX; split <;> rfl
@[simp] theorem Thread.setX_readyAt (t : Thread) (r : XReg) (w : Word) : (t.setX r w).readyAt = t.readyAt := by unfold Thread.setX; split <;> rfl
@[simp] theorem Thread.setX_stoppedAt (t : Thread) (r : XReg) (w : Word) : (t.setX r w).stoppedAt = t.stoppedAt := by unfold Thread.setX; split <;> rfl
@[simp] theorem Thread.setP_st (t : Thread) (r : PReg) (w : Word) : (t.setP r w).st = t.st := by unfold Thread.setP; split <;> rfl
@[simp] theorem Thread.setP_pc (t : Thread) (r : PReg) (w : Word) : (t.setP r w).pc = t.pc := by unfold Thread.setP; split <;> rfl
@[simp] theorem Thread.setP_x (t : Thread) (r : PReg) (w : Word) : (t.setP r w).x = t.x := by unfold Thread.setP; split <;> rfl
@[simp] theorem Thread.setP_v (t : Thread) (r : PReg) (w : Word) : (t.setP r w).v = t.v := by unfold Thread.setP; split <;> rfl
@[simp] theorem Thread.setP_armed (t : Thread) (r : PReg) (w : Word) : (t.setP r w).armed = t.armed := by unfold Thread.setP; split <;> rfl
@[simp] theorem Thread.setP_dbPending (t : Thread) (r : PReg) (w : Word) : (t.setP r w).dbPending = t.dbPending := by unfold Thread.setP; split <;> rfl
@[simp] theorem Thread.setP_wait (t : Thread) (r : PReg) (w : Word) : (t.setP r w).wait = t.wait := by unfold Thread.setP; split <;> rfl
@[simp] theorem Thread.setP_deferred (t : Thread) (r : PReg) (w : Word) : (t.setP r w).deferred = t.deferred := by unfold Thread.setP; split <;> rfl
@[simp] theorem Thread.setP_numctl (t : Thread) (r : PReg) (w : Word) : (t.setP r w).numctl = t.numctl := by unfold Thread.setP; split <;> rfl
@[simp] theorem Thread.setP_hctl (t : Thread) (r : PReg) (w : Word) : (t.setP r w).hctl = t.hctl := by unfold Thread.setP; split <;> rfl
@[simp] theorem Thread.setP_einfo (t : Thread) (r : PReg) (w : Word) : (t.setP r w).einfo = t.einfo := by unfold Thread.setP; split <;> rfl
@[simp] theorem Thread.setP_eaddr (t : Thread) (r : PReg) (w : Word) : (t.setP r w).eaddr = t.eaddr := by unfold Thread.setP; split <;> rfl
@[simp] theorem Thread.setP_stopReq (t : Thread) (r : PReg) (w : Word) : (t.setP r w).stopReq = t.stopReq := by unfold Thread.setP; split <;> rfl
@[simp] theorem Thread.setP_fenceDue (t : Thread) (r : PReg) (w : Word) : (t.setP r w).fenceDue = t.fenceDue := by unfold Thread.setP; split <;> rfl
@[simp] theorem Thread.setP_since (t : Thread) (r : PReg) (w : Word) : (t.setP r w).since = t.since := by unfold Thread.setP; split <;> rfl
@[simp] theorem Thread.setP_readyAt (t : Thread) (r : PReg) (w : Word) : (t.setP r w).readyAt = t.readyAt := by unfold Thread.setP; split <;> rfl
@[simp] theorem Thread.setP_stoppedAt (t : Thread) (r : PReg) (w : Word) : (t.setP r w).stoppedAt = t.stoppedAt := by unfold Thread.setP; split <;> rfl
@[simp] theorem Thread.setLane_st (t : Thread) (r : VReg) (i : Nat) (w : Lane) : (t.setLane r i w).st = t.st := rfl
@[simp] theorem Thread.setLane_pc (t : Thread) (r : VReg) (i : Nat) (w : Lane) : (t.setLane r i w).pc = t.pc := rfl
@[simp] theorem Thread.setLane_x (t : Thread) (r : VReg) (i : Nat) (w : Lane) : (t.setLane r i w).x = t.x := rfl
@[simp] theorem Thread.setLane_p (t : Thread) (r : VReg) (i : Nat) (w : Lane) : (t.setLane r i w).p = t.p := rfl
@[simp] theorem Thread.setLane_armed (t : Thread) (r : VReg) (i : Nat) (w : Lane) : (t.setLane r i w).armed = t.armed := rfl
@[simp] theorem Thread.setLane_dbPending (t : Thread) (r : VReg) (i : Nat) (w : Lane) : (t.setLane r i w).dbPending = t.dbPending := rfl
@[simp] theorem Thread.setLane_wait (t : Thread) (r : VReg) (i : Nat) (w : Lane) : (t.setLane r i w).wait = t.wait := rfl
@[simp] theorem Thread.setLane_deferred (t : Thread) (r : VReg) (i : Nat) (w : Lane) : (t.setLane r i w).deferred = t.deferred := rfl
@[simp] theorem Thread.setLane_numctl (t : Thread) (r : VReg) (i : Nat) (w : Lane) : (t.setLane r i w).numctl = t.numctl := rfl
@[simp] theorem Thread.setLane_hctl (t : Thread) (r : VReg) (i : Nat) (w : Lane) : (t.setLane r i w).hctl = t.hctl := rfl
@[simp] theorem Thread.setLane_einfo (t : Thread) (r : VReg) (i : Nat) (w : Lane) : (t.setLane r i w).einfo = t.einfo := rfl
@[simp] theorem Thread.setLane_eaddr (t : Thread) (r : VReg) (i : Nat) (w : Lane) : (t.setLane r i w).eaddr = t.eaddr := rfl
@[simp] theorem Thread.setLane_stopReq (t : Thread) (r : VReg) (i : Nat) (w : Lane) : (t.setLane r i w).stopReq = t.stopReq := rfl
@[simp] theorem Thread.setLane_fenceDue (t : Thread) (r : VReg) (i : Nat) (w : Lane) : (t.setLane r i w).fenceDue = t.fenceDue := rfl
@[simp] theorem Thread.setLane_since (t : Thread) (r : VReg) (i : Nat) (w : Lane) : (t.setLane r i w).since = t.since := rfl
@[simp] theorem Thread.setLane_readyAt (t : Thread) (r : VReg) (i : Nat) (w : Lane) : (t.setLane r i w).readyAt = t.readyAt := rfl
@[simp] theorem Thread.setLane_stoppedAt (t : Thread) (r : VReg) (i : Nat) (w : Lane) : (t.setLane r i w).stoppedAt = t.stoppedAt := rfl

@[simp] theorem Thread.step_pc (t : Thread) : t.step.pc = t.pc + 1 := rfl

/-- A register reads as written, and x0 as 0 (R33). -/
theorem Thread.xr_setX (t : Thread) (r q : XReg) (w : Word) : (t.setX r w).xr q = if q = r ∧ r ≠ 0 then w else t.xr q := by
  unfold Thread.setX Thread.xr
  by_cases hr : r = 0
  · simp [hr]
  · by_cases hq : q = 0
    · simp [hr, hq, Ne.symm hr]
    · simp [hr, hq, Fin.val_inj]

/-- A predicate reads as written, and p0 as all ones (R33). -/
theorem Thread.pr_setP (t : Thread) (r q : PReg) (w : Word) : (t.setP r w).pr q = if q = r ∧ r ≠ 0 then w else t.pr q := by
  unfold Thread.setP Thread.pr
  by_cases hr : r = 0
  · simp [hr]
  · by_cases hq : q = 0
    · simp [hr, hq, Ne.symm hr]
    · simp [hr, hq, Fin.val_inj]

theorem Thread.lane_setLane (t : Thread) (r q : VReg) (i j : Fin 64) (w : Lane) :
    (t.setLane r i.val w).lane q j.val = if q = r ∧ j = i then w else t.lane q j.val := by
  unfold Thread.setLane Thread.lane
  simp only [Tab.get_set]
  have : (q.val * 64 + j.val = r.val * 64 + i.val) ↔ (q = r ∧ j = i) := by
    constructor
    · intro h; constructor <;> apply Fin.ext <;> omega
    · rintro ⟨rfl, rfl⟩; rfl
  simp only [this]

/-! Reading back. -/

@[simp] theorem State.reg_setReg (s : State) (off j : Nat) (v : Word) : (s.setReg off v).reg j = if j = off then v else s.reg j := by
  unfold State.setReg State.reg
  simp only [Tab.get_set]
  split
  · subst j; rw [BitVec.xor_assoc, BitVec.xor_self, BitVec.xor_zero]
  · rfl

theorem CoreId.index_inj (a b : CoreId) : a.index = b.index ↔ a = b := by
  obtain ⟨ta, ca⟩ := a
  obtain ⟨tb, cb⟩ := b
  simp only [CoreId.index, CoreId.mk.injEq, Fin.ext_iff]
  omega

@[simp] theorem State.coreAt_modCore (s : State) (k : CoreId) (f : Core → Core) (i : Nat) :
    (s.modCore k f).coreAt i = if i = k.index then f (s.core k) else s.coreAt i := by
  unfold State.modCore State.coreAt State.core
  simp only [Tab.get_modify]; rfl

theorem State.core_modCore (s : State) (k j : CoreId) (f : Core → Core) :
    (s.modCore k f).core j = if j = k then f (s.core k) else s.core j := by
  unfold State.core; rw [State.coreAt_modCore]; simp only [CoreId.index_inj]; rfl

@[simp] theorem State.core_modCore_self (s : State) (k : CoreId) (f : Core → Core) : (s.modCore k f).core k = f (s.core k) := by
  rw [State.core_modCore]; simp

@[simp] theorem State.core_setReg (s : State) (off : Nat) (v : Word) (k : CoreId) : (s.setReg off v).core k = s.core k := rfl
@[simp] theorem State.coreAt_setReg (s : State) (off : Nat) (v : Word) (i : Nat) : (s.setReg off v).coreAt i = s.coreAt i := rfl
@[simp] theorem State.th_setReg (s : State) (off : Nat) (v : Word) (c : Ctx) : (s.setReg off v).th c = s.th c := rfl
@[simp] theorem State.reg_modCore (s : State) (k : CoreId) (f : Core → Core) (off : Nat) : (s.modCore k f).reg off = s.reg off := rfl

@[simp] theorem Core.th_modTh (c : Core) (t u : Fin 8) (f : Thread → Thread) :
    (c.modTh t f).th u = if u = t then f (c.th t) else c.th u := by
  unfold Core.modTh Core.th
  simp only [Tab.get_modify, Fin.val_inj]

@[simp] theorem State.core_modTh (s : State) (c : Ctx) (f : Thread → Thread) :
    (s.modTh c f).core c.coreId = (s.core c.coreId).modTh c.thread f := State.core_modCore_self s _ _

@[simp] theorem State.th_modTh (s : State) (c : Ctx) (f : Thread → Thread) : (s.modTh c f).th c = f (s.th c) := by
  unfold State.th; rw [State.core_modTh, Core.th_modTh]; simp

@[simp] theorem State.reg_modTh (s : State) (c : Ctx) (f : Thread → Thread) (off : Nat) : (s.modTh c f).reg off = s.reg off := rfl

@[simp] theorem State.counter_setCounter (s : State) (x k y j : Nat) (v : Lane) (hk : k < 64) (hj : j < 64) :
    (s.setCounter x k v).counter y j = if y = x ∧ j = k then v else s.counter y j := by
  unfold State.setCounter State.counter
  simp only [Tab.get_set]
  have : (y * 64 + j = x * 64 + k) ↔ (y = x ∧ j = k) := by omega
  simp only [this]

@[simp] theorem State.req_modReq (s : State) (x y : Nat) (f : Requester → Requester) :
    (s.modReq x f).req y = if y = x then f (s.req x) else s.req y := Tab.get_modify _ _ _ _ _
@[simp] theorem State.endp_modEnd (s : State) (x y : Nat) (f : EndState → EndState) :
    (s.modEnd x f).endp y = if y = x then f (s.endp x) else s.endp y := Tab.get_modify _ _ _ _ _
@[simp] theorem State.vault_modVault (s : State) (x y : Nat) (f : Vault → Vault) :
    (s.modVault x f).vault y = if y = x then f (s.vault x) else s.vault y := Tab.get_modify _ _ _ _ _
@[simp] theorem State.chan_modChan (s : State) (x y : Nat) (f : Channel → Channel) :
    (s.modChan x f).chan y = if y = x then f (s.chan x) else s.chan y := Tab.get_modify _ _ _ _ _
@[simp] theorem State.ln_modLane (s : State) (x y : Nat) (f : LaneState → LaneState) :
    (s.modLane x f).ln y = if y = x then f (s.ln x) else s.ln y := Tab.get_modify _ _ _ _ _
@[simp] theorem State.plane_setPlane (s : State) (x y : Nat) (v : PlaneState) :
    (s.setPlane x v).plane y = if y = x then v else s.plane y := Tab.get_set _ _ _ _ _

end Sys2Proof.Machine
end

