-- ==== Sys2Proof/Laws/Issue.lean ====
section
/-!
SUPPORT. What counting does to the state, and what an instruction that issues does: everything an issue can do, said once.
-/
namespace Sys2Proof
open Machine

@[simp] theorem sameBut_sameBut (x a b : Core) : sameBut (sameBut x a) b = sameBut x b := rfl
@[simp] theorem sameBut_self (x : Core) : sameBut x x = x := rfl
theorem sameBut_of (x y : Core) : sameBut x (sameBut x y) = sameBut x y := rfl

theorem onlyCore_refl (k : CoreId) (s : State) : OnlyCore k s s (s.core k) :=
  ⟨rfl, fun _ => rfl, fun _ _ => rfl, fun _ _ => rfl, rfl⟩

/-- Changes of one core and its counters compose. -/
theorem OnlyCore.trans {k : CoreId} {s t u : State} {x y : Core} (h : OnlyCore k s t x) (h2 : OnlyCore k t u y) : OnlyCore k s u y := by
  refine ⟨h2.core, h2.threads, ?_, ?_, ?_⟩
  · intro i hi; rw [h2.others i hi, h.others i hi]
  · intro off ho; rw [h2.regs off ho, h.regs off ho]
  · calc u = { t with regs := u.regs, cores := u.cores } := h2.rest
      _ = { ({ s with regs := t.regs, cores := t.cores } : State) with regs := u.regs, cores := u.cores } :=
        congrArg (fun z : State => { z with regs := u.regs, cores := u.cores }) h.rest
      _ = _ := rfl

theorem OnlyCore.modCore' {k : CoreId} {s t : State} {x y : Core} (h : OnlyCore k s t x) (g : Core → Core)
    (hg : g (t.core k) = sameBut y (g (t.core k))) (ht : ∀ u, (g (t.core k)).th u = y.th u) : OnlyCore k s (t.modCore k g) y := by
  refine ⟨?_, ?_, ?_, ?_, ?_⟩
  · rw [State.core_modCore_self]; exact hg
  · rw [State.core_modCore_self]; exact ht
  · intro i hi; rw [State.coreAt_modCore, if_neg hi]; exact h.others i hi
  · intro off ho; exact h.regs off ho
  · calc t.modCore k g = { t with regs := (t.modCore k g).regs, cores := (t.modCore k g).cores } := rfl
      _ = { ({ s with regs := t.regs, cores := t.cores } : State) with regs := (t.modCore k g).regs, cores := (t.modCore k g).cores } :=
        congrArg (fun z : State => { z with regs := (t.modCore k g).regs, cores := (t.modCore k g).cores }) h.rest
      _ = _ := rfl

/-- A change of a core that neither reads nor writes its threads or its counters' bookkeeping. -/
def Blind (g : Core → Core) : Prop := ∀ x y, g (sameBut x y) = sameBut (g x) y

theorem OnlyCore.modCore {k : CoreId} {s t : State} {x : Core} (h : OnlyCore k s t x) (g : Core → Core) (hg : Blind g)
    (ht : ∀ c u, (g c).th u = c.th u) : OnlyCore k s (t.modCore k g) (g x) := by
  refine h.modCore' g ?_ ?_
  · have e := hg x (t.core k)
    rw [← h.core] at e
    rw [e]; rfl
  · intro u; rw [ht, ht]; exact h.threads u

/-- A change of one thread of the core. -/
theorem OnlyCore.modTh {k : CoreId} {s t : State} {x : Core} (h : OnlyCore k s t x) (v : Fin 8) (f : Thread → Thread) :
    OnlyCore k s (t.modCore k fun c => c.modTh v f) (x.modTh v f) := by
  refine h.modCore' _ ?_ ?_
  · conv => lhs; rw [h.core]
    rfl
  · intro u; rw [Core.th_modTh, Core.th_modTh]
    by_cases hu : u = v
    · simp [hu, h.threads]
    · simp [hu, h.threads]

/-- The same change said in another way. -/
theorem OnlyCore.congr {k : CoreId} {s t : State} {x y : Core} (h : OnlyCore k s t x) (hc : ∀ z, sameBut x z = sameBut y z)
    (ht : ∀ u, x.th u = y.th u) : OnlyCore k s t y :=
  ⟨by rw [← hc]; exact h.core, fun u => by rw [← ht]; exact h.threads u, h.others, h.regs, h.rest⟩

/-- A change of the counters' bookkeeping alone. -/
theorem OnlyCore.book {k : CoreId} {s t : State} {x : Core} (h : OnlyCore k s t x) (g : Core → Core)
    (hg : ∀ y, g y = sameBut y (g y)) (ht : ∀ y, (g y).threads = y.threads) : OnlyCore k s (t.modCore k g) x := by
  refine h.modCore' g ?_ ?_
  · have e : ∀ z : Core, sameBut (t.core k) z = sameBut x z := fun z => by rw [h.core]; rfl
    rw [← e]; exact hg _
  · intro u
    have : (g (t.core k)).th u = (t.core k).th u := by unfold Core.th; rw [ht]
    rw [this]; exact h.threads u

theorem OnlyCore.setReg {k : CoreId} {s t : State} {x : Core} (h : OnlyCore k s t x) (off : Nat) (v : Word) (ho : pmcReg k off) :
    OnlyCore k s (t.setReg off v) x := by
  refine ⟨h.core, h.threads, h.others, ?_, ?_⟩
  · intro o hn
    rw [State.reg_setReg, if_neg (by rintro rfl; exact hn ho)]; exact h.regs o hn
  · calc t.setReg off v = { t with regs := (t.setReg off v).regs, cores := (t.setReg off v).cores } := rfl
      _ = { ({ s with regs := t.regs, cores := t.cores } : State) with regs := (t.setReg off v).regs, cores := (t.setReg off v).cores } :=
        congrArg (fun z : State => { z with regs := (t.setReg off v).regs, cores := (t.setReg off v).cores }) h.rest
      _ = _ := rfl

theorem onlyCore_pmcAdd {k : CoreId} {s t : State} {x : Core} (h : OnlyCore k s t x) (n amount : Nat) (hn : n < 8) :
    OnlyCore k s (t.pmcAdd k n amount) x := by
  have h1 : pmcReg k (pmcCnt k n) := ⟨n, hn, .inr rfl⟩
  have h2 : pmcReg k (pmcSel k n) := ⟨n, hn, .inl rfl⟩
  unfold State.pmcAdd
  have a := h.setReg (pmcCnt k n) (putField (t.reg (pmcCnt k n)) 47 0 (t.field (pmcCnt k n) 47 0 + amount)) h1
  simp only
  split
  · exact a
  · split
    · exact OnlyCore.book (a.setReg _ _ h2) _ (fun _ => rfl) (fun _ => rfl)
    · exact a.setReg _ _ h2

theorem onlyCore_fold {α : Type} {k : CoreId} {s : State} {x : Core} (f : State → α → State) (p : α → Prop)
    (hf : ∀ t n, p n → OnlyCore k s t x → OnlyCore k s (f t n) x) :
    ∀ (l : List α) (t : State), (∀ n ∈ l, p n) → OnlyCore k s t x → OnlyCore k s (l.foldl f t) x
  | [], _, _, h => h
  | n :: l, t, hp, h => onlyCore_fold f p hf l (f t n) (fun m hm => hp m (List.mem_cons_of_mem _ hm))
      (hf t n (hp n List.mem_cons_self) h)

theorem counterNos_lt : ∀ n ∈ counterNos, n < 8 := by decide

/-- A pulse event changes counters only (R502). -/
theorem onlyCore_pulse {k : CoreId} {s t : State} {x : Core} (h : OnlyCore k s t x) (event : Nat) (thread : Option Nat) (amount : Nat) :
    OnlyCore k s (t.pulse k event thread amount) x := by
  unfold State.pulse
  split
  · refine onlyCore_fold _ (· < 8) ?_ _ _ counterNos_lt h
    intro t n hn ht
    simp only
    split <;> split <;> first
      | exact onlyCore_pmcAdd ht n amount hn
      | exact ht
  · exact h

/-- The issue of an instruction: counted, and the core's present cycle is the issue cycle (R35, R43). -/
theorem onlyCore_issue (s : State) (c : Ctx) :
    OnlyCore c.coreId s ((s.noteIssue c).takeCycle c) (issuedAt s.now (s.core c.coreId)) := by
  have h0 := onlyCore_pulse (onlyCore_refl c.coreId s) 0x002 (some c.thread.val) 1
  have h1 : OnlyCore c.coreId s (s.noteIssue c) { s.core c.coreId with lastIssue := s.now } := by
    refine h0.modCore' _ ?_ ?_
    · conv => lhs; rw [h0.core]
      rfl
    · exact h0.threads
  unfold State.takeCycle
  exact h1.modCore (fun k => { k with cycle := k.issueCycle, nextIssue := k.issueCycle + 1 }) (fun _ _ => rfl) (fun _ _ => rfl)

/-- The state in which an issued instruction has its effect. -/
def atIssue (s : State) (c : Ctx) : State := (s.noteIssue c).takeCycle c

theorem core_atIssue (s : State) (c : Ctx) :
    (atIssue s c).core c.coreId = sameBut (issuedAt s.now (s.core c.coreId)) ((atIssue s c).core c.coreId) :=
  (onlyCore_issue s c).core

theorem th_of_onlyCore {s t : State} {c : Ctx} {x : Core} (h : OnlyCore c.coreId s t x) : t.th c = x.th c.thread := by
  exact h.threads c.thread

@[simp] theorem th_atIssue (s : State) (c : Ctx) : (atIssue s c).th c = s.th c := by
  have h : (atIssue s c).th c = _ := th_of_onlyCore (t := atIssue s c) (onlyCore_issue s c)
  rw [h]; rfl

theorem fetch_of_ready {s : State} {c : Ctx} (h : Ready s c) : ∃ w, s.fetch c.coreId (s.th c).pc = (s, some w) := by
  unfold Machine.State.fetch
  simp only [h.2]
  exact ⟨_, rfl⟩

/-- A ready thread may issue, and no stop waits for it. -/
theorem issues_of_ready {s : State} {c : Ctx} (h : Ready s c) : s.issues c = true ∧ (s.th c).stopReq = false := by
  have := h.1
  unfold Machine.State.canIssue at this
  simpa using this

/-- None of the registers a list names is pending. -/
theorem not_pending {s : State} {c : Ctx} {ds : List Dep} (h : Clear s c ds) : ds.any ((s.core c.coreId).isPending c.thread) = false := by
  rw [List.any_eq_false]; intro d hd; rw [h d hd]; exact Bool.false_ne_true

/-- A ready thread whose instruction has no fault and waits for nothing issues: the body runs in the issue cycle (R35, R43). -/
theorem issue_ready {s : State} {c : Ctx} (h : Ready s c) (n : Needs) (body : State → State) (h1 : Clear s c n.early)
    (h2 : n.fault = none) (h3 : Clear s c n.deps) (h4 : n.hold = false) (h5 : n.free ≤ (s.core c.coreId).issueCycle) :
    s.issue c n body = body (atIssue s c) := by
  obtain ⟨w, hw⟩ := fetch_of_ready h
  obtain ⟨hi, hs⟩ := issues_of_ready h
  have e5 : ¬ (s.core c.coreId).issueCycle < n.free := by omega
  unfold Machine.State.issue
  rw [if_pos hi, hw]
  simp [not_pending h1, h2, hs, not_pending h3, h4, e5, atIssue]

/-- A ready thread whose checks find a fault takes it in the issue cycle (R43, R119). -/
theorem issue_fault {s : State} {c : Ctx} (h : Ready s c) (n : Needs) (body : State → State) (h1 : Clear s c n.early)
    (cause : Nat) (addr : Word) (h2 : n.fault = some (cause, addr)) :
    s.issue c n body = (s.takeCycle c).raise c cause addr (s.th c).pc false := by
  obtain ⟨w, hw⟩ := fetch_of_ready h
  unfold Machine.State.issue
  rw [if_pos (issues_of_ready h).1, hw]
  simp [not_pending h1, h2]

/-- A ready thread with a pending register among those its instruction names stalls in place (R43). -/
theorem issue_stall {s : State} {c : Ctx} (h : Ready s c) (n : Needs) (body : State → State) (h1 : Clear s c n.early)
    (h2 : n.fault = none) (d : Dep) (hd : d ∈ n.deps) (h3 : (s.core c.coreId).isPending c.thread d = true) :
    s.issue c n body = s.stall c := by
  obtain ⟨w, hw⟩ := fetch_of_ready h
  obtain ⟨hi, hs⟩ := issues_of_ready h
  have e3 : (n.deps.any ((s.core c.coreId).isPending c.thread)) = true := List.any_eq_true.2 ⟨d, hd, h3⟩
  unfold Machine.State.issue
  rw [if_pos hi, hw]
  simp [not_pending h1, h2, hs, e3]

/-- A thread that may not issue changes nothing. -/
theorem issue_not {s : State} {c : Ctx} (n : Needs) (body : State → State) (h : s.issues c = false) : s.issue c n body = s := by
  unfold Machine.State.issue; simp [h]

/-- An instruction that only changes its thread: its effect, exactly (R114). -/
theorem issued_modTh (s : State) (c : Ctx) (f : Thread → Thread) : Issued c s ((atIssue s c).modTh c f) f id :=
  (onlyCore_issue s c).modTh c.thread f

/-- The same in two parts, the second the move to the next instruction. -/
theorem issued_modTh_step (s : State) (c : Ctx) (f : Thread → Thread) :
    Issued c s (((atIssue s c).modTh c f).modTh c Thread.step) (fun t => (f t).step) id :=
  (((onlyCore_issue s c).modTh c.thread f).modTh c.thread Thread.step).congr (fun _ => rfl) (fun u => by
    simp only [id, Core.th_modTh]
    by_cases hu : u = c.thread <;> simp [hu])

/-- An instruction that changes its core by `g`, then moves on to the next: its effect, exactly (R114). -/
theorem issued_modCore {s : State} {c : Ctx} {t : State} (g : Core → Core) (hgt : ∀ k f, sameBut (g (k.modTh c.thread f)) k = sameBut (g k) k)
    (hth : ∀ k u, (g k).th u = k.th u) (h : OnlyCore c.coreId s t (g (issuedAt s.now (s.core c.coreId)))) :
    Issued c s (t.modTh c Thread.step) Thread.step g := by
  refine (h.modTh c.thread Thread.step).congr ?_ ?_
  · intro z
    have e := hgt (issuedAt s.now (s.core c.coreId)) Thread.step
    have := congrArg (fun q => sameBut q z) e
    exact this.symm
  · intro u; rw [Core.th_modTh, hth, hth, hth, Core.th_modTh]

end Sys2Proof
end

