-- ==== Sys2Proof/Laws/KeptCore.lean ====
section
/-!
SUPPORT. What the shared operations of cores, threads and their remote engines keep: the queue and the device's constants always; the LPDDR5X and the
control SRAM as they were, or in canonical form where the operation writes them.
-/
namespace Sys2Proof.Machine
open Sys2Proof

/-- What a step must keep but for the cells of memory: the queue's rest, the device's constants, and the two memories. -/
def State.kept (s : State) : (List Instr × Bool × Nat × Nat) × (Mem × Mem) :=
  ((s.pending, s.part1920, s.serial, s.stepping), (s.lpddr, s.csram))

@[simp] theorem kept_upd (s : State) (x_now : Nat) (x_freeNo : Nat) (x_regs : Tab Word) (x_cores : Tab Core) (x_counters : Tab Lane) (x_requesters
    : Tab Requester) (x_ends : Tab EndState) (x_lanes : Tab LaneState) (x_planes : Tab PlaneState) (x_lpddrErr : Tab Byte) (x_channels : Tab Channel)
    (x_vaults : Tab Vault) (x_sentLinks : Tab LinkSide) (x_extLinks : Tab ExtSide) (x_unreach : Tab Bool) (x_landing : Option Mem) (x_chanTable :
    Option Mem) (x_epoch : Option EpochCmd) (x_fepoch : Option EpochCmd) (x_farState : Tab Nat) (x_farModule : Tab (Option Nat)) (x_lastLink : Tab
    Nat) (x_pathM : Tab Nat) (x_selfOk : Tab Bool) (x_selfErr : Tab Nat) (x_light : Light) (x_hwFault : Option (Nat × Nat)) (x_log : Tab Word)
    (x_logTotal : Nat) (x_logHeld : List Word) (x_resetReqs : List ResetReq) (x_power : Power) (x_mod : Module) (x_marks : Tab Nat) :
    State.kept ⟨s.pending, x_now, x_freeNo, s.part1920, x_regs, x_cores, x_counters, x_requesters, x_ends, x_lanes, x_planes, s.lpddr, x_lpddrErr,
    x_channels, x_vaults, s.csram, x_sentLinks, x_extLinks, x_unreach, x_landing, x_chanTable, x_epoch, x_fepoch, x_farState, x_farModule, x_lastLink,
    x_pathM, x_selfOk, x_selfErr, x_light, x_hwFault, x_log, x_logTotal, x_logHeld, x_resetReqs, x_power, x_mod, x_marks, s.serial, s.stepping⟩ =
    s.kept := rfl

@[simp 900] theorem kept_mem (s : State) (x_now : Nat) (x_freeNo : Nat) (x_regs : Tab Word) (x_cores : Tab Core) (x_counters : Tab Lane)
    (x_requesters : Tab Requester) (x_ends : Tab EndState) (x_lanes : Tab LaneState) (x_planes : Tab PlaneState) (x_lpddr : Mem) (x_lpddrErr : Tab
    Byte) (x_channels : Tab Channel) (x_vaults : Tab Vault) (x_csram : Mem) (x_sentLinks : Tab LinkSide) (x_extLinks : Tab ExtSide) (x_unreach : Tab
    Bool) (x_landing : Option Mem) (x_chanTable : Option Mem) (x_epoch : Option EpochCmd) (x_fepoch : Option EpochCmd) (x_farState : Tab Nat)
    (x_farModule : Tab (Option Nat)) (x_lastLink : Tab Nat) (x_pathM : Tab Nat) (x_selfOk : Tab Bool) (x_selfErr : Tab Nat) (x_light : Light)
    (x_hwFault : Option (Nat × Nat)) (x_log : Tab Word) (x_logTotal : Nat) (x_logHeld : List Word) (x_resetReqs : List ResetReq) (x_power : Power)
    (x_mod : Module) (x_marks : Tab Nat) :
    State.kept ⟨s.pending, x_now, x_freeNo, s.part1920, x_regs, x_cores, x_counters, x_requesters, x_ends, x_lanes, x_planes, x_lpddr, x_lpddrErr,
    x_channels, x_vaults, x_csram, x_sentLinks, x_extLinks, x_unreach, x_landing, x_chanTable, x_epoch, x_fepoch, x_farState, x_farModule, x_lastLink,
    x_pathM, x_selfOk, x_selfErr, x_light, x_hwFault, x_log, x_logTotal, x_logHeld, x_resetReqs, x_power, x_mod, x_marks, s.serial, s.stepping⟩ =
    (s.kept.1, (x_lpddr, x_csram)) := rfl

/-- Both memories are in canonical form. -/
def MemOk (s : State) : Prop := s.lpddr.wf = true ∧ s.csram.wf = true

/-- Both of a pair of memories are in canonical form. -/
def BothOk (m : Mem × Mem) : Prop := m.1.wf = true ∧ m.2.wf = true

@[simp] theorem bothOk_mk (a b : Mem) : BothOk (a, b) ↔ a.wf = true ∧ b.wf = true := Iff.rfl
theorem memOk_kept (s : State) : MemOk s = BothOk s.kept.2 := rfl
@[simp] theorem wf_lpddr (s : State) (h : BothOk s.kept.2) : s.lpddr.wf = true := h.1
@[simp] theorem wf_csram (s : State) (h : BothOk s.kept.2) : s.csram.wf = true := h.2

@[simp] theorem kept_ite {c : Prop} [Decidable c] (a b : State) : (if c then a else b).kept = if c then a.kept else b.kept := by split <;> rfl

/-- A fold of steps that each keep the memories keeps them. -/
@[simp] theorem kept_foldl {α : Type} (f : State → α → State) (l : List α) (s : State) (h : ∀ s x, (f s x).kept = s.kept) : (l.foldl f s).kept = s.kept := by
  induction l generalizing s with
  | nil => rfl
  | cons a l ih => rw [List.foldl_cons, ih, h]

theorem kept_foldl_pair {α β : Type} (f : State × β → α → State × β) (l : List α) (s : State × β) (h : ∀ s x, (f s x).1.kept = s.1.kept) :
    (l.foldl f s).1.kept = s.1.kept := by
  induction l generalizing s with
  | nil => rfl
  | cons a l ih => rw [List.foldl_cons, ih, h]

/-- A fold of steps that each keep the queue and the constants, and the canonical form, does so. -/
theorem does_foldl {α : Type} (f : State → α → State) (l : List α) (s : State)
    (h : ∀ s x, (f s x).kept.1 = s.kept.1 ∧ (BothOk s.kept.2 → BothOk (f s x).kept.2)) :
    (l.foldl f s).kept.1 = s.kept.1 ∧ (BothOk s.kept.2 → BothOk (l.foldl f s).kept.2) := by
  induction l generalizing s with
  | nil => exact ⟨rfl, id⟩
  | cons a l ih => exact ⟨(ih _).1.trans (h s a).1, fun hs => (ih _).2 ((h s a).2 hs)⟩

@[simp] theorem fixed_foldl {α : Type} (f : State → α → State) (l : List α) (s : State) (h : ∀ s x, (f s x).kept.1 = s.kept.1) :
    (l.foldl f s).kept.1 = s.kept.1 := by
  induction l generalizing s with
  | nil => rfl
  | cons a l ih => rw [List.foldl_cons, ih, h]

@[simp] theorem mems_foldl {α : Type} (f : State → α → State) (l : List α) (s : State) (h : ∀ s x, BothOk s.kept.2 → BothOk (f s x).kept.2)
    (hs : BothOk s.kept.2) : BothOk (l.foldl f s).kept.2 := by
  induction l generalizing s with
  | nil => exact hs
  | cons a l ih => exact ih _ (h s a hs)

@[simp] theorem State.setReg_kept (s : State) (off : Nat) (v : Word) : (State.setReg s off v).kept = s.kept := by
  rfl
@[simp] theorem State.setField_kept (s : State) (off hi lo v : Nat) : (State.setField s off hi lo v).kept = s.kept := by
  rfl
@[simp] theorem State.count_kept (s : State) (off hi lo n : Nat) : (State.count s off hi lo n).kept = s.kept := by
  rfl
@[simp] theorem State.countWrap_kept (s : State) (off hi lo n : Nat) : (State.countWrap s off hi lo n).kept = s.kept := by
  rfl
@[simp] theorem State.resetReg_kept (s : State) (off : Nat) : (State.resetReg s off).kept = s.kept := by
  rfl
@[simp] theorem State.modCore_kept (s : State) (k : CoreId) (f : Core → Core) : (State.modCore s k f).kept = s.kept := by
  rfl
@[simp] theorem State.modTh_kept (s : State) (c : Ctx) (f : Thread → Thread) : (State.modTh s c f).kept = s.kept := by
  rfl
@[simp] theorem State.setCounter_kept (s : State) (ctx k : Nat) (v : Lane) : (State.setCounter s ctx k v).kept = s.kept := by
  rfl
@[simp] theorem State.modReq_kept (s : State) (ctx : Nat) (f : Requester → Requester) : (State.modReq s ctx f).kept = s.kept := by
  rfl
@[simp] theorem State.modEnd_kept (s : State) (e : Nat) (f : EndState → EndState) : (State.modEnd s e f).kept = s.kept := by
  rfl
@[simp] theorem State.modVault_kept (s : State) (t : Nat) (f : Vault → Vault) : (State.modVault s t f).kept = s.kept := by
  rfl
@[simp] theorem State.modChan_kept (s : State) (c : Nat) (f : Channel → Channel) : (State.modChan s c f).kept = s.kept := by
  rfl
@[simp] theorem State.idle_kept (s : State) : (State.idle s).kept = s.kept := by
  rfl
@[simp] theorem State.reach_kept (s : State) (t : Nat) : (State.reach s t).kept = s.kept := by
  rfl
@[simp] theorem State.endEvent_kept (s : State) (e i n : Nat) : (State.endEvent s e i n).kept = s.kept := by
  unfold State.endEvent; simp
@[simp] theorem State.pmcAdd_kept (s : State) (k : CoreId) (n amount : Nat) : (State.pmcAdd s k n amount).kept = s.kept := by
  unfold State.pmcAdd; simp
@[simp] theorem State.pulse_kept (s : State) (k : CoreId) (event : Nat) (thread : Option Nat) (amount : Nat) :
    (State.pulse s k event thread amount).kept = s.kept := by
  unfold State.pulse; simp
@[simp] theorem State.countCycles_kept (s : State) (k : CoreId) (d : Nat) (stalled : Option Nat) (stretched : Bool) :
    (State.countCycles s k d stalled stretched).kept = s.kept := by
  unfold State.countCycles; simp
@[simp] theorem State.passCycles_kept (s : State) (k : CoreId) (cyc : Nat) : (State.passCycles s k cyc).kept = s.kept := by
  unfold State.passCycles; simp
@[simp] theorem State.choose_kept (s : State) (k : CoreId) : (State.choose s k).kept = s.kept := by
  unfold State.choose; (try dsimp only); (repeat' split) <;> simp
@[simp] theorem State.wake_kept (s : State) (c : Ctx) : (State.wake s c).kept = s.kept := by
  unfold State.wake; simp
@[simp] theorem State.giveUp_kept (s : State) (c : Ctx) (st : TState) : (State.giveUp s c st).kept = s.kept := by
  unfold State.giveUp; (try dsimp only); (repeat' split) <;> simp
@[simp] theorem State.writeFault_kept (s : State) (k : CoreId) (thread cause orig : Nat) (pc : BitVec 13) (addr : Word) :
    (State.writeFault s k thread cause orig pc addr).kept = s.kept := by
  rfl
@[simp] theorem State.recordFault_kept (s : State) (k : CoreId) (thread cause orig : Nat) (pc : BitVec 13) (addr : Word) :
    (State.recordFault s k thread cause orig pc addr).kept = s.kept := by
  unfold State.recordFault; simp
@[simp] theorem State.recordFatal_kept (s : State) (k : CoreId) (pc : BitVec 13) (addr : Nat) : (State.recordFatal s k pc addr).kept = s.kept := by
  unfold State.recordFatal; simp
@[simp] theorem State.endReplay_kept (s : State) (k : CoreId) (thread : Option Nat) (result cause : Nat) :
    (State.endReplay s k thread result cause).kept = s.kept := by
  unfold State.endReplay; (try dsimp only); (repeat' split) <;> simp
@[simp] theorem State.raise_kept (s : State) (c : Ctx) (cause : Nat) (addr : Word) (pc : BitVec 13) (deferred : Bool) :
    (State.raise s c cause addr pc deferred).kept = s.kept := by
  unfold State.raise; simp
@[simp] theorem State.raiseWaiting_kept (s : State) (c : Ctx) (cause : Nat) (addr : Word) (pc : BitVec 13) :
    (State.raiseWaiting s c cause addr pc).kept = s.kept := by
  unfold State.raiseWaiting; simp
@[simp] theorem State.defer_kept (s : State) (c : Ctx) (cause : Nat) (addr : Word) : (State.defer s c cause addr).kept = s.kept := by
  unfold State.defer; (try dsimp only); (repeat' split) <;> simp
@[simp] theorem State.logWord_kept (s : State) (w : Word) : (s.logWord w).kept = s.kept := kept_upd ..
@[simp] theorem State.logEvent_kept (s : State) (kind code unit : Nat) : (s.logEvent kind code unit).kept = s.kept := by
  unfold State.logEvent; exact State.logWord_kept ..
@[simp] theorem State.decideFault_kept (s : State) (cause : Nat) : (State.decideFault s cause).kept = s.kept := by
  unfold State.decideFault; (try dsimp only); (repeat' split) <;> simp
@[simp] theorem State.event_kept (s : State) (code unit : Nat) (fault : Bool) : (State.event s code unit fault).kept = s.kept := by
  unfold State.event; simp
@[simp] theorem State.flushLog_kept (s : State) : (State.flushLog s).kept = s.kept := by
  unfold State.flushLog; simp
@[simp] theorem State.requestReset_kept (s : State) (domain unit code : Nat) : (State.requestReset s domain unit code).kept = s.kept := by
  unfold State.requestReset; simp
@[simp] theorem State.modPower_kept (s : State) (f : Power → Power) : (State.modPower s f).kept = s.kept := by
  rfl
@[simp] theorem State.periodic_kept (s : State) (key period : Nat) : (State.periodic s key period).kept = s.kept := by
  rfl
@[simp] theorem State.noteMram_kept (s : State) (i : MramItem) : (State.noteMram s i).kept = s.kept := by
  rfl
@[simp] theorem State.mramWrite_kept (s : State) (i : MramItem) (stored : List Nat) : (State.mramWrite s i stored).kept = s.kept := by
  unfold State.mramWrite; simp
@[simp] theorem State.setKept_kept (s : State) (off hi lo v : Nat) : (State.setKept s off hi lo v).kept = s.kept := by
  unfold State.setKept; simp
@[simp] theorem State.openWindow_kept (s : State) (c1 : Bool) : (State.openWindow s c1).kept = s.kept := by
  unfold State.openWindow; simp
@[simp] theorem State.setLatch_kept (s : State) (p : Port) (off : Nat) (v : Option (Nat × Lane)) : (State.setLatch s p off v).kept = s.kept := by
  rfl
@[simp] theorem State.endLatch_kept (s : State) (p : Port) (off : Nat) : (State.endLatch s p off).kept = s.kept := by
  unfold State.endLatch; (try dsimp only); (repeat' split) <;> simp
@[simp] theorem State.msi_kept (s : State) (v : Nat) : (State.msi s v).kept = s.kept := by
  rfl
@[simp] theorem State.noteCorrection_kept (s : State) (k : CoreId) (lane : Nat) (imem : Bool) :
    (State.noteCorrection s k lane imem).kept = s.kept := by
  unfold State.noteCorrection; simp
@[simp] theorem State.readLane_kept (s : State) (k : CoreId) (lane : Nat) : (State.readLane s k lane).1.kept = s.kept := by
  unfold State.readLane; (try dsimp only); (repeat' split) <;> simp
@[simp] theorem State.stopCore_kept (s : State) (k : CoreId) : (State.stopCore s k).kept = s.kept := by
  unfold State.stopCore; simp
@[simp] theorem State.fatalAt_kept (s : State) (k : CoreId) (pc : BitVec 13) (addr : Nat) : (State.fatalAt s k pc addr).kept = s.kept := by
  unfold State.fatalAt; simp
@[simp] theorem State.fatal_kept (s : State) (k : CoreId) (addr : Nat) : (State.fatal s k addr).kept = s.kept := by
  unfold State.fatal; simp
@[simp] theorem State.readInto_kept (s : State) (k : CoreId) (r : Reading) (l : Nat) : (State.readInto s k r l).1.kept = s.kept := by
  unfold State.readInto; (try dsimp only); (repeat' split) <;> (repeat (rename _ = ((_ : State), _) => hq; have hh := congrArg (fun p => State.kept (Prod.fst p)) hq; simp at hh; clear hq)) <;> first | (simp [*]; done)
@[simp] theorem State.readLanes_kept (s : State) (k : CoreId) (ls : List Nat) (r : Reading) :
    (s.readLanes k ls r).1.kept = s.kept := by
  induction ls generalizing s r with
  | nil => rfl
  | cons l ls ih => unfold State.readLanes; dsimp only; rw [ih]; exact State.readInto_kept ..
@[simp] theorem State.spadTry_kept (s : State) (k : CoreId) (off n : Nat) : (State.spadTry s k off n).1.kept = s.kept := by
  unfold State.spadTry; (try dsimp only); (repeat' split) <;> simp
@[simp] theorem State.putLane_kept (s : State) (k : CoreId) (lane : Nat) (bytes : List (Nat × Byte)) :
    (State.putLane s k lane bytes).kept = s.kept := by
  unfold State.putLane; simp
@[simp] theorem State.patchLane_kept (s : State) (k : CoreId) (lane : Nat) (bs : List Byte) (bytes : List (Nat × Byte)) :
    (State.patchLane s k lane bs bytes).kept = s.kept := by
  unfold State.patchLane; simp
@[simp] theorem State.mergeLane_kept (s : State) (k : CoreId) (lane : Nat) (bytes : List (Nat × Byte)) :
    (State.mergeLane s k lane bytes).1.kept = s.kept := by
  unfold State.mergeLane; (try dsimp only); (repeat' split) <;> (repeat (rename _ = ((_ : State), _) => hq; have hh := congrArg (fun p => State.kept (Prod.fst p)) hq; simp at hh; clear hq)) <;> first | (simp [*]; done)
@[simp] theorem State.writeLane_kept (s : State) (k : CoreId) (lane : Nat) (bytes : List (Nat × Byte)) :
    (State.writeLane s k lane bytes).1.kept = s.kept := by
  unfold State.writeLane; (try dsimp only); (repeat' split) <;> (repeat (rename _ = ((_ : State), _) => hq; have hh := congrArg (fun p => State.kept (Prod.fst p)) hq; simp at hh; clear hq)) <;> first | (simp [*]; done)
@[simp] theorem State.spadWrite_kept (s : State) (k : CoreId) (off : Nat) (bs : List Byte) : (s.spadWrite k off bs).1.kept = s.kept := by
  unfold State.spadWrite; rw [kept_foldl_pair]; intro s l; simp
@[simp] theorem State.spadPut_kept (s : State) (k : CoreId) (off : Nat) (bs : List Byte) : (s.spadPut k off bs).kept = s.kept :=
  State.spadWrite_kept s k off bs
@[simp] theorem State.fetch_kept (s : State) (k : CoreId) (pc : BitVec 13) : (State.fetch s k pc).1.kept = s.kept := by
  unfold State.fetch; (try dsimp only); (repeat' split) <;> simp
@[simp] theorem State.book_kept (s : State) (k : CoreId) (lanes : List Nat) : (State.book s k lanes).1.kept = s.kept := by
  rfl
@[simp] theorem State.addLong_kept (s : State) (k : CoreId) (o : LongOp) : (State.addLong s k o).kept = s.kept := by
  rfl
@[simp] theorem State.startLong_kept (s : State) (c : Ctx) (lat : Nat) (d : LongDest) : (State.startLong s c lat d).kept = s.kept := by
  rfl
@[simp] theorem State.startLoad_kept (s : State) (c : Ctx) (kind : LoadKind) (r off n : Nat) (mask : Word) :
    (State.startLoad s c kind r off n mask).kept = s.kept := by
  rfl
@[simp] theorem State.startTopk_kept (s : State) (c : Ctx) (r off n : Nat) : (State.startTopk s c r off n).kept = s.kept := by
  rfl
@[simp] theorem State.startStore_kept (s : State) (c : Ctx) (bytes : List (Nat × Byte)) : (State.startStore s c bytes).kept = s.kept := by
  rfl
@[simp] theorem State.wakeLocal_kept (s : State) (k : CoreId) : (State.wakeLocal s k).kept = s.kept := by
  unfold State.wakeLocal; (try dsimp only); (repeat' split) <;> (repeat (rename _ = ((_ : State), _) => hq; have hh := congrArg (fun p => State.kept (Prod.fst p)) hq; simp at hh; clear hq)) <;> first | (simp [*]; done) | (simp; (repeat rw [kept_foldl]) <;> first | (simp; done) | (intro s x; (try dsimp only); (repeat' split) <;> (repeat (rename _ = ((_ : State), _) => hq; have hh := congrArg (fun p => State.kept (Prod.fst p)) hq; simp at hh; clear hq)) <;> simp [*]; done))
@[simp] theorem State.longReads_kept (s : State) (k : CoreId) (n : Nat) (o : LongOp) : (State.longReads s k n o).kept = s.kept := by
  unfold State.longReads; simp
@[simp] theorem State.storePart_kept (s : State) (k : CoreId) (st : LaneStore) : (State.storePart s k st).kept = s.kept := by
  unfold State.storePart; (try dsimp only); (repeat' split) <;> simp
@[simp] theorem State.writeback_kept (k : CoreId) (n : Nat) (s : State) (bank : Nat) : (State.writeback k n s bank).kept = s.kept := by
  unfold State.writeback; (try dsimp only); (repeat' split) <;> simp
@[simp] theorem State.localTurns_kept (s : State) (k : CoreId) (n : Nat) : (State.localTurns s k n).kept = s.kept := by
  unfold State.localTurns; simp
@[simp] theorem State.finishLong_kept (s : State) (k : CoreId) (o : LongOp) : (State.finishLong s k o).kept = s.kept := by
  unfold State.finishLong; (try dsimp only); (repeat' split) <;> simp
@[simp] theorem State.longResults_kept (k : CoreId) (n fuel : Nat) (s : State) : (State.longResults k n fuel s).kept = s.kept := by
  induction fuel generalizing s with
  | zero => rfl
  | succ i ih => unfold State.longResults; split <;> (try split) <;> simp [ih]
@[simp] theorem State.modLane_kept (s : State) (key : Nat) (f : LaneState → LaneState) : (State.modLane s key f).kept = s.kept := by
  rfl
@[simp] theorem State.setPlane_kept (s : State) (i : Nat) (v : PlaneState) : (State.setPlane s i v).kept = s.kept := by
  rfl
@[simp] theorem State.modBay_kept (s : State) (n : Nat) (f : Bay → Bay) : (State.modBay s n f).kept = s.kept := by
  rfl
@[simp] theorem State.setRings_kept (s : State) (p : Nat → Bool) (st : RingState) : (State.setRings s p st).kept = s.kept := by
  rfl
@[simp] theorem State.unlockPath_kept (s : State) (p : Nat → Bool) : (State.unlockPath s p).kept = s.kept := by
  unfold State.unlockPath; simp
@[simp] theorem State.modRing_kept (s : State) (key : Nat) (f : Ring → Ring) : (State.modRing s key f).kept = s.kept := by
  rfl
@[simp] theorem State.darken_kept (s : State) (p : Nat → Bool) : (State.darken s p).kept = s.kept := by
  unfold State.darken; simp
@[simp] theorem State.wakeLane_kept (s : State) (key : Nat) : (State.wakeLane s key).kept = s.kept := by
  unfold State.wakeLane; simp
@[simp] theorem State.noteDepth_kept (s : State) (src dest : Nat) : (State.noteDepth s src dest).kept = s.kept := by
  unfold State.noteDepth; simp
@[simp] theorem State.putOnLane_kept (s : State) (key : Nat) (t : Transit) : (State.putOnLane s key t).kept = s.kept := by
  unfold State.putOnLane; simp
@[simp] theorem State.endStall_kept (s : State) (key t : Nat) : (State.endStall s key t).kept = s.kept := by
  unfold State.endStall; (try dsimp only); (repeat' split) <;> simp
@[simp] theorem State.replace_kept (s : State) (key : Nat) : (State.replace s key).kept = s.kept := by
  unfold State.replace; simp
@[simp] theorem State.stage_kept (s : State) (e : Nat) (p : Packet) (dest : Nat) (fibre : Option Nat) :
    (State.stage s e p dest fibre).kept = s.kept := by
  rfl
@[simp] theorem State.handOver_kept (s : State) (e : Nat) (p : Packet) : (State.handOver s e p).kept = s.kept := by
  rfl
@[simp] theorem State.emit_kept (s : State) (e : Nat) (p : Packet) : (State.emit s e p).kept = s.kept := by
  unfold State.emit; simp
@[simp] theorem State.noteSeen_kept (s : State) (e : Nat) (p : Packet) (v : Seen) : (State.noteSeen s e p v).kept = s.kept := by
  rfl
@[simp] theorem State.finish_kept (s : State) (e : Nat) (p : Packet) (v : Seen) (r : Packet) : (State.finish s e p v r).kept = s.kept := by
  unfold State.finish; simp
@[simp] theorem State.refuse_kept (s : State) (e : Nat) (p : Packet) (cause : Nat) : (State.refuse s e p cause).kept = s.kept := by
  unfold State.refuse; simp
@[simp] theorem State.epochEnds_kept (s : State) (fibre : Bool) : (State.epochEnds s fibre).kept = s.kept := by
  unfold State.epochEnds; simp
@[simp] theorem State.setEpoch_kept (s : State) (fibre : Bool) (c : EpochCmd) : (State.setEpoch s fibre c).kept = s.kept := by
  unfold State.setEpoch; simp
@[simp] theorem State.epochCheck_kept (s : State) (fibre : Bool) : (State.epochCheck s fibre).kept = s.kept := by
  unfold State.epochCheck; (try dsimp only); (repeat' split) <;> simp
@[simp] theorem State.clearLanes_kept (s : State) (i : Nat) : (State.clearLanes s i).kept = s.kept := by
  unfold State.clearLanes; simp
@[simp] theorem State.forceRetire_kept (s : State) (i cause : Nat) : (State.forceRetire s i cause).kept = s.kept := by
  unfold State.forceRetire; simp
@[simp] theorem State.checkFailed_kept (s : State) (i : Nat) : (State.checkFailed s i).kept = s.kept := by
  unfold State.checkFailed; simp
@[simp] theorem State.failLane_kept (s : State) (key : Nat) : (State.failLane s key).kept = s.kept := by
  unfold State.failLane; simp
@[simp] theorem State.dropLane_kept (s : State) (out : Nat) : (State.dropLane s out).kept = s.kept := by
  unfold State.dropLane; simp
@[simp] theorem State.initSide_kept (s : State) (out : Nat) (st : InitState) : (State.initSide s out st).kept = s.kept := by
  unfold State.initSide; simp
@[simp] theorem State.askInit_kept (s : State) (out : Nat) : (State.askInit s out).kept = s.kept := by
  rfl
@[simp] theorem State.rejoin_kept (s : State) (src dst : Nat) : (State.rejoin s src dst).kept = s.kept := by
  unfold State.rejoin; simp
@[simp] theorem State.initOver_kept (s : State) (out : Nat) : (State.initOver s out).kept = s.kept := by
  unfold State.initOver; simp
@[simp] theorem State.seeInit_kept (s : State) (out : Nat) (set : Bool) : (State.seeInit s out set).kept = s.kept := by
  unfold State.seeInit; (try dsimp only); (repeat' split) <;> simp
@[simp] theorem State.enterOp_kept (s : State) (ctx : Nat) (op : RemoteOp) : (State.enterOp s ctx op).kept = s.kept := by
  rfl
@[simp] theorem State.increment_kept (s : State) (ctx k : Nat) : (State.increment s ctx k).kept = s.kept := by
  unfold State.increment; (try dsimp only); (repeat' split) <;> simp
@[simp] theorem State.setDoorbell_kept (s : State) (c : Ctx) : (State.setDoorbell s c).kept = s.kept := by
  unfold State.setDoorbell; (try dsimp only); (repeat' split) <;> simp
@[simp] theorem State.ringDoorbells_kept (s : State) (k : CoreId) (off n : Nat) : (s.ringDoorbells k off n).kept = s.kept := by
  unfold State.ringDoorbells; rw [kept_foldl]; intro s t; (repeat' split) <;> simp
@[simp] theorem State.ctxPulse_kept (s : State) (ctx event : Nat) : (State.ctxPulse s ctx event).kept = s.kept := by
  unfold State.ctxPulse; (try dsimp only); (repeat' split) <;> simp
@[simp] theorem State.removeLine_kept (s : State) (t line : Nat) : (State.removeLine s t line).kept = s.kept := by
  rfl
@[simp] theorem State.launch_kept (s : State) (ctx dest : Nat) (p : Packet) : (State.launch s ctx dest p).kept = s.kept := by
  unfold State.launch; simp
@[simp] theorem State.takeSeq_kept (s : State) (ctx dest : Nat) : (State.takeSeq s ctx dest).1.kept = s.kept := by
  rfl
@[simp] theorem State.sendFill_kept (s : State) (t : Nat) (line : Nat) : (State.sendFill s t line).kept = s.kept := by
  unfold State.sendFill; (try dsimp only); (repeat' split) <;> simp
@[simp] theorem State.modFlight_kept (s : State) (ctx id dest seq : Nat) (g : Flight → Flight) (h : RemoteOp → RemoteOp) :
    (State.modFlight s ctx id dest seq g h).kept = s.kept := by
  rfl
@[simp] theorem State.sendPiece_kept (s : State) (ctx dest : Nat) (p : Piece) (seq tries : Nat) (data : List Byte) :
    (State.sendPiece s ctx dest p seq tries data).kept = s.kept := by
  unfold State.sendPiece; simp
@[simp] theorem State.readSource_kept (s : State) (c : Ctx) (op seq dest : Nat) (p : Piece) : (State.readSource s c op seq dest p).kept = s.kept := by
  rfl
@[simp] theorem State.putUnit_kept (s : State) (ctx op seq dest pos : Nat) (bytes : List Byte) :
    (State.putUnit s ctx op seq dest pos bytes).kept = s.kept := by
  unfold State.putUnit; (try dsimp only); (repeat' split) <;> simp
@[simp] theorem State.sendFirst_kept (s : State) (ctx dest : Nat) (o : RemoteOp) (p : Piece) (rest : List Piece) :
    (State.sendFirst s ctx dest o p rest).kept = s.kept := by
  unfold State.sendFirst; (try dsimp only); (repeat' split) <;> simp
@[simp] theorem State.memAnswer_kept (s : State) (port : Bool) (a : CxlAnswer) : (State.memAnswer s port a).kept = s.kept := by
  rfl
@[simp] theorem State.logRas_kept (s : State) (port : Bool) : (State.logRas s port).kept = s.kept := by
  rfl
@[simp] theorem State.nextMem_kept (s : State) (port : Bool) (off : Nat) : (State.nextMem s port off).kept = s.kept := by
  unfold State.nextMem; (try dsimp only); (repeat' split) <;> simp
@[simp] theorem State.mmioAnswer_kept (s : State) (port : Bool) (size : Nat) (o : RemoteOp) : (State.mmioAnswer s port size o).kept = s.kept := by
  unfold State.mmioAnswer; simp
@[simp] theorem State.settleHost_kept (s : State) (ctx : Nat) (o : RemoteOp) : (State.settleHost s ctx o).kept = s.kept := by
  unfold State.settleHost; (try dsimp only); (repeat' split) <;> simp
@[simp] theorem State.settleOp_kept (s : State) (ctx id : Nat) : (State.settleOp s ctx id).kept = s.kept := by
  unfold State.settleOp; (try dsimp only); (repeat' split) <;> simp
@[simp] theorem State.answerFlight_kept (s : State) (ctx id dest seq : Nat) (h : RemoteOp → RemoteOp) :
    (State.answerFlight s ctx id dest seq h).kept = s.kept := by
  unfold State.answerFlight; simp
@[simp] theorem State.gotAll_kept (s : State) (ctx id dest seq : Nat) : (State.gotAll s ctx id dest seq).kept = s.kept := by
  unfold State.gotAll; (try dsimp only); (repeat' split) <;> simp
@[simp] theorem State.writeGot_kept (s : State) (ctx id dest seq : Nat) (loc : Nat) (bs : List Byte) :
    (State.writeGot s ctx id dest seq loc bs).kept = s.kept := by
  unfold State.writeGot; (try dsimp only); (repeat' split) <;> simp
@[simp] theorem State.noteLost_kept (s : State) (ctx dest seq : Nat) : (State.noteLost s ctx dest seq).kept = s.kept := by
  rfl
@[simp] theorem State.failFlight_kept (s : State) (ctx id dest seq : Nat) (bound : Bool) (cause : Nat) :
    (State.failFlight s ctx id dest seq bound cause).kept = s.kept := by
  unfold State.failFlight; (try dsimp only); (repeat' split) <;> simp
@[simp] theorem State.bookPort_kept (s : State) (k : CoreId) (cyc : Nat) (lanes : List Nat) : (State.bookPort s k cyc lanes).1.kept = s.kept := by
  rfl
@[simp] theorem State.copyRegion_kept (s : State) (k w : CoreId) (pc : BitVec 13) (r : Nat × Nat × Nat) :
    (State.copyRegion s k w pc r).1.kept = s.kept := by
  unfold State.copyRegion; (try dsimp only); (repeat' split) <;> (repeat (rename _ = ((_ : State), _) => hq; have hh := congrArg (fun p => State.kept (Prod.fst p)) hq; simp at hh; clear hq)) <;> first | (simp [*]; done)
@[simp] theorem State.copyHead_kept (s : State) (k w : CoreId) (x : Capture) : (s.copyHead k w x).kept = s.kept := by
  unfold State.copyHead; simp only [State.spadPut_kept]
@[simp] theorem State.copyInputs_kept (s : State) (k : CoreId) (pc : BitVec 13) (a : Tmma) : (s.copyInputs k pc a).1.kept = s.kept := by
  unfold State.copyInputs
  split
  · rw [kept_foldl_pair]
    · simp only [State.copyHead_kept]
    · intro s x; split
      · simp only [State.copyRegion_kept]
      · rfl
  · rfl
@[simp] theorem State.startOp_kept (s : State) (k : CoreId) (n i : Nat) (o : TensorOp) : (State.startOp s k n i o).kept = s.kept := by
  unfold State.startOp; (try dsimp only); (repeat' split) <;> simp
@[simp] theorem State.tensorStart_kept (s : State) (k : CoreId) (n : Nat) : (State.tensorStart s k n).kept = s.kept := by
  unfold State.tensorStart; (try dsimp only); (repeat' split) <;> simp
@[simp] theorem State.nextBlock_kept (s : State) (k : CoreId) (n i : Nat) (o : TensorOp) (a : Tmma) (ran : Bool) (kb fuel : Nat) :
    (s.nextBlock k n i o a ran kb fuel).kept = s.kept := by
  induction fuel generalizing s kb with
  | zero => rfl
  | succ f ih => unfold State.nextBlock; dsimp only; (repeat' split) <;> simp [ih]
@[simp] theorem State.opBlock_kept (k : CoreId) (n : Nat) (s : State) (i : Nat) : (State.opBlock k n s i).kept = s.kept := by
  unfold State.opBlock; (try dsimp only); (repeat' split) <;> simp
@[simp] theorem State.blockReads_kept (s : State) (k : CoreId) (n : Nat) (b : BlockRun) : (State.blockReads s k n b).1.kept = s.kept := by
  unfold State.blockReads; simp
@[simp] theorem State.allReads_kept (s : State) (k : CoreId) (n : Nat) (bs : List BlockRun) : (s.allReads k n bs).1.kept = s.kept := by
  induction bs generalizing s with
  | nil => rfl
  | cons b bs ih => unfold State.allReads; dsimp only; rw [ih]; simp
@[simp] theorem State.applyBlocks_kept (s : State) (k : CoreId) (o : TensorOp) (a : Tmma) (bs : List BlockRun) :
    (s.applyBlocks k o a bs).1.kept = s.kept := by
  induction bs generalizing s with
  | nil => rfl
  | cons b bs ih => unfold State.applyBlocks; dsimp only; (repeat' split) <;> simp [ih]
@[simp] theorem State.opReads_kept (k : CoreId) (n : Nat) (s : State) (i : Nat) : (State.opReads k n s i).kept = s.kept := by
  unfold State.opReads; (try dsimp only); (repeat' split) <;> simp
@[simp] theorem State.opWrites_kept (k : CoreId) (n : Nat) (s : State) (i : Nat) : (State.opWrites k n s i).kept = s.kept := by
  unfold State.opWrites; (try dsimp only); (repeat' split) <;> simp
@[simp] theorem State.tensorTurns_kept (s : State) (k : CoreId) (n : Nat) : (State.tensorTurns s k n).kept = s.kept := by
  unfold State.tensorTurns; simp
@[simp] theorem State.finishOp_kept (s : State) (k : CoreId) (i : Nat) (o : TensorOp) : (State.finishOp s k i o).kept = s.kept := by
  unfold State.finishOp; (try dsimp only); (repeat' split) <;> simp
@[simp] theorem State.tensorResults_kept (k : CoreId) (n fuel : Nat) (s : State) : (State.tensorResults k n fuel s).kept = s.kept := by
  induction fuel generalizing s with
  | zero => rfl
  | succ i ih => unfold State.tensorResults; (repeat' split) <;> simp [ih]
@[simp] theorem State.answerTxn_kept (s : State) (e : Nat) (t : Txn) : (State.answerTxn s e t).kept = s.kept := by
  unfold State.answerTxn; (try dsimp only); (repeat' split) <;> simp
@[simp] theorem State.settleTxn_kept (s : State) (e id : Nat) : (State.settleTxn s e id).kept = s.kept := by
  unfold State.settleTxn; (try dsimp only); (repeat' split) <;> simp
@[simp] theorem State.unitDone_kept (s : State) (e id : Nat) (pos : Nat) (bytes : List Byte) (old : Option Word) (failure : Option Nat) :
    (State.unitDone s e id pos bytes old failure).kept = s.kept := by
  unfold State.unitDone; simp
@[simp] theorem State.gotUnit_kept (s : State) (ctx op seq dest : Nat) : (State.gotUnit s ctx op seq dest).kept = s.kept := by
  unfold State.gotUnit; (try dsimp only); (repeat' split) <;> simp
@[simp] theorem State.inboundUnit_kept (s : State) (k : CoreId) (u : PortUnit) : (State.inboundUnit s k u).kept = s.kept := by
  unfold State.inboundUnit; (try dsimp only); (repeat' split) <;> (repeat (rename _ = ((_ : State), _) => hq; have hh := congrArg (fun p => State.kept (Prod.fst p)) hq; simp at hh; clear hq)) <;> first | (simp [*]; done)
@[simp] theorem State.outboundUnit_kept (s : State) (k : CoreId) (u : PortUnit) : (State.outboundUnit s k u).kept = s.kept := by
  unfold State.outboundUnit; (try dsimp only); (repeat' split) <;> (repeat (rename _ = ((_ : State), _) => hq; have hh := congrArg (fun p => State.kept (Prod.fst p)) hq; simp at hh; clear hq)) <;> first | (simp [*]; done)
@[simp] theorem State.bankTurn_kept (k : CoreId) (n : Nat) (s : State) (b : Nat) : (State.bankTurn k n s b).kept = s.kept := by
  unfold State.bankTurn; (try dsimp only); (repeat' split) <;> simp
@[simp] theorem State.startOwn_kept (s : State) (u : PortUnit) : (State.startOwn s u).kept = s.kept := by
  unfold State.startOwn; (try dsimp only); (repeat' split) <;> simp
@[simp] theorem State.takeDown_kept (s : State) (k : CoreId) (u : DownUnit) : (s.takeDown k u).kept = s.kept := by
  cases u <;> unfold State.takeDown <;> (try dsimp only) <;> (repeat' split) <;> simp
@[simp] theorem State.drainBonds_kept (k : CoreId) (n : Nat) (s : State) : (State.drainBonds k n s).kept = s.kept := by
  induction n generalizing s with
  | zero => rfl
  | succ i ih => unfold State.drainBonds; (repeat' split) <;> simp [ih]
@[simp] theorem State.begin_kept (s : State) (k : CoreId) (n : Nat) : (State.begin s k n).kept = s.kept := by
  unfold State.begin; simp
@[simp] theorem State.finishCycle_kept (s : State) (k : CoreId) (n : Nat) : (State.finishCycle s k n).kept = s.kept := by
  unfold State.finishCycle; simp
@[simp] theorem State.begun_kept (s : State) (k : CoreId) : (State.begun s k).kept = s.kept := by
  unfold State.begun; simp
@[simp] theorem State.tick_kept (s : State) (k : CoreId) : (State.tick s k).kept = s.kept := by
  unfold State.tick; simp
@[simp] theorem State.runCycles_kept (k : CoreId) (d : Nat) (s : State) : (State.runCycles k d s).kept = s.kept := by
  induction d generalizing s with
  | zero => rfl
  | succ i ih => unfold State.runCycles; dsimp only; (repeat' split) <;> simp [ih]
@[simp] theorem State.toCycle_kept (s : State) (k : CoreId) (n : Nat) : (State.toCycle s k n).kept = s.kept := by
  unfold State.toCycle; simp
@[simp] theorem State.arrive_kept (s : State) (c : Ctx) : (State.arrive s c).kept = s.kept := by
  unfold State.arrive; simp
@[simp] theorem State.stall_kept (s : State) (c : Ctx) : (State.stall s c).kept = s.kept := by
  rfl
@[simp] theorem State.takeCycle_kept (s : State) (c : Ctx) : (State.takeCycle s c).kept = s.kept := by
  rfl
@[simp] theorem State.noteIssue_kept (s : State) (c : Ctx) : (State.noteIssue s c).kept = s.kept := by
  unfold State.noteIssue; simp
@[simp] theorem State.takeStop_kept (s : State) (c : Ctx) : (State.takeStop s c).kept = s.kept := by
  unfold State.takeStop; simp
theorem State.issue_kept (s : State) (c : Ctx) (n : Needs) (body : State → State) (h : ∀ s, (body s).kept = s.kept) :
    (s.issue c n body).kept = s.kept := by
  unfold State.issue; (try dsimp only); (repeat' split) <;> (repeat (rename _ = ((_ : State), _) => hq; have hh := congrArg (fun p => State.kept (Prod.fst p)) hq; simp at hh; clear hq)) <;> simp [*]
theorem State.issueSeq_kept (s : State) (c : Ctx) (n : Needs) (body : State → State) (h : ∀ s, (body s).kept = s.kept) :
    (s.issueSeq c n body).kept = s.kept := by
  unfold State.issueSeq; rw [State.issue_kept]; intro s; simp [h]

end Sys2Proof.Machine
end

