-- ==== Sys2Proof/Laws/KeptNet.lean ====
section
/-!
SUPPORT. What the shared operations of the photonic base, the memory ports, the vaults and the light keep: the queue and the device's constants always; the LPDDR5X and the
control SRAM as they were, or in canonical form where the operation writes them.
-/
namespace Sys2Proof.Machine
open Sys2Proof

@[simp] theorem State.creditsCome_kept (s : State) (key : Nat) : (State.creditsCome s key).kept = s.kept := by
  unfold State.creditsCome; (try dsimp only); (repeat' split) <;> simp
@[simp] theorem State.countSent_kept (s : State) (key n : Nat) : (State.countSent s key n).kept = s.kept := by
  unfold State.countSent; simp
@[simp] theorem State.intoFifo_kept (s : State) (key t : Nat) (tr : Transit) : (State.intoFifo s key t tr).kept = s.kept := by
  unfold State.intoFifo; simp
@[simp] theorem State.drainFlit_kept (s : State) (e key t : Nat) (request : Bool) : (State.drainFlit s e key t request).kept = s.kept := by
  unfold State.drainFlit; (try dsimp only); (repeat' split) <;> simp
@[simp] theorem State.drainLane_kept (s : State) (e key t stop n : Nat) : (s.drainLane e key t stop n).kept = s.kept := by
  induction n generalizing s t with
  | zero => rfl
  | succ n ih => unfold State.drainLane; dsimp only; (repeat' split) <;> simp [ih]
@[simp] theorem State.linkOut_kept (s : State) (key t : Nat) (due : Bool) : (State.linkOut s key t due).kept = s.kept := by
  unfold State.linkOut; simp
@[simp] theorem State.haltLane_kept (s : State) (out : Nat) : (State.haltLane s out).kept = s.kept := by
  unfold State.haltLane; simp
@[simp] theorem State.linkPlane_kept (s : State) (f : LinkFlit) (p : Nat) : (State.linkPlane s f p).kept = s.kept := by
  unfold State.linkPlane; simp
@[simp] theorem State.extLane'_kept (s : State) (f : ExtLinkFlit) (j : Nat) : (State.extLane' s f j).kept = s.kept := by
  unfold State.extLane'; simp
@[simp] theorem State.openPlane_kept (s : State) (i : Nat) : (State.openPlane s i).kept = s.kept := by
  unfold State.openPlane; simp
@[simp] theorem State.epochWrite_kept (s : State) (fibre : Bool) (action names : Nat) : (State.epochWrite s fibre action names).kept = s.kept := by
  unfold State.epochWrite; (try dsimp only); (repeat' split) <;> simp
@[simp] theorem State.closePlane_kept (s : State) (i : Nat) : (State.closePlane s i).kept = s.kept := by
  unfold State.closePlane; simp
@[simp] theorem State.admitPlane_kept (s : State) (i : Nat) : (State.admitPlane s i).kept = s.kept := by
  unfold State.admitPlane; simp
@[simp] theorem State.epochComes_kept (s : State) (fibre : Bool) : (State.epochComes s fibre).kept = s.kept := by
  unfold State.epochComes; (try dsimp only); (repeat' split) <;> simp
@[simp] theorem State.retireEmpty_kept (s : State) (i : Nat) : (State.retireEmpty s i).kept = s.kept := by
  unfold State.retireEmpty; simp
@[simp] theorem State.selfErrors_kept (s : State) (e p n : Nat) : (State.selfErrors s e p n).kept = s.kept := by
  rfl
@[simp] theorem State.readmitCal_kept (s : State) (i : Nat) : (State.readmitCal s i).kept = s.kept := by
  unfold State.readmitCal; simp
@[simp] theorem State.chCount_kept (s : State) (c k n : Nat) : (State.chCount s c k n).kept = s.kept := by
  rfl
@[simp] theorem State.healUnits_kept (s : State) (us : List Nat) : (State.healUnits s us).kept = s.kept := by
  rfl
theorem State.mergeUnit_does (s : State) (c unit : Nat) :
    (State.mergeUnit s c unit).kept.1 = s.kept.1 ∧ (BothOk s.kept.2 → BothOk (State.mergeUnit s c unit).kept.2) := by
  refine ⟨?_, fun h => ?_⟩ <;> unfold State.mergeUnit <;> (try dsimp only) <;> (repeat' split) <;> first | rfl | exact h | (simp (maxDischargeDepth := 9) [*]; done)
@[simp] theorem State.mergeUnit_kept_fixed (s : State) (c unit : Nat) :
    (State.mergeUnit s c unit).kept.1 = s.kept.1 := (State.mergeUnit_does s c unit).1
@[simp] theorem State.mergeUnit_kept_mems (s : State) (c unit : Nat) (h : BothOk s.kept.2) : BothOk (State.mergeUnit s c unit).kept.2 := (State.mergeUnit_does s c unit).2 h
@[simp] theorem State.answerAtomic_kept (s : State) (e : Nat) (w : Waiting) (old : Nat) : (State.answerAtomic s e w old).kept = s.kept := by
  unfold State.answerAtomic; simp
@[simp] theorem State.dropRequests_kept (s : State) (c : Nat) (p : ChanReq → Bool) : (State.dropRequests s c p).kept = s.kept := by
  rfl
@[simp] theorem State.failEntry_kept (s : State) (e : Nat) (x : Combine) : (State.failEntry s e x).kept = s.kept := by
  unfold State.failEntry; simp
@[simp] theorem State.engineFails_kept (s : State) (a : EngineAct) : (s.engineFails a).kept = s.kept := by
  cases a <;> rfl
@[simp] theorem State.failChannel_kept (s : State) (c : Nat) : (State.failChannel s c).kept = s.kept := by
  unfold State.failChannel; simp
@[simp] theorem State.notePin_kept (s : State) (c line pin : Nat) : (State.notePin s c line pin).kept = s.kept := by
  unfold State.notePin; (try dsimp only); (repeat' split) <;> simp
@[simp] theorem State.decodeUnit_kept (s : State) (c unit : Nat) : (State.decodeUnit s c unit).kept = s.kept := by
  unfold State.decodeUnit; (try dsimp only); (repeat' split) <;> simp
theorem State.closeEntries_does (s : State) (e word : Nat) :
    (s.closeEntries e word).kept.1 = s.kept.1 ∧ (BothOk s.kept.2 → BothOk (s.closeEntries e word).kept.2) := by
  unfold State.closeEntries; dsimp only
  split
  · exact ⟨rfl, id⟩
  · refine ⟨?_, fun h => ?_⟩
    · simp [kept_foldl_pair]
    · simp (maxDischargeDepth := 9) [kept_foldl_pair, h]
@[simp] theorem State.closeEntries_fixed (s : State) (e word : Nat) : (s.closeEntries e word).kept.1 = s.kept.1 := (State.closeEntries_does s e word).1
@[simp] theorem State.closeEntries_mems (s : State) (e word : Nat) (h : BothOk s.kept.2) : BothOk (s.closeEntries e word).kept.2 := (State.closeEntries_does s e word).2 h
@[simp] theorem State.join_kept (s : State) (c owner : Nat) (r : ChanReq) : (State.join s c owner r).kept = s.kept := by
  rfl
@[simp] theorem State.openTxn_kept (s : State) (e : Nat) (t : Transit) (units : Nat) (straight : Bool := false) :
    (State.openTxn s e t units straight).1.kept = s.kept := by
  rfl
theorem State.acceptWrite_does (s : State) (e : Nat) (t : Transit) (bytes : List Byte) :
    (s.acceptWrite e t bytes).kept.1 = s.kept.1 ∧ (BothOk s.kept.2 → BothOk (s.acceptWrite e t bytes).kept.2) := by
  unfold State.acceptWrite; dsimp only
  split
  · exact ⟨by simp, fun h => by simp [h]⟩
  · refine ⟨by simp, fun h => ?_⟩
    have h1 := mems_foldl (fun s w => s.closeEntries e w)
      ((List.range ((hashedOff t.pkt + bytes.length + 7) / 8 - hashedOff t.pkt / 8)).map (· + hashedOff t.pkt / 8)) s (fun s x h => by simp [h]) h
    have h2 := fun l => mems_foldl (fun s u => s.mergeUnit (hashChannel (hashedOff t.pkt)) u) l _ (fun s x h => by simp [h]) h1
    simp [wf_lpddr _ (h2 _), wf_csram _ (h2 _)]
@[simp] theorem State.acceptWrite_fixed (s : State) (e : Nat) (t : Transit) (bytes : List Byte) : (s.acceptWrite e t bytes).kept.1 = s.kept.1 := (State.acceptWrite_does s e t bytes).1
@[simp] theorem State.acceptWrite_mems (s : State) (e : Nat) (t : Transit) (bytes : List Byte) (h : BothOk s.kept.2) : BothOk (s.acceptWrite e t bytes).kept.2 := (State.acceptWrite_does s e t bytes).2 h
@[simp] theorem State.acceptRead_kept (s : State) (e : Nat) (t : Transit) (n : Nat) : (State.acceptRead s e t n).kept = s.kept := by
  rfl
theorem State.acceptAlone_does (s : State) (e : Nat) (t : Transit) :
    (State.acceptAlone s e t).kept.1 = s.kept.1 ∧ (BothOk s.kept.2 → BothOk (State.acceptAlone s e t).kept.2) := by
  refine ⟨?_, fun h => ?_⟩ <;> unfold State.acceptAlone <;> (try dsimp only) <;> (repeat' split) <;> first | rfl | exact h | (simp (maxDischargeDepth := 9) [*]; done)
@[simp] theorem State.acceptAlone_kept_fixed (s : State) (e : Nat) (t : Transit) :
    (State.acceptAlone s e t).kept.1 = s.kept.1 := (State.acceptAlone_does s e t).1
@[simp] theorem State.acceptAlone_kept_mems (s : State) (e : Nat) (t : Transit) (h : BothOk s.kept.2) : BothOk (State.acceptAlone s e t).kept.2 := (State.acceptAlone_does s e t).2 h
@[simp] theorem State.noteCombine_kept (s : State) (e : Nat) : (State.noteCombine s e).kept = s.kept := by
  unfold State.noteCombine; simp
theorem State.acceptAtomic_does (s : State) (e : Nat) (t : Transit) :
    (State.acceptAtomic s e t).kept.1 = s.kept.1 ∧ (BothOk s.kept.2 → BothOk (State.acceptAtomic s e t).kept.2) := by
  refine ⟨?_, fun h => ?_⟩ <;> unfold State.acceptAtomic <;> (try dsimp only) <;> (repeat' split) <;> first | rfl | exact h | (simp (maxDischargeDepth := 9) [*]; done)
@[simp] theorem State.acceptAtomic_kept_fixed (s : State) (e : Nat) (t : Transit) :
    (State.acceptAtomic s e t).kept.1 = s.kept.1 := (State.acceptAtomic_does s e t).1
@[simp] theorem State.acceptAtomic_kept_mems (s : State) (e : Nat) (t : Transit) (h : BothOk s.kept.2) : BothOk (State.acceptAtomic s e t).kept.2 := (State.acceptAtomic_does s e t).2 h
@[simp] theorem State.startEntry_kept (s : State) (e : Nat) (x : Combine) : (State.startEntry s e x).kept = s.kept := by
  unfold State.startEntry; simp
@[simp] theorem State.touchRows_kept (s : State) (c : Nat) (bs : List Nat) : (State.touchRows s c bs).kept = s.kept := by
  unfold State.touchRows; simp
theorem State.writeEntry_does (s : State) (e c word : Nat) :
    (State.writeEntry s e c word).kept.1 = s.kept.1 ∧ (BothOk s.kept.2 → BothOk (State.writeEntry s e c word).kept.2) := by
  refine ⟨?_, fun h => ?_⟩ <;> unfold State.writeEntry <;> (try dsimp only) <;> (repeat' split) <;> first | rfl | exact h | (simp (maxDischargeDepth := 9) [*]; done)
@[simp] theorem State.writeEntry_kept_fixed (s : State) (e c word : Nat) :
    (State.writeEntry s e c word).kept.1 = s.kept.1 := (State.writeEntry_does s e c word).1
@[simp] theorem State.writeEntry_kept_mems (s : State) (e c word : Nat) (h : BothOk s.kept.2) : BothOk (State.writeEntry s e c word).kept.2 := (State.writeEntry_does s e c word).2 h
theorem State.performSlot_does (s : State) (c : Nat) (r : ChanReq) :
    (State.performSlot s c r).kept.1 = s.kept.1 ∧ (BothOk s.kept.2 → BothOk (State.performSlot s c r).kept.2) := by
  refine ⟨?_, fun h => ?_⟩ <;> unfold State.performSlot <;> (try dsimp only) <;> (repeat' split) <;> first | rfl | exact h | (simp (maxDischargeDepth := 9) [*]; done)
@[simp] theorem State.performSlot_kept_fixed (s : State) (c : Nat) (r : ChanReq) :
    (State.performSlot s c r).kept.1 = s.kept.1 := (State.performSlot_does s c r).1
@[simp] theorem State.performSlot_kept_mems (s : State) (c : Nat) (r : ChanReq) (h : BothOk s.kept.2) : BothOk (State.performSlot s c r).kept.2 := (State.performSlot_does s c r).2 h
@[simp] theorem State.endLinePass_kept (s : State) (c : Nat) : (State.endLinePass s c).kept = s.kept := by
  unfold State.endLinePass; simp
@[simp] theorem State.background_kept (s : State) (c : Nat) : (State.background s c).kept = s.kept := by
  unfold State.background; (try dsimp only); (repeat' split) <;> simp
@[simp] theorem State.countHead_kept (s : State) (owner : Nat) : (State.countHead s owner).kept = s.kept := by
  unfold State.countHead; (try dsimp only); (repeat' split) <;> simp
@[simp] theorem State.saveBytes_kept (s : State) (at' : Nat) (bs : List Byte) : (State.saveBytes s at' bs).kept = s.kept := by
  rfl
theorem State.performEngine_does (s : State) (c : Nat) (w : EngineReq) :
    (s.performEngine c w).kept.1 = s.kept.1 ∧ (BothOk s.kept.2 → BothOk (s.performEngine c w).kept.2) := by
  unfold State.performEngine; extract_lets e s1
  have h1 : s1.kept = s.kept := State.modChan_kept ..
  split
  · extract_lets us bad s2
    have h2 : s2.kept = s.kept := by simp only [s2]; rw [State.touchRows_kept, kept_foldl _ _ _ (fun s x => by simp), State.chCount_kept, h1]
    split <;> simp [h2] <;> exact id
  · extract_lets words s2 s3
    have h2 : s2.kept.1 = s.kept.1 ∧ (BothOk s.kept.2 → BothOk s2.kept.2) := by
      rw [← h1]; exact does_foldl _ _ _ fun s k => ⟨by simp, fun h => by simp [h]⟩
    refine ⟨by simp [s3, h2.1], fun h => ?_⟩
    have h3 := h2.2 h
    simp only [State.countHead_kept, State.touchRows_kept, s3, State.chCount_kept, State.healUnits_kept, kept_mem]
    exact ⟨Mem.wf_write _ _ _ h3.1, h3.2⟩
@[simp] theorem State.performEngine_fixed (s : State) (c : Nat) (w : EngineReq) : (s.performEngine c w).kept.1 = s.kept.1 := (State.performEngine_does s c w).1
@[simp] theorem State.performEngine_mems (s : State) (c : Nat) (w : EngineReq) (h : BothOk s.kept.2) : BothOk (s.performEngine c w).kept.2 := (State.performEngine_does s c w).2 h
@[simp] theorem State.markWrite_kept (s : State) (c : Nat) (valid : Bool) (pin : Nat) : (State.markWrite s c valid pin).kept = s.kept := by
  unfold State.markWrite; simp
@[simp] theorem State.decideMoves_kept (s : State) (lost : Nat → Bool) : (State.decideMoves s lost).kept = s.kept := by
  unfold State.decideMoves; simp
@[simp] theorem State.disableCores_kept (s : State) (ks : List CoreId) : (State.disableCores s ks).kept = s.kept := by
  unfold State.disableCores; simp
@[simp] theorem State.disableTower_kept (s : State) (t : Nat) : (State.disableTower s t).kept = s.kept := by
  unfold State.disableTower; simp
@[simp] theorem State.noteVaultSymbol_kept (s : State) (t lane sym : Nat) : (State.noteVaultSymbol s t lane sym).kept = s.kept := by
  unfold State.noteVaultSymbol; simp
@[simp] theorem State.noteCrossing_kept (s : State) (t : Nat) (x : Option Crossing) (bits : List Nat) :
    (State.noteCrossing s t x bits).kept = s.kept := by
  unfold State.noteCrossing; (try dsimp only); (repeat' split) <;> simp
@[simp] theorem State.vaultLane_kept (s : State) (t lane : Nat) (x : Option Crossing) (cyc : Nat) :
    (State.vaultLane s t lane x cyc).1.kept = s.kept := by
  unfold State.vaultLane; (try dsimp only); (repeat' split) <;> simp
@[simp] theorem State.putVault_kept (s : State) (t a : Nat) (bs : List Byte) (cyc : Nat) : (State.putVault s t a bs cyc).kept = s.kept := by
  rfl
@[simp] theorem State.upLane_kept (s : State) (t lane : Nat) (bs : List Byte) (x : Option Crossing) :
    (State.upLane s t lane bs x).1.kept = s.kept := by
  unfold State.upLane; (try dsimp only); (repeat' split) <;> simp
@[simp] theorem State.writeVault_kept (s : State) (t a : Nat) (bs : List Byte) (x : Option Crossing) (cyc : Nat) :
    (State.writeVault s t a bs x cyc).1.kept = s.kept := by
  unfold State.writeVault; (try dsimp only); (repeat' split) <;> (repeat (rename _ = ((_ : State), _) => hq; have hh := congrArg (fun p => State.kept (Prod.fst p)) hq; simp at hh; clear hq)) <;> first | (simp [*]; done)
@[simp] theorem State.miss_kept (s : State) (t line txn pos off n : Nat) : (State.miss s t line txn pos off n).kept = s.kept := by
  unfold State.miss; (try dsimp only); (repeat' split) <;> simp
@[simp] theorem State.cachedAt_kept (s : State) (t core txn pos off n : Nat) (k : Option Nat) : (s.cachedAt t core txn pos off n k).kept = s.kept := by
  unfold State.cachedAt; split <;> simp
@[simp] theorem State.cachedUnit_kept (s : State) (t core txn pos off n : Nat) : (State.cachedUnit s t core txn pos off n).kept = s.kept := by
  unfold State.cachedUnit; simp
@[simp] theorem State.nextFills_kept (s : State) (t : Nat) : (s.nextFills t).kept = s.kept := by
  unfold State.nextFills; rw [kept_foldl]; intro s x; (repeat' split) <;> simp
@[simp] theorem State.deliver_kept (s : State) (t core txn pos : Nat) (bs : List Byte) : (State.deliver s t core txn pos bs).kept = s.kept := by
  unfold State.deliver; (try dsimp only); (repeat' split) <;> simp
@[simp] theorem State.answerFill_kept (s : State) (t : Nat) (f : Fill) : (State.answerFill s t f).kept = s.kept := by
  unfold State.answerFill; simp
@[simp] theorem State.endFill_kept (s : State) (t : Nat) (f : Fill) (k : Nat) : (State.endFill s t f k).kept = s.kept := by
  unfold State.endFill; simp
@[simp] theorem State.fillUnit_kept (s : State) (t line : Nat) : (State.fillUnit s t line).kept = s.kept := by
  unfold State.fillUnit; (try dsimp only); (repeat' split) <;> simp
@[simp] theorem State.returnUnit_kept (s : State) (t core : Nat) (x : Option Crossing) (r : VaultReq) (bs : List Byte) (old : Option Word) :
    (State.returnUnit s t core x r bs old).kept = s.kept := by
  unfold State.returnUnit; (try dsimp only); (repeat' split) <;> simp
theorem State.readUnit_kept (s : State) (t core a n : Nat) (x : Option Crossing) (cyc : Nat) (r : VaultReq) (lost : State → State)
    (hl : ∀ s, (lost s).kept = s.kept) : (s.readUnit t core a n x cyc r lost).kept = s.kept := by
  have h := State.vaultLane_kept s t (a / 32) x cyc
  unfold State.readUnit
  split <;> rename_i heq <;> rw [heq] at h
  · simpa using h
  · rw [hl]; exact h
@[simp] theorem State.vaultAccess_kept (s : State) (t : Nat) (x : Option Crossing) (cyc core : Nat) (r : VaultReq) :
    (s.vaultAccess t x cyc core r).kept = s.kept := by
  unfold State.vaultAccess; (try dsimp only); (repeat' split) <;> (repeat (rename _ = ((_ : State), _) => hq; have hh := congrArg (fun p => State.kept (Prod.fst p)) hq; simp at hh; clear hq)) <;> first
    | exact State.readUnit_kept _ _ _ _ _ _ _ _ _ (fun s => by simp)
    | (simp [*]; done)
@[simp] theorem State.dropCoreReq_kept (s : State) (t core : Nat) (r : VaultReq) : (State.dropCoreReq s t core r).kept = s.kept := by
  rfl
@[simp] theorem State.coreTurn_kept (s : State) (t b n core : Nat) (x : Crossing) : (State.coreTurn s t b n core x).kept = s.kept := by
  unfold State.coreTurn; (try dsimp only); (repeat' split) <;> simp
@[simp] theorem State.endLanePass_kept (s : State) (t : Nat) : (State.endLanePass s t).kept = s.kept := by
  unfold State.endLanePass; simp
@[simp] theorem State.vaultScrub_kept (s : State) (t b n : Nat) : (State.vaultScrub s t b n).kept = s.kept := by
  unfold State.vaultScrub; (try dsimp only); (repeat' split) <;> (repeat (rename _ = ((_ : State), _) => hq; have hh := congrArg (fun p => State.kept (Prod.fst p)) hq; simp at hh; clear hq)) <;> first | (simp [*]; done)
@[simp] theorem State.dumpTurn_kept (s : State) (t b n : Nat) : (State.dumpTurn s t b n).kept = s.kept := by
  unfold State.dumpTurn; (try dsimp only); (repeat' split) <;> simp
@[simp] theorem State.saveTurn_kept (s : State) (t b n : Nat) : (State.saveTurn s t b n).kept = s.kept := by
  unfold State.saveTurn; (try dsimp only); (repeat' split) <;> (repeat (rename _ = ((_ : State), _) => hq; have hh := congrArg (fun p => State.kept (Prod.fst p)) hq; simp at hh; clear hq)) <;> first | (simp [*]; done)
@[simp] theorem State.backgroundTurn_kept (s : State) (t b n : Nat) : (State.backgroundTurn s t b n).kept = s.kept := by
  unfold State.backgroundTurn; (try dsimp only); (repeat' split) <;> simp
@[simp] theorem State.emptyCache_kept (s : State) (t : Nat) : (State.emptyCache s t).kept = s.kept := by
  rfl
@[simp] theorem State.failFill_kept (s : State) (t : Nat) (x : Fill) (bound : Bool) (cause : Nat) :
    (State.failFill s t x bound cause).kept = s.kept := by
  unfold State.failFill; (try dsimp only); (repeat' split) <;> (repeat (rename _ = ((_ : State), _) => hq; have hh := congrArg (fun p => State.kept (Prod.fst p)) hq; simp at hh; clear hq)) <;> first | (simp [*]; done) | (simp; (repeat rw [kept_foldl]) <;> first | (simp; done) | (intro s x; (try dsimp only); (repeat' split) <;> (repeat (rename _ = ((_ : State), _) => hq; have hh := congrArg (fun p => State.kept (Prod.fst p)) hq; simp at hh; clear hq)) <;> simp [*]; done))
@[simp] theorem State.spareIgnored_kept (s : State) : (State.spareIgnored s).kept = s.kept := by
  rfl
@[simp] theorem State.lightsOut_kept (s : State) (n : Nat) : (State.lightsOut s n).kept = s.kept := by
  unfold State.lightsOut; simp
@[simp] theorem State.cbCommand_kept (s : State) (n action target : Nat) : (State.cbCommand s n action target).kept = s.kept := by
  unfold State.cbCommand; simp
@[simp] theorem State.failCartridge_kept (s : State) (n : Nat) : (State.failCartridge s n).kept = s.kept := by
  unfold State.failCartridge; simp
@[simp] theorem State.startSwitch_kept (s : State) (bay target : Nat) (into : Bool) : (State.startSwitch s bay target into).kept = s.kept := by
  unfold State.startSwitch; simp
@[simp] theorem State.spareSwitch_kept (s : State) (target : Nat) : (State.spareSwitch s target).kept = s.kept := by
  unfold State.spareSwitch; simp
@[simp] theorem State.lockPair_kept (s : State) (i : Nat) : (State.lockPair s i).kept = s.kept := by
  unfold State.lockPair; simp
@[simp] theorem State.fade_kept (s : State) (n : Nat) : (State.fade s n).kept = s.kept := by
  unfold State.fade; simp
@[simp] theorem State.setCodes_kept (s : State) : (State.setCodes s).kept = s.kept := by
  rfl
@[simp] theorem State.failRing_kept (s : State) (l : LaneId) (tx : Bool) : (State.failRing s l tx).kept = s.kept := by
  unfold State.failRing; (try dsimp only); (repeat' split) <;> simp
@[simp] theorem State.scheduleDrift_kept (s : State) (i : Nat) : (State.scheduleDrift s i).kept = s.kept := by
  unfold State.scheduleDrift; simp
@[simp] theorem State.commissionLane_kept (s : State) (x : LaneId × Nat × Nat) : (State.commissionLane s x).kept = s.kept := by
  unfold State.commissionLane; simp
@[simp] theorem State.procEpoch_kept (s : State) (bay action names step : Nat) : (State.procEpoch s bay action names step).kept = s.kept := by
  unfold State.procEpoch; simp
@[simp] theorem State.procStepNext_kept (s : State) (bay : Nat) : (State.procStepNext s bay).kept = s.kept := by
  unfold State.procStepNext; (try dsimp only); (repeat' split) <;> simp
@[simp] theorem State.fixRing_kept (s : State) (f : RingFix) : (State.fixRing s f).kept = s.kept := by
  unfold State.fixRing; simp

end Sys2Proof.Machine
end

