-- ==== Sys2Proof/Laws/KeptUnits.lean ====
section
/-!
SUPPORT. What the shared operations of power, jobs, resets, the start, pairing and recovery keep: the queue and the device's constants always; the LPDDR5X and the
control SRAM as they were, or in canonical form where the operation writes them.
-/
namespace Sys2Proof.Machine
open Sys2Proof

@[simp] theorem State.modThermal_kept (s : State) (f : Thermal → Thermal) : (State.modThermal s f).kept = s.kept := by
  rfl
@[simp] theorem State.modLadder_kept (s : State) (f : Ladder → Ladder) : (State.modLadder s f).kept = s.kept := by
  rfl
@[simp] theorem State.modTime_kept (s : State) (f : TimeSync → TimeSync) : (State.modTime s f).kept = s.kept := by
  rfl
@[simp] theorem State.modMod_kept (s : State) (f : Module → Module) : (State.modMod s f).kept = s.kept := by
  rfl
@[simp] theorem State.modJob_kept (s : State) (f : Job → Job) : (State.modJob s f).kept = s.kept := by
  rfl
@[simp] theorem State.modStart_kept (s : State) (f : Start → Start) : (State.modStart s f).kept = s.kept := by
  rfl
@[simp] theorem State.modPorts_kept (s : State) (f : Ports → Ports) : (State.modPorts s f).kept = s.kept := by
  rfl
@[simp] theorem State.modPair_kept (s : State) (f : Pair → Pair) : (State.modPair s f).kept = s.kept := by
  rfl
@[simp] theorem State.resetRegs_kept (s : State) (p : Nat → Bool) : (State.resetRegs s p).kept = s.kept := by
  rfl
@[simp] theorem State.clearContexts_kept (s : State) (p : Nat → Bool) : (State.clearContexts s p).kept = s.kept := by
  rfl
@[simp] theorem State.advanceInc_kept (s : State) (e : Nat) : (State.advanceInc s e).kept = s.kept := by
  rfl
@[simp] theorem State.clearCore_kept (s : State) (k : CoreId) : (State.clearCore s k).kept = s.kept := by
  unfold State.clearCore; simp
@[simp] theorem State.clearDie_kept (s : State) (t : Fin 8) : (State.clearDie s t).kept = s.kept := by
  unfold State.clearDie; simp
@[simp] theorem State.loseDie_kept (s : State) (t : Fin 8) : (State.loseDie s t).kept = s.kept := by
  rfl
@[simp] theorem State.clearVault_kept (s : State) (t : Nat) : (State.clearVault s t).kept = s.kept := by
  rfl
@[simp] theorem State.losePower_kept (s : State) : (State.losePower s).kept = s.kept := by
  unfold State.losePower; simp
@[simp] theorem State.modFeed_kept (s : State) (b : Bool) (f : Feed → Feed) : (State.modFeed s b f).kept = s.kept := by
  rfl
@[simp] theorem State.endStart_kept (s : State) : s.endStart.kept = s.kept := by
  rfl
@[simp] theorem State.beginS2_kept (s : State) (rising : Bool) : (s.beginS2 rising).kept = s.kept := by
  unfold State.beginS2; split <;> rfl
@[simp] theorem State.feedsLost_kept (s : State) : (State.feedsLost s).kept = s.kept := by
  unfold State.feedsLost; simp
@[simp] theorem State.announce_kept (s : State) (m : Nat) : (State.announce s m).kept = s.kept := by
  rfl
@[simp] theorem State.govern_kept (s : State) (hold : Nat) : (State.govern s hold).kept = s.kept := by
  unfold State.govern; simp
@[simp] theorem State.failFeed_kept (s : State) (b : Bool) (cause : Nat) : (State.failFeed s b cause).kept = s.kept := by
  unfold State.failFeed; simp
@[simp] theorem State.noteFeed_kept (s : State) (b : Bool) (mv amps : Nat) (volt share : Bool) :
    (State.noteFeed s b mv amps volt share).kept = s.kept := by
  rfl
@[simp] theorem State.statusRead_kept (s : State) (b : Bool) (r : StatusRead) : (State.statusRead s b r).kept = s.kept := by
  unfold State.statusRead; simp
@[simp] theorem State.unlatch_kept (s : State) (b : Bool) : (State.unlatch s b).kept = s.kept := by
  unfold State.unlatch; simp
@[simp] theorem State.modVaux_kept (s : State) (b : Bool) (f : Vaux → Vaux) : (State.modVaux s b f).kept = s.kept := by
  rfl
@[simp] theorem State.rowSleep_kept (s : State) (t : Fin 8) (row : Nat) : (State.rowSleep s t row).kept = s.kept := by
  unfold State.rowSleep; simp
@[simp] theorem State.rowWake_kept (s : State) (t : Fin 8) (row : Nat) : (State.rowWake s t row).kept = s.kept := by
  unfold State.rowWake; simp
@[simp] theorem State.towerDeep_kept (s : State) (t : Fin 8) : (State.towerDeep s t).kept = s.kept := by
  unfold State.towerDeep; simp
@[simp] theorem State.deepWake_kept (s : State) (t : Fin 8) : (State.deepWake s t).kept = s.kept := by
  unfold State.deepWake; simp
@[simp] theorem State.wakeDone_kept (s : State) (t : Fin 8) (i bit d : Nat) : (State.wakeDone s t i bit d).kept = s.kept := by
  unfold State.wakeDone; (try dsimp only); (repeat' split) <;> simp
@[simp] theorem State.noteBlind_kept (s : State) : (State.noteBlind s).kept = s.kept := by
  rfl
@[simp] theorem State.stepTime_kept (s : State) (d : Int) : (State.stepTime s d).kept = s.kept := by
  rfl
@[simp] theorem State.timeSet_kept (s : State) (v : Word) : (State.timeSet s v).kept = s.kept := by
  unfold State.timeSet; simp
@[simp] theorem State.ledger_kept (s : State) (t : Nat) (temp : Int) : (State.ledger s t temp).kept = s.kept := by
  rfl
@[simp] theorem State.modOts_kept (s : State) (c1 : Bool) (f : Ots → Ots) : (State.modOts s c1 f).kept = s.kept := by
  rfl
@[simp] theorem State.otsReserve_kept (s : State) (c1 : Bool) : (State.otsReserve s c1).kept = s.kept := by
  unfold State.otsReserve; simp
@[simp] theorem State.otsReplace_kept (s : State) (c1 : Bool) : (State.otsReplace s c1).kept = s.kept := by
  unfold State.otsReplace; simp
@[simp] theorem State.otsRetry_kept (s : State) : (State.otsRetry s).kept = s.kept := by
  unfold State.otsRetry; simp
@[simp] theorem State.otsSign_kept (s : State) (c1 : Bool) (message : List Byte) : (State.otsSign s c1 message).1.kept = s.kept := by
  unfold State.otsSign; (try dsimp only); (repeat' split) <;> simp
@[simp] theorem State.otsStart_kept (s : State) (c1 : Bool) : (State.otsStart s c1).kept = s.kept := by
  unfold State.otsStart; simp
@[simp] theorem State.shutdown_kept (s : State) (cause : Nat) : (State.shutdown s cause).kept = s.kept := by
  unfold State.shutdown; simp
@[simp] theorem State.windows_kept (s : State) : (State.windows s).kept = s.kept := by
  unfold State.windows; simp
@[simp] theorem State.setInlet_kept (s : State) (v : Nat) : (State.setInlet s v).kept = s.kept := by
  rfl
@[simp] theorem State.noteSpills_kept (s : State) (c : Ctx) (p : Option (Nat × Nat)) : (s.noteSpills c p).kept = s.kept := by
  unfold State.noteSpills; split <;> simp
@[simp] theorem State.enterRemote_kept (s : State) (c : Ctx) (op : RemoteOp) : (State.enterRemote s c op).kept = s.kept := by
  unfold State.enterRemote; simp
@[simp] theorem State.startRemote_kept (s : State) (c : Ctx) (op : RemoteOp) : (State.startRemote s c op).kept = s.kept := by
  unfold State.startRemote; simp
@[simp] theorem State.raiseDue_kept (s : State) (c : Ctx) : (State.raiseDue s c).kept = s.kept := by
  unfold State.raiseDue; (try dsimp only); (repeat' split) <;> simp
@[simp] theorem State.stopThreads_kept (s : State) (k : CoreId) (threads : BitVec 8) : (State.stopThreads s k threads).kept = s.kept := by
  unfold State.stopThreads; (try dsimp only); (repeat' split) <;> (repeat (rename _ = ((_ : State), _) => hq; have hh := congrArg (fun p => State.kept (Prod.fst p)) hq; simp at hh; clear hq)) <;> first | (simp [*]; done) | (simp; (repeat rw [kept_foldl]) <;> first | (simp; done) | (intro s x; (try dsimp only); (repeat' split) <;> (repeat (rename _ = ((_ : State), _) => hq; have hh := congrArg (fun p => State.kept (Prod.fst p)) hq; simp at hh; clear hq)) <;> simp [*]; done))
@[simp] theorem State.setJobState_kept (s : State) (v : Nat) : (State.setJobState s v).kept = s.kept := by
  unfold State.setJobState; simp
@[simp] theorem State.jobIgnored_kept (s : State) : (State.jobIgnored s).kept = s.kept := by
  rfl
@[simp] theorem State.refuseJob_kept (s : State) (reason : Nat) (f : Finding) : (State.refuseJob s reason f).kept = s.kept := by
  unfold State.refuseJob; simp
@[simp] theorem State.jobEnable_kept (s : State) (p : Port) : (State.jobEnable s p).kept = s.kept := by
  unfold State.jobEnable; simp
@[simp] theorem State.vaultWord_kept (s : State) (t a v : Nat) : (State.vaultWord s t a v).kept = s.kept := by
  unfold State.vaultWord; simp
@[simp] theorem State.wakeFor_kept (s : State) (p : List Byte) : (State.wakeFor s p).kept = s.kept := by
  unfold State.wakeFor; simp
@[simp] theorem State.settleCore_kept (s : State) (k : CoreId) : (State.settleCore s k).kept = s.kept := by
  unfold State.settleCore; simp
@[simp] theorem State.loadCore_kept (s : State) (p : List Byte) (i : Nat) : (State.loadCore s p i).kept = s.kept := by
  unfold State.loadCore; simp
@[simp] theorem State.loadVault_kept (s : State) (p : List Byte) (t : Nat) : (State.loadVault s p t).kept = s.kept := by
  unfold State.loadVault; simp
theorem State.clearJobWords_does (s : State) :
    (State.clearJobWords s).kept.1 = s.kept.1 ∧ (BothOk s.kept.2 → BothOk (State.clearJobWords s).kept.2) := by
  refine ⟨?_, fun h => ?_⟩ <;> unfold State.clearJobWords <;> simp (maxDischargeDepth := 9) [*]
@[simp] theorem State.clearJobWords_kept_fixed (s : State) : (State.clearJobWords s).kept.1 = s.kept.1 := (State.clearJobWords_does s).1
@[simp] theorem State.clearJobWords_kept_mems (s : State) (h : BothOk s.kept.2) : BothOk (State.clearJobWords s).kept.2 := (State.clearJobWords_does s).2 h
@[simp] theorem State.renumber_kept (s : State) : (State.renumber s).kept = s.kept := by
  rfl
theorem State.loadJob_does (s : State) (p : List Byte) :
    (s.loadJob p).kept.1 = s.kept.1 ∧ (BothOk s.kept.2 → BothOk (s.loadJob p).kept.2) := by
  unfold State.loadJob
  refine ⟨?_, fun h => ?_⟩
  · simp only [State.modMod_kept, State.setField_kept, State.clearJobWords_kept_fixed, State.setReg_kept, State.renumber_kept,
      State.loadVault_kept, State.loadCore_kept, kept_foldl, implies_true]
  · simp only [State.modMod_kept, State.setField_kept]
    refine State.clearJobWords_kept_mems _ ?_
    simpa only [State.setField_kept, State.setReg_kept, State.renumber_kept, State.loadVault_kept, State.loadCore_kept, kept_foldl,
      implies_true] using h
@[simp] theorem State.loadJob_fixed (s : State) (p : List Byte) : (s.loadJob p).kept.1 = s.kept.1 := (State.loadJob_does s p).1
@[simp] theorem State.loadJob_mems (s : State) (p : List Byte) (h : BothOk s.kept.2) : BothOk (s.loadJob p).kept.2 := (State.loadJob_does s p).2 h
@[simp] theorem State.startThreads_kept (s : State) (p : List Byte) : (State.startThreads s p).kept = s.kept := by
  unfold State.startThreads; simp
@[simp] theorem State.stopAll_kept (s : State) : (State.stopAll s).kept = s.kept := by
  unfold State.stopAll; simp
@[simp] theorem State.endJob_kept (s : State) : (State.endJob s).kept = s.kept := by
  unfold State.endJob; simp
@[simp] theorem State.jobEnd_kept (s : State) (p : Port) : (State.jobEnd s p).kept = s.kept := by
  unfold State.jobEnd; simp
@[simp] theorem State.idleJob_kept (s : State) : (State.idleJob s).kept = s.kept := by
  unfold State.idleJob; simp
@[simp] theorem State.expertCmd_kept (s : State) (p : Port) (action index : Nat) : (State.expertCmd s p action index).kept = s.kept := by
  unfold State.expertCmd; simp
@[simp] theorem State.askReset_kept (s : State) (d u : Nat) : (State.askReset s d u).1.kept = s.kept := by
  unfold State.askReset; (try dsimp only); (repeat' split) <;> simp
@[simp] theorem State.resetWrite_kept (s : State) (d u : Nat) : (State.resetWrite s d u).kept = s.kept := by
  unfold State.resetWrite; (try dsimp only); (repeat' split) <;> (repeat (rename _ = ((_ : State), _) => hq; have hh := congrArg (fun p => State.kept (Prod.fst p)) hq; simp at hh; clear hq)) <;> first | (simp [*]; done)
@[simp] theorem State.vaultBytes_kept (s : State) (t a : Nat) (bs : List Byte) : (State.vaultBytes s t a bs).kept = s.kept := by
  unfold State.vaultBytes; simp
@[simp] theorem State.queueDump_kept (s : State) (t a : Nat) (bs : List Byte) : (State.queueDump s t a bs).kept = s.kept := by
  rfl
@[simp] theorem State.sampleKeeper_kept (s : State) (t base i : Nat) : (State.sampleKeeper s t base i).kept = s.kept := by
  rfl
theorem State.overflowCode_does (s : State) (entry : List Byte) :
    (State.overflowCode s entry).kept.1 = s.kept.1 ∧ (BothOk s.kept.2 → BothOk (State.overflowCode s entry).kept.2) := by
  refine ⟨?_, fun h => ?_⟩ <;> unfold State.overflowCode <;> simp (maxDischargeDepth := 9) [*]
@[simp] theorem State.overflowCode_kept_fixed (s : State) (entry : List Byte) :
    (State.overflowCode s entry).kept.1 = s.kept.1 := (State.overflowCode_does s entry).1
@[simp] theorem State.overflowCode_kept_mems (s : State) (entry : List Byte) (h : BothOk s.kept.2) : BothOk (State.overflowCode s entry).kept.2 := (State.overflowCode_does s entry).2 h
@[simp] theorem State.dumpTower_kept (s : State) (r : ResetReq) (t : Nat) : (State.dumpTower s r t).kept = s.kept := by
  unfold State.dumpTower; simp
theorem State.dumpReset_does (s : State) (r : ResetReq) (answers : BitVec 8) :
    (s.dumpReset r answers).kept.1 = s.kept.1 ∧ (BothOk s.kept.2 → BothOk (s.dumpReset r answers).kept.2) := by
  unfold State.dumpReset; dsimp only
  split
  · exact ⟨by simp, fun h => by simp [h]⟩
  · refine does_foldl _ _ _ fun s t => ?_
    split
    · exact ⟨by simp, fun h => by simp [h]⟩
    · exact ⟨by simp, fun h => by simp [h]⟩
@[simp] theorem State.dumpReset_fixed (s : State) (r : ResetReq) (answers : BitVec 8) : (s.dumpReset r answers).kept.1 = s.kept.1 := (State.dumpReset_does s r answers).1
@[simp] theorem State.dumpReset_mems (s : State) (r : ResetReq) (answers : BitVec 8) (h : BothOk s.kept.2) : BothOk (s.dumpReset r answers).kept.2 := (State.dumpReset_does s r answers).2 h
@[simp] theorem State.takeReq_kept (s : State) (d u : Nat) : (State.takeReq s d u).kept = s.kept := by
  rfl
@[simp] theorem State.resetCores_kept (s : State) (ks : List CoreId) : (State.resetCores s ks).kept = s.kept := by
  unfold State.resetCores; simp
@[simp] theorem State.resetEnd_kept (s : State) (e : Nat) : (State.resetEnd s e).kept = s.kept := by
  unfold State.resetEnd; simp
@[simp] theorem State.resumeBabbitt_kept (s : State) : (State.resumeBabbitt s).kept = s.kept := by
  unfold State.resumeBabbitt; simp
@[simp] theorem State.passPrimary_kept (s : State) (c1 : Bool) : (State.passPrimary s c1).kept = s.kept := by
  unfold State.passPrimary; simp
@[simp] theorem State.resetChannels_kept (s : State) (e : Nat) : (State.resetChannels s e).kept = s.kept := by
  unfold State.resetChannels; simp
theorem State.resetChiplet_does (s : State) (e : Nat) :
    (State.resetChiplet s e).kept.1 = s.kept.1 ∧ (BothOk s.kept.2 → BothOk (State.resetChiplet s e).kept.2) := by
  refine ⟨?_, fun h => ?_⟩ <;> unfold State.resetChiplet <;> (try dsimp only) <;> (repeat' split) <;> first | rfl | exact h | (simp (maxDischargeDepth := 9) [*]; done)
@[simp] theorem State.resetChiplet_kept_fixed (s : State) (e : Nat) : (State.resetChiplet s e).kept.1 = s.kept.1 := (State.resetChiplet_does s e).1
@[simp] theorem State.resetChiplet_kept_mems (s : State) (e : Nat) (h : BothOk s.kept.2) : BothOk (State.resetChiplet s e).kept.2 := (State.resetChiplet_does s e).2 h
@[simp] theorem State.countReset_kept (s : State) (d u : Nat) : (State.countReset s d u).kept = s.kept := by
  unfold State.countReset; (try dsimp only); (repeat' split) <;> simp
theorem State.moduleReset_does (s : State) (keep : Bool) :
    (s.moduleReset keep).kept.1 = s.kept.1 ∧ (BothOk s.kept.2 → BothOk (s.moduleReset keep).kept.2) := by
  refine ⟨rfl, fun h => ⟨?_, rfl⟩⟩
  show Mem.wf (if _ then s.lpddr else []) = true
  split
  · exact h.1
  · rfl
@[simp] theorem State.moduleReset_fixed (s : State) (keep : Bool) : (s.moduleReset keep).kept.1 = s.kept.1 := (State.moduleReset_does s keep).1
@[simp] theorem State.moduleReset_mems (s : State) (keep : Bool) (h : BothOk s.kept.2) : BothOk (s.moduleReset keep).kept.2 := (State.moduleReset_does s keep).2 h
@[simp] theorem State.noteDumped_kept (s : State) (d u : Nat) : (State.noteDumped s d u).kept = s.kept := by
  unfold State.noteDumped; (try dsimp only); (repeat' split) <;> simp
theorem State.resetEffect_does (s : State) (d u : Nat) :
    (s.resetEffect d u).kept.1 = s.kept.1 ∧ (BothOk s.kept.2 → BothOk (s.resetEffect d u).kept.2) := by
  unfold State.resetEffect
  split <;> exact ⟨by simp, fun h => by simp [h]⟩
@[simp] theorem State.resetEffect_fixed (s : State) (d u : Nat) : (s.resetEffect d u).kept.1 = s.kept.1 := (State.resetEffect_does s d u).1
@[simp] theorem State.resetEffect_mems (s : State) (d u : Nat) (h : BothOk s.kept.2) : BothOk (s.resetEffect d u).kept.2 := (State.resetEffect_does s d u).2 h
theorem State.startReset_does (s : State) (r : ResetRun) :
    (State.startReset s r).kept.1 = s.kept.1 ∧ (BothOk s.kept.2 → BothOk (State.startReset s r).kept.2) := by
  refine ⟨?_, fun h => ?_⟩ <;> unfold State.startReset <;> (try dsimp only) <;> (repeat' split) <;> first | rfl | exact h | (simp (maxDischargeDepth := 9) [*]; done)
@[simp] theorem State.startReset_kept_fixed (s : State) (r : ResetRun) : (State.startReset s r).kept.1 = s.kept.1 := (State.startReset_does s r).1
@[simp] theorem State.startReset_kept_mems (s : State) (r : ResetRun) (h : BothOk s.kept.2) : BothOk (State.startReset s r).kept.2 := (State.startReset_does s r).2 h
@[simp] theorem State.setRun_kept (s : State) (d u : Nat) (v : Option ResetRun) : (State.setRun s d u v).kept = s.kept := by
  rfl
@[simp] theorem State.dropDump_kept (s : State) (d u : Nat) : (State.dropDump s d u).kept = s.kept := by
  unfold State.dropDump; simp
@[simp] theorem State.leaveCores_kept (s : State) (ks : List CoreId) : (State.leaveCores s ks).kept = s.kept := by
  unfold State.leaveCores; simp
@[simp] theorem State.leaveEnd_kept (s : State) (e : Nat) : (State.leaveEnd s e).kept = s.kept := by
  unfold State.leaveEnd; simp
@[simp] theorem State.bootChiplet_kept (s : State) (e : Nat) : (State.bootChiplet s e).kept = s.kept := by
  rfl
@[simp] theorem State.failMemory_kept (s : State) (e : Nat) : (State.failMemory s e).kept = s.kept := by
  unfold State.failMemory; simp
@[simp] theorem State.denied_kept (s : State) : (State.denied s).kept = s.kept := by
  rfl
@[simp] theorem State.hang_kept (s : State) (k : CoreId) (code : Nat) : (State.hang s k code).kept = s.kept := by
  unfold State.hang; simp
@[simp] theorem State.modBank_kept (s : State) (slot : Nat) (f : Bank → Bank) : (State.modBank s slot f).kept = s.kept := by
  rfl
@[simp] theorem State.checkBank_kept (s : State) (kind bank : Nat) : (State.checkBank s kind bank).kept = s.kept := by
  unfold State.checkBank; simp
@[simp] theorem State.runImage_kept (s : State) (kind bank i : Nat) : (State.runImage s kind bank i).kept = s.kept := by
  rfl
@[simp] theorem State.takeImage_kept (s : State) (kind bank : Nat) (fallback : Bool) (is : List Nat) :
    (State.takeImage s kind bank fallback is).kept = s.kept := by
  unfold State.takeImage; simp
@[simp] theorem State.applyPending_kept (s : State) : (State.applyPending s).kept = s.kept := by
  unfold State.applyPending; simp
@[simp] theorem State.vcoreOn_kept (s : State) : (State.vcoreOn s).kept = s.kept := by
  unfold State.vcoreOn; simp
@[simp] theorem State.vcoreOff_kept (s : State) : (State.vcoreOff s).kept = s.kept := by
  unfold State.vcoreOff; simp
@[simp] theorem State.endHold_kept (s : State) : (State.endHold s).kept = s.kept := by
  unfold State.endHold; simp
@[simp] theorem State.go_kept (s : State) (p : Port) : (State.go s p).kept = s.kept := by
  unfold State.go; simp
@[simp] theorem State.fallShort_kept (s : State) : (State.fallShort s).kept = s.kept := by
  rfl
@[simp] theorem State.takeDelays_kept (s : State) (saved : Bool) : (State.takeDelays s saved).kept = s.kept := by
  rfl
@[simp] theorem State.takeSkews_kept (s : State) (saved : Bool) : (State.takeSkews s saved).kept = s.kept := by
  rfl
@[simp] theorem State.rewriteSaved_kept (s : State) : (State.rewriteSaved s).kept = s.kept := by
  unfold State.rewriteSaved; simp
@[simp] theorem State.lightBays_kept (s : State) : (State.lightBays s).kept = s.kept := by
  unfold State.lightBays; simp
theorem State.trainChannel_does (s : State) (saved : Bool) (cold : List (Fin 288)) (c : Nat) :
    (s.trainChannel saved cold c).kept.1 = s.kept.1 ∧ (BothOk s.kept.2 → BothOk (s.trainChannel saved cold c).kept.2) := by
  unfold State.trainChannel; extract_lets s1
  have h1 : s1.kept = s.kept := State.modChan_kept ..
  split
  · refine ⟨by simp [h1], fun h => ?_⟩
    have h2 := Mem.wf_drop s1.lpddr (fun a => decide (hashChannel a = c)) (h1 ▸ h).1
    have h3 : s1.csram.wf = true := (h1 ▸ h).2
    simp only [State.event_kept, kept_mem]
    exact ⟨h2, h3⟩
  · exact ⟨by simp [h1], fun h => by simp [h1, h]⟩
@[simp] theorem State.trainChannel_fixed (s : State) (saved : Bool) (cold : List (Fin 288)) (c : Nat) : (s.trainChannel saved cold c).kept.1 = s.kept.1 := (State.trainChannel_does s saved cold c).1
@[simp] theorem State.trainChannel_mems (s : State) (saved : Bool) (cold : List (Fin 288)) (c : Nat) (h : BothOk s.kept.2) : BothOk (s.trainChannel saved cold c).kept.2 := (State.trainChannel_does s saved cold c).2 h
@[simp] theorem State.failTraining_kept (s : State) (lost : List (Fin 288)) : (State.failTraining s lost).kept = s.kept := by
  unfold State.failTraining; simp
@[simp] theorem State.servedFrom_kept (s : State) (e : Nat) : (State.servedFrom s e).kept = s.kept := by
  rfl
@[simp] theorem State.setDoe_kept (s : State) (b : Bool) (bs : List Byte) : (State.setDoe s b bs).kept = s.kept := by
  rfl
theorem State.unpowered_does (s : State) :
    (s.unpowered).kept.1 = s.kept.1 ∧ (BothOk s.kept.2 → BothOk (s.unpowered).kept.2) := by
  exact ⟨rfl, fun _ => ⟨rfl, rfl⟩⟩
@[simp] theorem State.unpowered_fixed (s : State) : (s.unpowered).kept.1 = s.kept.1 := (State.unpowered_does s).1
@[simp] theorem State.unpowered_mems (s : State) (h : BothOk s.kept.2) : BothOk (s.unpowered).kept.2 := (State.unpowered_does s).2 h
@[simp] theorem State.unwrite_kept (s : State) (e : MramEntry) : (State.unwrite s e).kept = s.kept := by
  unfold State.unwrite; (try dsimp only); (repeat' split) <;> simp
theorem State.setJobWord_does (s : State) (off v : Nat) :
    (State.setJobWord s off v).kept.1 = s.kept.1 ∧ (BothOk s.kept.2 → BothOk (State.setJobWord s off v).kept.2) := by
  refine ⟨?_, fun h => ?_⟩ <;> unfold State.setJobWord <;> simp (maxDischargeDepth := 9) [*]
@[simp] theorem State.setJobWord_kept_fixed (s : State) (off v : Nat) :
    (State.setJobWord s off v).kept.1 = s.kept.1 := (State.setJobWord_does s off v).1
@[simp] theorem State.setJobWord_kept_mems (s : State) (off v : Nat) (h : BothOk s.kept.2) : BothOk (State.setJobWord s off v).kept.2 := (State.setJobWord_does s off v).2 h
@[simp] theorem State.sendMessage_kept (s : State) (type : Nat) : (State.sendMessage s type).kept = s.kept := by
  rfl
@[simp] theorem State.takeOver_kept (s : State) (cause : Nat) : (State.takeOver s cause).kept = s.kept := by
  unfold State.takeOver; simp
theorem State.stepDown_does (s : State) :
    (State.stepDown s).kept.1 = s.kept.1 ∧ (BothOk s.kept.2 → BothOk (State.stepDown s).kept.2) := by
  refine ⟨?_, fun h => ?_⟩ <;> unfold State.stepDown <;> simp (maxDischargeDepth := 9) [*]
@[simp] theorem State.stepDown_kept_fixed (s : State) : (State.stepDown s).kept.1 = s.kept.1 := (State.stepDown_does s).1
@[simp] theorem State.stepDown_kept_mems (s : State) (h : BothOk s.kept.2) : BothOk (State.stepDown s).kept.2 := (State.stepDown_does s).2 h
@[simp] theorem State.noteHealthy_kept (s : State) : (State.noteHealthy s).kept = s.kept := by
  rfl
@[simp] theorem State.badMessage_kept (s : State) : (State.badMessage s).kept = s.kept := by
  rfl
theorem State.hear_does (s : State) (m : PartnerMsg) :
    (State.hear s m).kept.1 = s.kept.1 ∧ (BothOk s.kept.2 → BothOk (State.hear s m).kept.2) := by
  refine ⟨?_, fun h => ?_⟩ <;> unfold State.hear <;> (try dsimp only) <;> (repeat' split) <;> first | rfl | exact h | (simp (maxDischargeDepth := 9) [*]; done)
@[simp] theorem State.hear_kept_fixed (s : State) (m : PartnerMsg) : (State.hear s m).kept.1 = s.kept.1 := (State.hear_does s m).1
@[simp] theorem State.hear_kept_mems (s : State) (m : PartnerMsg) (h : BothOk s.kept.2) : BothOk (State.hear s m).kept.2 := (State.hear_does s m).2 h
@[simp] theorem State.elvef_kept (s : State) (seq : BitVec 8) (status : Nat) (payload : List Byte) :
    (State.elvef s seq status payload).kept = s.kept := by
  rfl
@[simp] theorem State.prefer_kept (s : State) (seq : BitVec 8) (v : Nat) : (State.prefer s seq v).kept = s.kept := by
  unfold State.prefer; simp
@[simp] theorem State.replayWrite_kept (s : State) (solo : Bool) (k : CoreId) (t : Fin 8) (pc : BitVec 13) (limit : Nat) :
    (State.replayWrite s solo k t pc limit).kept = s.kept := by
  unfold State.replayWrite; simp
@[simp] theorem State.modWitness_kept (s : State) (f : Witness → Witness) : (State.modWitness s f).kept = s.kept := by
  rfl
@[simp] theorem State.modCkpt_kept (s : State) (f : Ckpt → Ckpt) : (State.modCkpt s f).kept = s.kept := by
  rfl
@[simp] theorem State.readTags_kept (s : State) : (State.readTags s).kept = s.kept := by
  unfold State.readTags; simp
@[simp] theorem State.queueSave_kept (s : State) (t a n at' : Nat) : (State.queueSave s t a n at').kept = s.kept := by
  unfold State.queueSave; simp
@[simp] theorem State.queueLines_kept (s : State) (off n at' : Nat) : (State.queueLines s off n at').kept = s.kept := by
  unfold State.queueLines; simp
@[simp] theorem State.saveRegion_kept (s : State) (r : Nat × Nat × Nat × Nat) : (State.saveRegion s r).kept = s.kept := by
  unfold State.saveRegion; simp
@[simp] theorem State.dropSaves_kept (s : State) : (State.dropSaves s).kept = s.kept := by
  unfold State.dropSaves; simp
@[simp] theorem State.release_kept (s : State) : (State.release s).kept = s.kept := by
  rfl
@[simp] theorem State.stopRelease_kept (s : State) : (State.stopRelease s).kept = s.kept := by
  rfl
@[simp] theorem State.ckptRestore_kept (s : State) : (State.ckptRestore s).kept = s.kept := by
  unfold State.ckptRestore; simp
@[simp] theorem State.ckptInvalidate_kept (s : State) : (State.ckptInvalidate s).kept = s.kept := by
  unfold State.ckptInvalidate; simp
@[simp] theorem State.setDirect_kept (s : State) (t n : Nat) : (State.setDirect s t n).kept = s.kept := by
  unfold State.setDirect; simp
theorem State.putRegion_does (s : State) (m : Mem) (i : Nat) (t : State) (h : s.putRegion m i = some t) :
    t.kept.1 = s.kept.1 ∧ (BothOk s.kept.2 → BothOk t.kept.2) := by
  unfold State.putRegion at h; dsimp only at h
  (repeat' split at h) <;> first
    | (cases h; done)
    | (simp only [Option.some.injEq] at h; subst h; exact ⟨by simp, fun h => by simp [h]⟩)
theorem State.putRegions_does (s : State) (m : Mem) (is : List Nat) :
    (s.putRegions m is).1.kept.1 = s.kept.1 ∧ (BothOk s.kept.2 → BothOk (s.putRegions m is).1.kept.2) := by
  induction is generalizing s with
  | nil => exact ⟨rfl, id⟩
  | cons i is ih =>
    unfold State.putRegions
    split
    · exact ⟨rfl, id⟩
    · rename_i t heq
      have h := State.putRegion_does s m i t heq
      exact ⟨(ih t).1.trans h.1, fun hs => (ih t).2 (h.2 hs)⟩
@[simp] theorem State.putRegions_fixed (s : State) (m : Mem) (is : List Nat) : (s.putRegions m is).1.kept.1 = s.kept.1 :=
  (State.putRegions_does s m is).1
@[simp] theorem State.putRegions_mems (s : State) (m : Mem) (is : List Nat) (h : BothOk s.kept.2) : BothOk (s.putRegions m is).1.kept.2 :=
  (State.putRegions_does s m is).2 h
@[simp] theorem State.clearMaxFlits_kept (s : State) : (State.clearMaxFlits s).kept = s.kept := by
  unfold State.clearMaxFlits; simp
@[simp] theorem State.missBoundary_kept (s : State) : (State.missBoundary s).kept = s.kept := by
  rfl
@[simp] theorem State.queueRecord_kept (s : State) (off : Nat) (bs : List Byte) : (State.queueRecord s off bs).kept = s.kept := by
  unfold State.queueRecord; simp
@[simp] theorem State.startRecord_kept (s : State) (a b : Snapshot) : (State.startRecord s a b).kept = s.kept := by
  unfold State.startRecord; simp
@[simp] theorem State.takeSnapshot_kept (s : State) : (State.takeSnapshot s).kept = s.kept := by
  unfold State.takeSnapshot; (try dsimp only); (repeat' split) <;> simp
@[simp] theorem State.atBoundary_kept (s : State) : (State.atBoundary s).kept = s.kept := by
  unfold State.atBoundary; simp
@[simp] theorem State.dropRecord_kept (s : State) : (State.dropRecord s).kept = s.kept := by
  unfold State.dropRecord; simp
@[simp] theorem State.dumpIgnored_kept (s : State) : (State.dumpIgnored s).kept = s.kept := by
  rfl
@[simp] theorem State.dumpCtrl_kept (s : State) (w : Word) : (State.dumpCtrl s w).kept = s.kept := by
  unfold State.dumpCtrl; simp

end Sys2Proof.Machine
end

