-- ==== Sys2Proof/Laws/KeptModule.lean ====
section
/-!
SUPPORT. What the shared operations of registers, arriving packets and the ports keep: the queue and the device's constants always; the LPDDR5X and the
control SRAM as they were, or in canonical form where the operation writes them.
-/
namespace Sys2Proof.Machine
open Sys2Proof

@[simp] theorem State.clearRc_kept (s : State) (off : Nat) (sel : Field → Bool) : (State.clearRc s off sel).kept = s.kept := by
  unfold State.clearRc; (try dsimp only); (repeat' split) <;> simp
@[simp] theorem State.readFull_kept (s : State) (p : Port) (off : Nat) : (State.readFull s p off).1.kept = s.kept := by
  unfold State.readFull; simp
@[simp] theorem State.readLow_kept (s : State) (p : Port) (off : Nat) : (State.readLow s p off).1.kept = s.kept := by
  unfold State.readLow; simp
@[simp] theorem State.readHigh_kept (s : State) (p : Port) (off : Nat) : (State.readHigh s p off).1.kept = s.kept := by
  unfold State.readHigh; (try dsimp only); (repeat' split) <;> simp
@[simp] theorem State.writeFields_kept (s : State) (r : Reg) (off : Nat) (part : Part) (w : Word) :
    (State.writeFields s r off part w).kept = s.kept := by
  unfold State.writeFields; simp
@[simp] theorem State.ringBell_kept (s : State) (p : Port) (n : Nat) (hi : Nat) : (State.ringBell s p n hi).kept = s.kept := by
  unfold State.ringBell; simp
@[simp] theorem State.setLow_kept (s : State) (n lo : Nat) : (State.setLow s n lo).kept = s.kept := by
  rfl
@[simp] theorem State.bellWrite_kept (s : State) (p : Port) (n : Nat) (part : Part) (w : Word) : (State.bellWrite s p n part w).kept = s.kept := by
  unfold State.bellWrite; simp
@[simp] theorem State.hcmdCtrl_kept (s : State) (w : Word) : (State.hcmdCtrl s w).kept = s.kept := by
  unfold State.hcmdCtrl; simp
@[simp] theorem State.hcmdTail_kept (s : State) (v : Nat) : (State.hcmdTail s v).kept = s.kept := by
  unfold State.hcmdTail; simp
@[simp] theorem State.hcmdBase_kept (s : State) (part : Part) (w : Word) : (State.hcmdBase s part w).kept = s.kept := by
  unfold State.hcmdBase; simp
@[simp] theorem State.writeModId_kept (s : State) (part : Part) (w : Word) : (State.writeModId s part w).1.kept = s.kept := by
  unfold State.writeModId; (try dsimp only); (repeat' split) <;> simp
@[simp] theorem State.writeStart_kept (s : State) (p : Port) (part : Part) (w : Word) : (State.writeStart s p part w).kept = s.kept := by
  unfold State.writeStart; simp
@[simp] theorem State.writeReset_kept (s : State) (part : Part) (w : Word) : (State.writeReset s part w).kept = s.kept := by
  unfold State.writeReset; simp
@[simp] theorem State.writeReplay_kept (s : State) (part : Part) (w : Word) : (State.writeReplay s part w).kept = s.kept := by
  unfold State.writeReplay; simp
@[simp] theorem State.writeCkpt_kept (s : State) (part : Part) (w : Word) : (State.writeCkpt s part w).kept = s.kept := by
  unfold State.writeCkpt; simp
@[simp] theorem State.writeJobCtrl_kept (s : State) (p : Port) (part : Part) (w : Word) : (State.writeJobCtrl s p part w).kept = s.kept := by
  unfold State.writeJobCtrl; simp
@[simp] theorem State.writeExpert_kept (s : State) (p : Port) (part : Part) (w : Word) : (State.writeExpert s p part w).kept = s.kept := by
  unfold State.writeExpert; simp
@[simp] theorem State.writeCartridge_kept (s : State) (off : Nat) (part : Part) (w : Word) : (State.writeCartridge s off part w).kept = s.kept := by
  unfold State.writeCartridge; simp
@[simp] theorem State.writeCbCmd_kept (s : State) (part : Part) (w : Word) : (State.writeCbCmd s part w).kept = s.kept := by
  unfold State.writeCbCmd; simp
@[simp] theorem State.writeSpare_kept (s : State) (part : Part) (w : Word) : (State.writeSpare s part w).kept = s.kept := by
  unfold State.writeSpare; simp
@[simp] theorem State.writeEpochCmd_kept (s : State) (fibre : Bool) (part : Part) (w : Word) :
    (State.writeEpochCmd s fibre part w).kept = s.kept := by
  unfold State.writeEpochCmd; simp
@[simp] theorem State.writeFeed_kept (s : State) (part : Part) (w : Word) : (State.writeFeed s part w).kept = s.kept := by
  unfold State.writeFeed; simp
@[simp] theorem State.writeThermal_kept (s : State) (part : Part) (w : Word) : (State.writeThermal s part w).kept = s.kept := by
  unfold State.writeThermal; simp
@[simp] theorem State.writeSecurity_kept (s : State) (p : Port) (part : Part) (w : Word) : (State.writeSecurity s p part w).1.kept = s.kept := by
  unfold State.writeSecurity; (try dsimp only); (repeat' split) <;> simp
@[simp] theorem State.writeDump_kept (s : State) (part : Part) (w : Word) : (State.writeDump s part w).kept = s.kept := by
  unfold State.writeDump; simp
@[simp] theorem State.writeRing_kept (s : State) (r : Reg) (off : Nat) (part : Part) (w : Word) : (State.writeRing s r off part w).kept = s.kept := by
  unfold State.writeRing; simp
@[simp] theorem State.writeVault'_kept (s : State) (off : Nat) (part : Part) (w : Word) : (State.writeVault' s off part w).kept = s.kept := by
  unfold State.writeVault'; simp
@[simp] theorem State.writeTower_kept (s : State) (t : Fin 8) (part : Part) (w : Word) : (State.writeTower s t part w).kept = s.kept := by
  unfold State.writeTower; simp
@[simp] theorem State.writeCore_kept (s : State) (off : Nat) (part : Part) (w : Word) : (State.writeCore s off part w).kept = s.kept := by
  unfold State.writeCore; simp
@[simp] theorem State.writeMark_kept (s : State) (off : Nat) (part : Part) (w : Word) : (State.writeMark s off part w).kept = s.kept := by
  unfold State.writeMark; simp
@[simp] theorem State.apply_kept (s : State) (p : Port) (r : Reg) (off : Nat) (part : Part) (w : Word) :
    (State.apply s p r off part w).1.kept = s.kept := by
  unfold State.apply; (try dsimp only); (repeat' split) <;> simp
@[simp] theorem State.writeMsix_kept (s : State) (port i : Nat) (part : Part) (w : Word) : (State.writeMsix s port i part w).kept = s.kept := by
  rfl
@[simp] theorem State.refuseWrite_kept (s : State) (p : Port) (r : Reg) (part : Part) (w : Word) :
    (State.refuseWrite s p r part w).kept = s.kept := by
  unfold State.refuseWrite; simp
@[simp] theorem State.writeReg_kept (s : State) (p : Port) (off : Nat) (part : Part) (value : Word) :
    (State.writeReg s p off part value).1.kept = s.kept := by
  unfold State.writeReg; (try dsimp only); (repeat' split) <;> simp
@[simp] theorem State.answer_kept (s : State) (p : Port) (v : Word) : (State.answer s p v).kept = s.kept := by
  rfl
@[simp] theorem State.badAccess_kept (s : State) (p : Port) (read : Bool) : (State.badAccess s p read).kept = s.kept := by
  unfold State.badAccess; simp
@[simp] theorem State.freed_kept (s : State) (key : Nat) (p : Packet) : (State.freed s key p).kept = s.kept := by
  rfl
@[simp] theorem State.drained_kept (s : State) (e : Nat) (p : Packet) (on : Option LaneId) : (State.drained s e p on).kept = s.kept := by
  unfold State.drained; (try dsimp only); (repeat' split) <;> simp
@[simp] theorem State.take_kept (s : State) (e : Nat) (p : Packet) (on : Option LaneId) : (State.take s e p on).1.kept = s.kept := by
  unfold State.take; (try dsimp only); (repeat' split) <;> simp
@[simp] theorem State.performVault_kept (s : State) (e a : Nat) (t : Transit) : (State.performVault s e a t).kept = s.kept := by
  rfl
@[simp] theorem State.performCached_kept (s : State) (e : Nat) (t : Transit) : (State.performCached s e t).kept = s.kept := by
  unfold State.performCached; simp
@[simp] theorem State.performSpad_kept (s : State) (e core a : Nat) (t : Transit) : (State.performSpad s e core a t).kept = s.kept := by
  unfold State.performSpad; simp
@[simp] theorem State.performed_kept (s : State) (e : Nat) (t : Transit) (bytes : List Byte) (old : Option Word) :
    (State.performed s e t bytes old).kept = s.kept := by
  unfold State.performed; simp
theorem State.performSram_does (s : State) (e a : Nat) (t : Transit) :
    (State.performSram s e a t).kept.1 = s.kept.1 ∧ (BothOk s.kept.2 → BothOk (State.performSram s e a t).kept.2) := by
  refine ⟨?_, fun h => ?_⟩ <;> unfold State.performSram <;> (try dsimp only) <;> (repeat' split) <;> first | rfl | exact h | (simp (maxDischargeDepth := 9) [*]; done)
@[simp] theorem State.performSram_kept_fixed (s : State) (e a : Nat) (t : Transit) :
    (State.performSram s e a t).kept.1 = s.kept.1 := (State.performSram_does s e a t).1
@[simp] theorem State.performSram_kept_mems (s : State) (e a : Nat) (t : Transit) (h : BothOk s.kept.2) : BothOk (State.performSram s e a t).kept.2 := (State.performSram_does s e a t).2 h
@[simp] theorem State.readPlain_kept (s : State) (off : Nat) : (State.readPlain s off).1.kept = s.kept := by
  unfold State.readPlain; simp
@[simp] theorem State.performWindow_kept (s : State) (e a : Nat) (t : Transit) : (State.performWindow s e a t).kept = s.kept := by
  unfold State.performWindow; (try dsimp only); (repeat' split) <;> simp
theorem State.performHashed_does (s : State) (e : Nat) (t : Transit) (u : State) (h : s.performHashed e t = some u) :
    u.kept.1 = s.kept.1 ∧ (BothOk s.kept.2 → BothOk u.kept.2) := by
  unfold State.performHashed at h; dsimp only at h
  (repeat' split at h) <;> first | (cases h; done) | (simp only [Option.some.injEq] at h; subst h; exact ⟨by simp, fun h => by simp [h]⟩)
theorem State.perform_does (s : State) (e : Nat) (t : Transit) (u : State) (h : s.perform e t = some u) :
    u.kept.1 = s.kept.1 ∧ (BothOk s.kept.2 → BothOk u.kept.2) := by
  unfold State.perform at h; dsimp only at h
  (repeat' split at h) <;> first
    | (cases h; done)
    | (simp only [Option.some.injEq] at h; subst h; exact ⟨by simp, fun h => by simp [h]⟩)
    | exact State.performHashed_does s e t u ‹_›
theorem State.perform_getD (s s' : State) (e : Nat) (t : Transit) (h : s'.kept = s.kept) :
    ((s'.perform e t).getD s).kept.1 = s.kept.1 ∧ (BothOk s.kept.2 → BothOk ((s'.perform e t).getD s).kept.2) := by
  cases hp : s'.perform e t with
  | none => exact ⟨rfl, id⟩
  | some u =>
    have := State.perform_does s' e t u hp
    rw [h] at this
    exact this
@[simp] theorem State.takeUp_kept (s : State) (e : Nat) (p : Packet) : (State.takeUp s e p).1.kept = s.kept := by
  unfold State.takeUp; (try dsimp only); (repeat' split) <;> simp
theorem State.request_does (s : State) (e : Nat) (p : Packet) (on : Option LaneId) :
    (s.request e p on).kept.1 = s.kept.1 ∧ (BothOk s.kept.2 → BothOk (s.request e p on).kept.2) := by
  have h0 := State.take_kept s e p on
  unfold State.request
  split
  rename_i s' t heq
  rw [heq] at h0
  have h1 := State.takeUp_kept s' e p
  split
  · exact State.perform_getD s s' e t h0
  · split <;> rename_i heq2 <;> rw [heq2] at h1
    · exact State.perform_getD s _ e t (h1.trans h0)
    all_goals
      have h2 := h1.trans h0
      dsimp only at h2
      exact ⟨by simp [h2], fun h => by simp [h2, h]⟩
@[simp] theorem State.request_fixed (s : State) (e : Nat) (p : Packet) (on : Option LaneId) : (s.request e p on).kept.1 = s.kept.1 :=
  (State.request_does s e p on).1
@[simp] theorem State.request_mems (s : State) (e : Nat) (p : Packet) (on : Option LaneId) (h : BothOk s.kept.2) :
    BothOk (s.request e p on).kept.2 := (State.request_does s e p on).2 h
@[simp] theorem State.fillAnswer_kept (s : State) (x : Fill) (p : Packet) : (State.fillAnswer s x p).kept = s.kept := by
  unfold State.fillAnswer; simp
@[simp] theorem State.lateAnswer_kept (s : State) (ctx dest seq : Nat) : (State.lateAnswer s ctx dest seq).kept = s.kept := by
  unfold State.lateAnswer; simp
@[simp] theorem State.opAnswer_kept (s : State) (o : RemoteOp) (f : Flight) (p : Packet) : (State.opAnswer s o f p).kept = s.kept := by
  unfold State.opAnswer; (try dsimp only); (repeat' split) <;> simp
@[simp] theorem State.response_kept (s : State) (e : Nat) (p : Packet) (on : Option LaneId) : (State.response s e p on).kept = s.kept := by
  unfold State.response; (try dsimp only); (repeat' split) <;> simp
@[simp] theorem State.outward_kept (s : State) (e : Nat) (p : Packet) (fibre : Option Nat) : (State.outward s e p fibre).kept = s.kept := by
  unfold State.outward; (try dsimp only); (repeat' split) <;> simp
@[simp] theorem State.closeFrame_kept (s : State) (e : Nat) (g : Gather) : (State.closeFrame s e g).kept = s.kept := by
  rfl
@[simp] theorem State.gather_kept (s : State) (e m fibre : Nat) (p : Packet) : (State.gather s e m fibre p).kept = s.kept := by
  unfold State.gather; (try dsimp only); (repeat' split) <;> simp
@[simp] theorem State.enter_kept (s : State) (e : Nat) (p : Packet) : (State.enter s e p).kept = s.kept := by
  unfold State.enter; (try dsimp only); (repeat' split) <;> simp
@[simp] theorem State.leave_kept (s : State) (e : Nat) (p : Packet) (fibre : Option Nat) : (State.leave s e p fibre).kept = s.kept := by
  unfold State.leave; (try dsimp only); (repeat' split) <;> simp
@[simp] theorem State.pass_kept (s : State) (e : Nat) (p : Packet) (fibre : Option Nat) (outside : Bool) :
    (State.pass s e p fibre outside).kept = s.kept := by
  unfold State.pass; simp
@[simp] theorem State.atX_kept (s : State) (e : Nat) (p : Packet) (on : Option LaneId) : (State.atX s e p on).kept = s.kept := by
  unfold State.atX; simp
@[simp] theorem State.drainFibre_kept (s : State) (key n : Nat) : (s.drainFibre key n).kept = s.kept := by
  induction n generalizing s with
  | zero => rfl
  | succ i ih => unfold State.drainFibre; (repeat' split) <;> simp [ih]
@[simp] theorem State.fromFibre_kept (s : State) (key : Nat) (p : Packet) : (State.fromFibre s key p).kept = s.kept := by
  unfold State.fromFibre; simp
@[simp] theorem State.rehop_kept (s : State) (e : Nat) (t : Transit) : (State.rehop s e t).kept = s.kept := by
  unfold State.rehop; simp
@[simp] theorem State.drainFibres_kept (s : State) (e : Nat) : (State.drainFibres s e).kept = s.kept := by
  unfold State.drainFibres; simp
@[simp] theorem State.lostAtGateway_kept (s : State) (e : Nat) (p : Packet) : (State.lostAtGateway s e p).kept = s.kept := by
  unfold State.lostAtGateway; simp
theorem State.packet_does (s : State) (op : Nat) (e : Endpoint) (p : Packet) (bad : Bool) (on : Option LaneId) :
    (State.packet s op e p bad on).kept.1 = s.kept.1 ∧ (BothOk s.kept.2 → BothOk (State.packet s op e p bad on).kept.2) := by
  refine ⟨?_, fun h => ?_⟩ <;> unfold State.packet <;> (try dsimp only) <;> (repeat' split) <;> first | rfl | exact h | (simp (maxDischargeDepth := 9) [*]; done)
@[simp] theorem State.packet_kept_fixed (s : State) (op : Nat) (e : Endpoint) (p : Packet) (bad : Bool) (on : Option LaneId) :
    (State.packet s op e p bad on).kept.1 = s.kept.1 := (State.packet_does s op e p bad on).1
@[simp] theorem State.packet_kept_mems (s : State) (op : Nat) (e : Endpoint) (p : Packet) (bad : Bool) (on : Option LaneId) (h : BothOk s.kept.2) : BothOk (State.packet s op e p bad on).kept.2 := (State.packet_does s op e p bad on).2 h
@[simp] theorem State.ibi_kept (s : State) (b : Nat) : (State.ibi s b).kept = s.kept := by
  rfl
@[simp] theorem State.memRequest_kept (s : State) (port : Bool) (tag a : Nat) (data : Option (List Byte)) :
    (State.memRequest s port tag a data).kept = s.kept := by
  unfold State.memRequest; simp
@[simp] theorem State.modCxl_kept (s : State) (port : Bool) (f : Cxl → Cxl) : (State.modCxl s port f).kept = s.kept := by
  rfl
@[simp] theorem State.retrain_kept (s : State) (port : Bool) : (State.retrain s port).kept = s.kept := by
  unfold State.retrain; simp
theorem State.ringEntry_kept (s : State) (work : State → State × Nat × List Byte) (h : ∀ s, (work s).1.kept = s.kept) :
    (s.ringEntry work).kept = s.kept := by
  unfold State.ringEntry; dsimp only; split <;> simp [h]
@[simp] theorem State.rejectStage_kept (s : State) (reason : Nat) : (State.rejectStage s reason).1.kept = s.kept := by
  rfl
@[simp] theorem State.stageImage_kept (s : State) (slot length : Nat) (image : Option (List Byte)) (genuine back : Bool) :
    (State.stageImage s slot length image genuine back).1.kept = s.kept := by
  unfold State.stageImage; (try dsimp only); (repeat' split) <;> simp
@[simp] theorem State.stageAbort_kept (s : State) (slot : Nat) : (State.stageAbort s slot).1.kept = s.kept := by
  unfold State.stageAbort; (try dsimp only); (repeat' split) <;> simp
@[simp] theorem State.dropJob_kept (s : State) : (State.dropJob s).kept = s.kept := by
  unfold State.dropJob; simp
@[simp] theorem State.setPending_kept (s : State) (mask v : Nat) : (State.setPending s mask v).kept = s.kept := by
  unfold State.setPending; simp
@[simp] theorem State.endActivation_kept (s : State) (result : Nat) : (State.endActivation s result).kept = s.kept := by
  rfl
@[simp] theorem State.revert_kept (s : State) (a : Activation) : (State.revert s a).kept = s.kept := by
  unfold State.revert; simp
@[simp] theorem State.modI3c_kept (s : State) (f : I3c → I3c) : (State.modI3c s f).kept = s.kept := by
  rfl
@[simp] theorem State.ccc_kept (s : State) (data : List Byte) : (State.ccc s data).kept = s.kept := by
  rfl
@[simp] theorem State.uartAnswer_kept (s : State) (status : Nat) (payload : List Byte) : (State.uartAnswer s status payload).kept = s.kept := by
  rfl
@[simp] theorem State.serviceRead_kept (s : State) (off : Nat) : (State.serviceRead s off).1.kept = s.kept := by
  unfold State.serviceRead; (try dsimp only); (repeat' split) <;> simp
theorem State.testByte_does (s : State) (u : TestUnit) (w : Nat × Byte) :
    (State.testByte s u w).kept.1 = s.kept.1 ∧ (BothOk s.kept.2 → BothOk (State.testByte s u w).kept.2) := by
  refine ⟨?_, fun h => ?_⟩ <;> unfold State.testByte <;> (try dsimp only) <;> (repeat' split) <;> first | rfl | exact h | (simp (maxDischargeDepth := 9) [*]; done)
@[simp] theorem State.testByte_kept_fixed (s : State) (u : TestUnit) (w : Nat × Byte) :
    (State.testByte s u w).kept.1 = s.kept.1 := (State.testByte_does s u w).1
@[simp] theorem State.testByte_kept_mems (s : State) (u : TestUnit) (w : Nat × Byte) (h : BothOk s.kept.2) : BothOk (State.testByte s u w).kept.2 := (State.testByte_does s u w).2 h
@[simp] theorem State.selectJtag_kept (s : State) (code : Nat) (permitted : Bool) : (State.selectJtag s code permitted).kept = s.kept := by
  rfl
theorem State.stopDie_does (s : State) (d : Die) :
    (State.stopDie s d).kept.1 = s.kept.1 ∧ (BothOk s.kept.2 → BothOk (State.stopDie s d).kept.2) := by
  refine ⟨?_, fun h => ?_⟩ <;> unfold State.stopDie <;> (try dsimp only) <;> (repeat' split) <;> first | rfl | exact h | (simp (maxDischargeDepth := 9) [*]; done)
@[simp] theorem State.stopDie_kept_fixed (s : State) (d : Die) : (State.stopDie s d).kept.1 = s.kept.1 := (State.stopDie_does s d).1
@[simp] theorem State.stopDie_kept_mems (s : State) (d : Die) (h : BothOk s.kept.2) : BothOk (State.stopDie s d).kept.2 := (State.stopDie_does s d).2 h
@[simp] theorem State.enqueueTensor_kept (s : State) (c : Ctx) (t : TReg) (act : TensorAct) (captured : Bool) :
    (State.enqueueTensor s c t act captured).kept = s.kept := by
  rfl
@[simp] theorem State.noteCapture_kept (s : State) (x : Capture) : (State.noteCapture s x).kept = s.kept := by
  rfl

end Sys2Proof.Machine
end

