-- ==== Sys2Proof/Tests/Slice0.lean ====
section
/-!
SUPPORT. The tests of this slice: ill-formed commands that the checks of WellFormed refuse, instruction words written out from the
encodings of the manual, and for every statement with hypotheses a state and operands that meet them.
-/
namespace Sys2Proof.Tests
set_option Elab.async false
open Machine

/-! A small packet and small messages. -/

def pkt (op : Nat) : Packet :=
  { op := op, sub := 3, knum := 0, ken := false, db := false, tries := 0, gw := false, srcCtx := 22 * 2048, seq := 0, kctx := 0, srcModule := 0,
    srcInc := 0, addr := BitVec.ofNat 64 (22 * 2 ^ 49), operand := 0x1122334455667788, data := [] }

def data32 : List Byte := (List.range 32).map fun i => BitVec.ofNat 8 (i + 1)

def linkF : LinkFlit :=
  { src := 0, dst := 1, half := 0, down := 0, resync := 0, init := 0, reqFreed := [1, 2, 3, 4, 5, 6, 7, 8], rspFreed := [4095, 0, 0, 0, 0, 0, 0, 0] }

def extF : ExtLinkFlit :=
  { pair := 0, quarter := 0, down := 0, resync := 0, init := 0, pairState := 0, srcModule := 7, reqFreed := [1, 2, 3, 4, 5, 6, 7, 8],
    rspFreed := [0, 0, 0, 0, 0, 0, 0, 0] }

def frame1 : Frame :=
  { number := 0, srcModule := 1, srcGw := 16, dstModule := 0, dstGw := 16, packets := 1, flits := (pkt 2).flits, body := [pkt 2] }

def msg1 : PartnerMsg :=
  { type := 1, version := 1, seq := 0, srcModule := 1, role := 0, flags := 0, term := 0, time := 0, checkpoint := 0 }

def flit1 : TimeFlit := { src := 0, fibre := 0, locked := true, stratum := 0, srcModule := 1, tTx := 0, echoTx := 1, echoRx := 0 }

/-! Well-formedness: each check refuses a command that breaks it, and the sound command passes. -/

theorem test_wf_ok : (Instr.storePacket 22 (pkt 2) false none).wellFormed = true ∧ (Instr.linkFlitReceived linkF).wellFormed = true ∧
    (Instr.extLinkFlitReceived ⟨extF, none⟩).wellFormed = true ∧ (Instr.frameReceived 0 frame1 false).wellFormed = true ∧
    (Instr.heartbeat msg1).wellFormed = true ∧ (Instr.timeFlitReceived 0 flit1 0).wellFormed = true := by decide

theorem test_wf_packet_fields : (pkt 2).wf = true ∧ ({ pkt 2 with op := 256 } : Packet).wf = false ∧
    ({ pkt 2 with sub := 256 } : Packet).wf = false ∧ ({ pkt 2 with knum := 64 } : Packet).wf = false ∧
    ({ pkt 2 with tries := 4 } : Packet).wf = false ∧ ({ pkt 2 with srcCtx := 65536 } : Packet).wf = false ∧
    ({ pkt 2 with seq := 65536 } : Packet).wf = false ∧ ({ pkt 2 with kctx := 65536 } : Packet).wf = false ∧
    ({ pkt 2 with srcModule := 1024 } : Packet).wf = false ∧ ({ pkt 2 with srcInc := 256 } : Packet).wf = false ∧
    ({ pkt 4 with data := [0] } : Packet).wf = false ∧ ({ pkt 4 with data := List.replicate 1056 0 } : Packet).wf = false := by decide +kernel

theorem test_wf_packet_kinds : (Instr.loadPacket 22 (pkt 2) false none).wellFormed = false ∧ (Instr.storePacket 22 (pkt 1) false none).wellFormed = false ∧
    (Instr.atomicPacket 22 { pkt 3 with sub := 18 } false none).wellFormed = false ∧ (Instr.putPacket 22 (pkt 4) false none).wellFormed = false ∧
    (Instr.getPacket 22 (pkt 4) false none).wellFormed = false ∧ (Instr.ackPacket 0 (pkt 0x42) false none).wellFormed = false ∧
    (Instr.nackPacket 0 (pkt 0x41) false none).wellFormed = false ∧ (Instr.dataPacket 0 { pkt 0x43 with data := data32 } false none).wellFormed = false ∧
    (Instr.gdataPacket 0 (pkt 0x44) false none).wellFormed = false ∧ (Instr.reservedOpPacket 0 (pkt 2) false none).wellFormed = false := by decide

theorem test_wf_links : (Instr.linkFlitReceived { linkF with dst := 0 }).wellFormed = false ∧
    (Instr.linkFlitReceived { linkF with reqFreed := [] }).wellFormed = false ∧
    (Instr.linkFlitReceived { linkF with rspFreed := [4096, 0, 0, 0, 0, 0, 0, 0] }).wellFormed = false ∧
    (Instr.extLinkFlitReceived ⟨{ extF with srcModule := 1024 }, none⟩).wellFormed = false ∧
    (Instr.extLinkFlitReceived ⟨{ extF with rspFreed := [] }, none⟩).wellFormed = false ∧
    (Instr.linkFlitDue 0 (.base 1) 2).wellFormed = false ∧ (Instr.linkFlitDue 16 (.fibre 4) 0).wellFormed = false ∧
    (Instr.linkFlitDue 17 (.fibre 4) 0).wellFormed = true := by decide

theorem test_wf_frames : ({ frame1 with number := 2 ^ 32 } : Frame).wf = false ∧ ({ frame1 with srcModule := 1024 } : Frame).wf = false ∧
    ({ frame1 with dstModule := 1024 } : Frame).wf = false ∧ ({ frame1 with srcGw := 15 } : Frame).wf = false ∧
    ({ frame1 with srcGw := 22 } : Frame).wf = false ∧ ({ frame1 with dstGw := 15 } : Frame).wf = false ∧
    ({ frame1 with dstGw := 22 } : Frame).wf = false ∧ ({ frame1 with packets := 4096 } : Frame).wf = false ∧
    ({ frame1 with flits := 65536 } : Frame).wf = false ∧ ({ frame1 with body := [{ pkt 2 with seq := 65536 }] } : Frame).wf = false := by decide

theorem test_wf_messages : ({ msg1 with type := 256 } : PartnerMsg).wf = false ∧ ({ msg1 with version := 256 } : PartnerMsg).wf = false ∧
    ({ msg1 with seq := 65536 } : PartnerMsg).wf = false ∧ ({ msg1 with srcModule := 1024 } : PartnerMsg).wf = false ∧
    ({ msg1 with role := 256 } : PartnerMsg).wf = false ∧ ({ msg1 with flags := 16 } : PartnerMsg).wf = false ∧
    ({ msg1 with term := 2 ^ 32 } : PartnerMsg).wf = false ∧ (Instr.takeover { msg1 with flags := 16 }).wellFormed = false ∧
    (Instr.release { msg1 with flags := 16 }).wellFormed = false ∧ ({ flit1 with stratum := 16 } : TimeFlit).wf = false ∧
    ({ flit1 with srcModule := 1024 } : TimeFlit).wf = false := by decide

theorem test_wf_operands : (Instr.resendIntervalExpired 0 32768 0).wellFormed = false ∧ (Instr.resendIntervalExpired 0 24 0).wellFormed = false ∧
    (Instr.packetBoundPassed 0 0 65536).wellFormed = false ∧ (Instr.windowExpired 0 1024 0).wellFormed = false ∧
    (Instr.windowExpired 0 0 65536).wellFormed = false ∧ (Instr.gatewayFrameClose 0 1024 0).wellFormed = false ∧
    (Instr.multicastPut 0 1 0 (pkt 1)).wellFormed = false ∧ (Instr.bimetalEvaluation [⟨293, 0⟩]).wellFormed = false ∧
    (Instr.doeEvidence false data32.tail).wellFormed = false ∧ (Instr.jtagPrivateScan [.compute 0, .compute 0]).wellFormed = false := by decide

/-! Instruction words, written out from the encodings. -/

/-- The worked example under R137: `tmma t1, x10, x11, x12, x13`, formats 0x0 and 0xA, 80 K blocks, ME and SE. -/
theorem test_word_tmma : decodeWord ⟨0, 0, 0⟩ 0x60052D8D42943000 = some (.tmma ⟨0, 0, 0⟩ 1 10 11 12 13 0 0xA 80 true true false) := by decide

/-- R118: `add x0, x0, x0` is 0x0400_0000_0000_0000; the word 0 is illegal. -/
theorem test_word_nop : decodeWord ⟨0, 0, 0⟩ 0x0400000000000000 = some (.add ⟨0, 0, 0⟩ 0 0 0) ∧ legalWord 0 = false := by decide

/-- MAJOR 0x22, FUNC 0x01, A 6, B 20, C 5, F: `radd8.f x6, x20, x5`; without F field A must be 0. -/
theorem test_word_radd8 : decodeWord ⟨0, 0, 0⟩ 0x881350A080000000 = some (.radd8F ⟨0, 0, 0⟩ 6 20 5) ∧
    legalWord 0x881350A000000000 = false := by decide

/-- MAJOR 0x10, FUNC 0x08, A 1, B 2, C 3, PG 7, code 5: `vcmp.ge p1, v2, v3` under p7; code 8 is reserved. -/
theorem test_word_vcmp : decodeWord ⟨0, 0, 0⟩ 0x40808860E0000005 = some (.vcmp ⟨0, 0, 0⟩ 7 .ge 1 2 3) ∧ legalWord 0x40808860E0000008 = false := by decide

/-- A deadline selector of 0b11, a `ywait` mask of 0, and a write of a register that is read only are illegal (R146, R147, R150). -/
theorem test_word_illegal : legalWord 0xA0200060C0000001 = false ∧ legalWord 0xA010000000000000 = false ∧ legalWord 0xC010000000000000 = false := by decide

/-! States that meet the hypotheses of the statements, one theorem per statement. -/

def c0 : Ctx := ⟨0, 0, 0⟩
def k0 : CoreId := ⟨0, 0⟩

/-- The reset state with thread 0 of core 0 of tower 0 RUNNING. -/
def run0 : State := State.reset.modTh c0 fun t => { t with st := .running }
def onTh (f : Thread → Thread) : State := run0.modTh c0 f
def onCore (f : Core → Core) : State := run0.modCore k0 f
/-- The module past its start. -/
def after (s : State) : State := { s with mod := { s.mod with start := { s.mod.start with stage := 3 } } }
/-- x1 holds `a`, x2 holds `b`. -/
def xs (a b : Word) : State := onTh fun t => (t.setX 1 a).setX 2 b
/-- The thread owns the tensor unit and t0. -/
def owner0 : State := run0.setReg (coreBlock k0 + 0x18) 0x88
/-- The SRAM of C0, offset 64. -/
def far1 : Word := BitVec.ofNat 64 (22 * 2 ^ 49 + 64)

theorem witness_ScalarAlu : Ready run0 c0 ∧ Clear run0 c0 [.x 1, .x 2, .x 0] := by
  unfold Ready Clear; decide +kernel

theorem witness_MultiplyDivide : Ready run0 c0 ∧ Clear run0 c0 [.x 3, .x 1, .x 2] ∧ (run0.core c0.coreId).divFree ≤ (run0.core c0.coreId).issueCycle := by
  unfold Ready Clear; decide +kernel

theorem witness_LoadImmediate : Ready run0 c0 ∧ Clear run0 c0 [.x 31] ∧ (instrWord 4 1 0 1 0 0 0).field 63 58 = 4 ∧
    (instrWord 4 1 0 1 0 0 0).field 57 52 ≤ 1 ∧ (instrWord 4 1 0 1 0 0 0).field 46 42 ≠ 0 := by
  unfold Ready Clear; decide +kernel

theorem witness_Branches : Ready run0 c0 ∧ Clear run0 c0 [.x 1, .x 2] ∧ Clear run0 c0 [.p 7] ∧ Clear run0 c0 [.x 0] := by
  unfold Ready Clear; decide +kernel

/-- The last aligned offset of every size. -/
theorem witness_LocalScalarAccess : Ready (xs 0xFFFF8 0) c0 ∧ Clear (xs 0xFFFF8 0) c0 [.x 3, .x 1] ∧ LocalOk 0xFFFF8 0 8 8 0xFFFF8 ∧
    LocalOk 0xFFFF8 4 4 4 0xFFFFC ∧ LocalOk 0xFFFF8 6 2 2 0xFFFFE ∧ LocalOk 0xFFFF8 7 1 1 0xFFFFF ∧ LocalOk 0xFFFF8 0xFFF00008 1 1 0 := by
  unfold Ready Clear LocalOk; decide +kernel

def waiting1 : LaneStore := { thread := 0, pc := 0, turn := 4, order := 0, bytes := [(0xFFFE0, 1), (0xFFFFF, 2)], bad := none }

/-- Two parts with the same turn, one at the last lane, and a later part. -/
theorem witness_LocalStoreWritten :
    let parts := [waiting1, { waiting1 with bytes := [(0, 3)] }, { waiting1 with turn := 5, bytes := [(32, 4)] }]
    let s := onCore fun k => { k with stores := parts }
    LocalOnly k0 s ∧ (s.core k0).longOps = [] ∧ (s.core k0).nextStore = some 4 ∧ (s.core k0).cycle ≤ 4 ∧ (s.core k0).served ≤ 4 ∧
      (∀ p ∈ parts, p.bad = none ∧ p.bytes ≠ [] ∧ ∃ lane ∈ [0, 1, 32767], ∀ b ∈ p.bytes, b.1 / 32 = lane) ∧
      (parts.flatMap fun p => p.bytes.map Prod.fst).Nodup := by
  unfold LocalOnly; decide +kernel

def long1 (d : LongDest) (reads : List Nat) : LongOp :=
  { thread := 0, pc := 0, due := 9, order := 0, dest := d, reads := reads.map fun l => (l, 7), got := [], bad := none }

theorem witness_LongOperationCompletes :
    ∀ o ∈ [long1 (.x 0 5) [], long1 (.x 31 5) [], long1 (.p 0 5) [], long1 (.p 7 5) [], long1 (.v 31 [(0, 1), (63, 2)]) [],
        long1 (.load (.scalar 8 false) 31 0xFFFF8 0) [32767], long1 (.load (.scalar 1 true) 1 0xFFFFF 0) [32767],
        long1 (.load .vec32 31 0xFFF00 1) ((List.range 8).map (· + 32760)), long1 (.load .vecHalf 0 0 3) [0, 1, 2, 3]],
      let s := onCore fun k => { k with longOps := [o] }
      LocalOnly k0 s ∧ (s.core k0).stores = [] ∧ earliest (s.core k0).longOps = some o ∧ o.thread = (0 : Fin 8).val ∧
        ((s.core k0).longOps.map LongOp.order).Nodup ∧ o.got = [] ∧ o.bad = none ∧
        (o.reads.map Prod.fst = match o.dest.extent with
          | some e => lanesOf e.1 e.2
          | none => []) ∧ (s.core k0).cycle ≤ o.due := by
  unfold LocalOnly; decide +kernel

theorem witness_LocalVectorAccess : Ready (xs 0xFFF00 0) c0 ∧ Clear (xs 0xFFF00 0) c0 [.p 7, .v 31, .x 1] ∧ LocalOk 0xFFF00 0 32 256 0xFFF00 ∧
    LocalOk 0xFFF80 0 32 128 0xFFF80 ∧ LocalOk 0xFFF01 0 1 255 0xFFF01 ∧ (1 : BitVec 8).toNat + ((254 : BitVec 8).toNat + 1) ≤ 256 := by
  unfold Ready Clear LocalOk; decide +kernel

theorem witness_VectorArithmetic : Ready run0 c0 ∧ Clear run0 c0 [.p 7, .v 0, .v 1, .v 2, .v 31, .x 1] := by
  unfold Ready Clear; decide +kernel

theorem witness_VectorCompareReduce : Ready run0 c0 ∧ Clear run0 c0 [.p 7, .p 0, .v 0, .v 1, .v 31] := by
  unfold Ready Clear; decide +kernel

theorem witness_PredicatesAndLanes : Ready run0 c0 ∧ Clear run0 c0 [.p 0, .p 1, .p 7, .x 0, .x 31, .v 0] := by
  unfold Ready Clear; decide +kernel

/-- The largest count, ending at the last byte of the scratchpad. -/
theorem witness_SpecialFunctionsTopk : Ready (xs 0xFF000 1024) c0 ∧ Clear (xs 0xFF000 1024) c0 [.v 0, .x 1, .x 2, .p 0] ∧
    ((xs 0xFF000 1024).core c0.coreId).sfuFree ≤ ((xs 0xFF000 1024).core c0.coreId).issueCycle ∧
    (((xs 0xFF000 1024).th c0).xr 2).toNat = 1024 ∧ (((xs 0xFF000 1024).th c0).xr 1).toNat % 2 ^ 20 = 0xFF000 ∧ 0xFF000 + 4 * 1024 ≤ 2 ^ 20 ∧
    ((xs 0xFF000 1024).core c0.coreId).topkFree ≤ ((xs 0xFF000 1024).core c0.coreId).issueCycle := by
  unfold Ready Clear; decide +kernel

theorem witness_PackUnpack : Ready run0 c0 ∧ Clear run0 c0 [.v 0, .v 31, .x 31] ∧ (mxElem 0).isSome = true ∧ (mxElem 5).isSome = true ∧
    (s24Elem 8).isSome = true ∧ (s24Elem 10).isSome = true := by
  unfold Ready Clear; decide +kernel

theorem witness_TensorIssue : Ready owner0 c0 ∧ Clear owner0 c0 [.x 1, .x 2, .x 0, .v 0] ∧ owner0.owns c0.coreId c0.thread 4 = true ∧
    owner0.owns c0.coreId c0.thread 0 = true ∧ (owner0.core c0.coreId).tensorRoom = true ∧ (Fmt.ofCode 0).isSome = true ∧
    (Fmt.ofCode 0xA).isSome = true ∧ ((Fmt.ofCode 0).bind fun a => (Fmt.ofCode 0xA).bind fun b => blockCycles a b).isSome = true ∧
    (owner0.core c0.coreId).tileHeldFor 0 0 = false ∧ 128 * 2112 ≤ 2 ^ 20 ∧ owner0.mod.witness.sample = none ∧
    (owner0.core c0.coreId).tileBusy 0 = false := by
  unfold Ready Clear; decide +kernel

def tensor1 (act : TensorAct) (times : Option (Nat × Nat)) : TensorOp :=
  { thread := 0, pc := 0, tile := 3, act := act, times := times, kb := 0, next := 0, blocks := [], writes := [], captured := false }
def tmma1 : Tmma := { xa := 0, xb := 0x30000, mask := 0, skip := none, map := none, afmt := .dense .bf16, bfmt := .dense .bf16, kb := 1, mode := .nearestEven }

/-- A block of reads of the lanes a load still has to read. -/
def reads1 (off : Nat) : BlockRun :=
  { kb := 0, skip := 0, map := 0, reads := (lanesOf off 16384).map fun l => (l, 20), got := [], bad := none }

theorem witness_TensorUnit :
    (∀ a ∈ [TensorAct.clear, .load 0, .store 0xFC000, .storeBf 0xFE000, .mma tmma1],
      TensorOnly k0 (onCore fun k => { k with tensor := [tensor1 a none] }) (tensor1 a none)) ∧
    (blockCycles tmma1.afmt tmma1.bfmt).isSome = true ∧ tmma1.skip = none ∧ tmma1.map = none ∧ 1 ≤ tmma1.kb ∧
    (let o := tensor1 .clear (some (16, 15))
     TensorOnly k0 (onCore fun k => { k with tensor := [o] }) o ∧ (run0.core k0).cycle ≤ 15 ∧ o.tile < 4 ∧ o.blocks = [] ∧ o.writes = []) ∧
    (let o := { tensor1 (.load 0xFC000) (some (64, 75)) with blocks := [reads1 0xFC000] }
     TensorOnly k0 (onCore fun k => { k with tensor := [o] }) o ∧ (reads1 0xFC000).reads.map Prod.fst = lanesOf 0xFC000 16384) ∧
    (let o := { tensor1 (.storeBf 0xFE000) (some (64, 75)) with writes := (lanesOf 0xFE000 8192).map fun l => (l, 70) }
     TensorOnly k0 (onCore fun k => { k with tensor := [o] }) o ∧ o.writes.map Prod.fst = lanesOf 0xFE000 8192) := by
  unfold TensorOnly; decide +kernel

theorem witness_RemoteLoadsStores : Ready (xs far1 7) c0 ∧ (xs far1 7).entriesFree c0 = true ∧ Clear (xs far1 7) c0 [.x 3, .x 1] ∧
    (∀ n ∈ [1, 2, 4, 8], (xs far1 7).addressOk far1 .load n n 0 false = true ∧ (xs far1 7).addressOk far1 .store n n 0 false = true) := by
  unfold Ready Clear; decide +kernel

theorem witness_RemoteAtomics : Ready (xs far1 7) c0 ∧ (xs far1 7).entriesFree c0 = true ∧ Clear (xs far1 7) c0 [.x 3, .x 1, .x 2, .x 4] ∧
    (∀ n ∈ [2, 4, 8], (xs far1 7).addressOk far1 .atomic n n 0 false = true) := by
  unfold Ready Clear; decide +kernel

/-- UNITS 0, and UNITS 33 (two packets); the counter of a context of the far tower. -/
theorem witness_BulkTransfers :
    (∀ s ∈ [xs far1 (BitVec.ofNat 64 (22 * 2048 * 2 ^ 32)), xs far1 33], Ready s c0 ∧ Clear s c0 [.x 1, .x 0, .x 2, .x 3, .v 0, .p 1] ∧
      s.entriesFree c0 = true ∧ (s.th c0).pr 1 = 0) ∧
    (xs far1 0).addressOk far1 .bulk 0 32 0 false = true ∧ (xs far1 0).addressOk far1 .bulk (32 * 33) 32 0 false = true ∧
    (xs far1 0).counterOk far1 (22 * 2048) = true := by
  unfold Ready Clear; decide +kernel

/-- A descriptor at 0x100 (CAPACITY 1, one 32-byte unit a row, spill area of 1 row, counter 5 of C0's context 0) and two governed lanes, row 0
and row 1, which spills; at local offset 0x200. -/
def desc1 : List Byte :=
  bytesOf 8 far1.toNat ++ bytesOf 8 (far1.toNat + 0x1000) ++ bytesOf 2 1 ++ [0, 0] ++ bytesOf 4 1 ++ bytesOf 4 1 ++ bytesOf 2 (22 * 2048) ++ [0x45, 0]
def rows1 (pg : Word) : State :=
  ((xs 0x200 0x100).modTh c0 fun t => (t.setP 1 pg).setLane 3 1 1).modCore k0 fun k => { k with spad := k.spad.write 0x100 desc1 }

theorem witness_BulkTransfers_rows :
    Ready (rows1 0) c0 ∧ Clear (rows1 0) c0 [.p 1, .x 3, .v 3, .x 1, .x 2] ∧ ((rows1 0).th c0).pr 1 = 0 ∧
    Ready (rows1 3) c0 ∧ Clear (rows1 3) c0 [.p 1, .x 3, .v 3, .x 1, .x 2] ∧ ((rows1 3).th c0).pr 1 = 3 ∧ (rows1 3).entriesFree c0 = true ∧
    (let s := rows1 3
     let desc := overlay (s.core k0).stores (s.core k0).accessNo 0x100 ((s.core k0).spad.read 0x100 32)
     desc = desc1 ∧ ((s.th c0).lane 3 0).toNat = 0 ∧ ((s.th c0).lane 3 1).toNat = 1 ∧ (s.core k0).spadErr = [] ∧
      s.addressOk far1 .bulk 32 32 0 false = true ∧ s.addressOk (far1 + 0x1000) .bulk 32 32 0 false = true ∧
      s.counterOk far1 (22 * 2048) = true) := by
  unfold Ready Clear
  exact ⟨by decide +kernel, by decide +kernel, by decide +kernel, by decide +kernel, by decide +kernel, by decide +kernel, by decide +kernel,
    by decide +kernel⟩

def someOp (id : Nat) (kind : OpKind) (flights : List Flight) (unsent : List Piece) : RemoteOp :=
  { id := id, thread := 0, pc := 0, kind := kind, flights := flights, failure := none, value := none, bytes := [], unsent := unsent, spills := none }
def piece1 : Piece :=
  { op := 2, sub := 3, far := far1, loc := 0, len := 8, operand := 7, comparand := 0, ken := false, knum := 0, kctx := 0, db := false }
def flight1 : Flight :=
  { piece := piece1, seq := 5, dest := 22, firstSent := 0, lastSent := 0, tries := 0, bound := 100000, writing := 0, reading := 0
    source := [], answered := false }
def withOps (ops : List RemoteOp) (s : State) : State := s.modReq 0 fun r => { r with ops := ops, nextOp := 9 }

theorem witness_GivingUpTheCore : Ready run0 c0 ∧ run0.mod.replay = none ∧ (run0.req c0.id).ops = [] ∧
    Ready (withOps [someOp 0 .write [flight1] []] run0) c0 ∧ ((withOps [someOp 0 .write [flight1] []] run0).req c0.id).ops ≠ [] := by
  unfold Ready; decide +kernel

theorem witness_FenceReturns :
    (let s := (withOps [someOp 8 .write [] []] run0).modTh c0 fun t => { t with wait := .fence 8, st := .waitRemote }
     (s.th c0).wait = .fence 8 ∧ (∀ o ∈ (s.req c0.id).ops, 8 ≤ o.id) ∧ (s.th c0).st = .waitRemote) ∧
    (let s := onTh fun t => { t with fenceDue := true, deferred := some (0x14, far1), hctl := 0x8000000000000100 }
     (s.th c0).wait = .none ∧ (s.th c0).fenceDue = true ∧ (s.th c0).st = .running ∧ (s.core k0).sleep = .awake ∧
      (s.th c0).deferred = some (0x14, far1) ∧ bitOf (s.th c0).hctl 63 = true) := by
  decide +kernel

/-- The counter reads 0: met at 0 and by half the range, not at the next value; a deadline at issue and one after it. -/
theorem witness_Waits : Ready run0 c0 ∧ Clear run0 c0 [.x 1, .x 2, .x 0, .p 7] ∧
    (issuedAt run0.now (run0.core c0.coreId)).ywaitHolds 0 0xFF = true ∧
    (issuedAt 0 ((onCore fun k => { k with topkFree := 9 }).core k0)).ywaitHolds 0 0x80 = false ∧ Ready (onCore fun k => { k with topkFree := 9 }) c0 ∧
    (run0.counter c0.id 0 - (((xs 0x80000001 0).th c0).xr 1).extractLsb' 0 32).toNat < 2 ^ 31 ∧
    2 ^ 31 ≤ (run0.counter c0.id 63 - (((xs 0x80000000 0).th c0).xr 1).extractLsb' 0 32).toNat ∧
    (run0.th c0).dbPending = false ∧ (0 : Nat) + (((xs 0 0).th c0).xr 2).toNat ≤ run0.now ∧ run0.now < (((xs 0 1).th c0).xr 2).toNat ∧
    Ready (onTh fun t => { t with dbPending := true }) c0 ∧ (((xs 0xFFFC0 0).th c0).xr 1).toNat % 64 = 0 := by
  unfold Ready Clear; decide +kernel

theorem witness_CountersAndSystemRegisters : Ready (xs 5 0) c0 ∧ Clear (xs 5 0) c0 [.x 3, .x 1] := by
  unfold Ready Clear; decide +kernel

/-- A misaligned offset, one below 0 and one past the end, and an address of no endpoint. -/
theorem witness_HandlerEntryAndReturn : Ready (onTh fun t => { t with hctl := 0x8000000000000010 }) c0 ∧ legalWord 0 = false ∧
    bitOf ((onTh fun t => { t with hctl := 0x8000000000000010 }).th c0).hctl 63 = true ∧ Ready (xs 4 0xFFFFF) c0 ∧
    bitOf ((xs 4 0xFFFFF).th c0).hctl 63 = false ∧ (xs 4 0).mod.replay = none ∧ Clear (xs 4 0xFFFFF) c0 [.x 1, .x 2] ∧
    ((((xs 4 0xFFFFF).th c0).xr 1).toInt + (0 : BitVec 32).toInt) % 8 ≠ 0 ∧
    ((((xs 4 0xFFFFF).th c0).xr 1).toInt + (-5 : BitVec 32).toInt) < 0 ∧ 2 ^ 20 ≤ ((((xs 4 0xFFFFF).th c0).xr 2).toInt + (1 : BitVec 32).toInt) ∧
    (xs 0 0).addressOk (BitVec.ofNat 64 (24 * 2 ^ 49)) .load 8 8 0 false = false ∧
    bitOf ((run0.setReg (coreBlock k0 + 0x20) 0x8000000000000000).reg (coreBlock k0 + 0x20)) 63 = true := by
  unfold Ready Clear; decide +kernel

theorem witness_StallInPlace :
    let s := onCore fun k => { k with longOps := [long1 (.x 1 5) []] }
    Ready s c0 ∧ ∃ d ∈ [Dep.x 3, .x 1, .x 2], (s.core k0).isPending 0 d = true := by
  unfold Ready; decide +kernel

theorem witness_ThreadEvents :
    (let s := (onTh fun t => { t with wait := .held (someOp 0 .write [] [piece1]) 3, st := .waitRemote })
     (s.th c0).wait = .held (someOp 0 .write [] [piece1]) 3 ∧ (s.th c0).st = .waitRemote ∧ s.mayEnter c0 3 = true ∧
      (withOps (List.replicate 16 (someOp 0 .write [flight1] [])) s).mayEnter c0 3 = false) ∧
    OpKind.waits (.load 1 8 false) = true ∧ OpKind.waits .write = false ∧
    run0.absent c0.coreId = false ∧ run0.coreAsleep c0.coreId = false ∧ (1 : BitVec 8).getLsbD 0 = true ∧ (1 : BitVec 8).getLsbD 7 = false ∧
    ((onTh fun t => { t with stopReq := true }).th c0).stopReq = true ∧
    ((onTh fun t => { t with stopReq := true }).th c0).fenceDue = false ∧ (after run0).provisional = false ∧
    (((after run0).modTh c0 fun t => { t with wait := .doorbell (some 5) }).th c0).wait.deadline = some 5 ∧
    Wait.deadline (.doorbell (some (2 ^ 64 - 1))) = some (2 ^ 64 - 1) ∧ Wait.deadline (.counter 0 0 (some (2 ^ 64))) = some (2 ^ 64) := by
  decide +kernel

/-- The patrol scrub at the last lane, and a bank turn that performs a write at the last bytes of a lane. -/
theorem witness_ScratchpadTurns :
    (let s := State.reset.modCore k0 fun k => { k with writebacks := [(15, 32768)], spadErr := [(36 * 32767, 1)] }
     SpadOnly k0 s ∧ (∀ b, b < 16 → b ≠ 15 → (s.core k0).writebacks.get 0 b = 0) ∧ (s.core k0).writebacks.get 0 (15 : Fin 16).val = 32767 + 1 ∧
      LaneReads k0 s 32767) ∧
    (let s := (State.reset.modCore k0 fun k => { k with scrubLeft := 1, scrubLane := 32767 }).setReg 0x10090 4
     SpadOnly k0 s ∧ LaneReads k0 s 32767 ∧ (s.core k0).writebacks = [] ∧ 0 < (s.core k0).scrubLeft ∧ s.scrubRuns k0 = true ∧
      (s.core k0).scrubLane = 32767 ∧ bitOf (s.reg 0x10090) 2 = true) ∧
    (State.reset.core k0).quiet = true ∧ State.reset.absent k0 = false ∧ State.reset.coreAsleep k0 = false ∧
    (let tx : Txn := ⟨4, { pkt 4 with data := data32 }, 0, 2, [], 0, none, false⟩
     let s := (State.reset.modCore k0 fun k => { k with inbound := [⟨.txn 4, .write 221 [7, 8, 9]⟩] }).modEnd 0 fun e => { e with txns := [tx] }
     (s.core k0).inbound = [⟨.txn 4, .write 221 [7, 8, 9]⟩] ∧ (221 / 32 % 16 + (s.core k0).cycle) % 8 = 6 ∧ (s.core k0).served = (s.core k0).cycle ∧
      221 % 32 + 3 ≤ 32 ∧ (s.endp k0.tower.val).txns.find? (fun x => decide (x.id = 4)) = some tx ∧ 1 < tx.left ∧ tx.pkt.db = false) ∧
    (let s := State.reset.modCore k0 fun k => { k with outbound := [⟨.txn 4, .read 255 1 0⟩] }
     (s.core k0).outbound = [⟨.txn 4, .read 255 1 0⟩] ∧ (255 / 32 % 16 + (s.core k0).cycle) % 8 = 7 ∧ 255 % 32 + 1 ≤ 32) := by
  unfold SpadOnly LaneReads; decide +kernel

/-- 63 and 64 packets without a response for C0, the first SEQ about to wrap. -/
def busy (n : Nat) : State :=
  run0.modReq 0 fun r => { r with
    ops := [someOp 7 .write ((List.range n).map fun i => { flight1 with seq := 65536 - n + i }) [], someOp 8 .write [] [piece1]]
    nextOp := 9, seqs := [(22, 65535)] }

/-- A packet unanswered for 2 microseconds and a bound of 100. -/
def oneFlight : State := withOps [someOp 8 .write [flight1] []] run0

theorem witness_PacketsSentAgainAndLost :
    towerCtx (0 : BitVec 16).toNat = some c0 ∧
    (∀ n ∈ [63, 64], ((busy n).req 0).ops.find? (fun q => decide (q.id = 8)) = some (someOp 8 .write [] [piece1]) ∧
      (busy n).unanswered 0 ((busy n).pieceDest 0 piece1) = n) ∧
    oneFlight.flightOf 0 22 5 = some (someOp 8 .write [flight1] [], flight1) ∧ oneFlight.resends 0 flight1 = true ∧
    ((oneFlight.req 0).ops.map RemoteOp.id).Nodup ∧ (oneFlight.th c0).deferred = none ∧ oneFlight.responseAtHand 0 22 5 = false ∧
    (oneFlight.modEnd 0 fun e => { e with landed := [⟨{ pkt 0x41 with srcCtx := 0, seq := 5, addr := far1 }, 22, 0, none⟩] }).responseAtHand 0 22 5 = true ∧
    (let s := withOps [someOp 8 .put [{ flight1 with piece := { piece1 with op := 4, len := 33 } }] [{ piece1 with op := 4, len := 33 }]] run0
     s.unanswered 0 (s.pieceDest 0 { piece1 with op := 4, len := 33 }) < 64 ∧ (s.flightOf 0 22 5).isSome = true ∧
      s.resends 0 { flight1 with piece := { piece1 with op := 4, len := 33 } } = true) ∧
    ((onTh fun t => { t with deferred := some (1, 0) }).th c0).deferred = some (1, 0) := by
  decide +kernel

/-- The reset state with every plane and fibre pair ACTIVE. -/
def lit0 : State := { State.reset with planes := (List.range 40).map fun i => (i, .active) }
def tr1 : Transit := ⟨pkt 2, 0, 22, none⟩
def lane1 : LaneId := .base 0 22 0
def onLane (f : LaneState → LaneState) : State := lit0.modLane lane1.key f
def fifo1 : FifoPkt := { tr := ⟨pkt 0x41, 0, 22, none⟩, ready := 1599, drained := 0 }
/-- A request for module 1, whose route names fibre pair 23, waits at C0 for an ACTIVE pair. -/
def rerouted : State :=
  { lit0 with planes := (List.range 40).map fun i => (i, if i = 36 then .retired else .active) }.setReg 0x12008 0x8000000000800000
def tr2 : Transit := ⟨{ pkt 2 with addr := BitVec.ofNat 64 (2 ^ 54 + 22 * 2 ^ 49) }, 22, 48, none⟩

theorem witness_PacketFlow :
    (let s := lit0.modEnd 0 fun e => { e with staged := [tr1] }
     s.lanes = [] ∧ (s.placeable 0 ((s.endp 0).staged.filter fun t => decide (t.dest = (22 : Fin 49).val))).isSome = true) ∧
    (let s := lit0.modEnd 21 fun e => { e with staged := [{ tr2 with dest := 47 }] }
     s.fibreOpen 23 = true ∧ (s.placeable 21 ((s.endp 21).staged.filter fun t => decide (t.dest = (47 : Fin 49).val))).isSome = true) ∧
    (let s := { rerouted with mod := { rerouted.mod with job := { rerouted.mod.job with live := [0, 0, 0, 0, 0, 0, 2] } } }.setReg 0x10808 4
     let s := s.modEnd 22 fun e => { e with staged := [tr2] }
     s.fibreOpen 20 = false ∧ s.nextHop 22 tr2.pkt = (21, some 23) ∧
      ((s.endp 22).staged.filter fun t => decide (t.dest = (48 : Fin 49).val)).find?
        (fun t => decide ((s.nextHop 22 t.pkt).1 ≠ (48 : Fin 49).val)) = some tr2) ∧
    (∀ n ∈ [0, 128], let s := onLane fun l => { l with txq := [tr1], sentReq := n }
      (s.ln lane1.key).txq = [tr1] ∧ s.laneUsable lane1.key = true ∧ (s.ln lane1.key).standby = false ∧ (tr1.pkt.flits ≤ s.credits lane1.key tr1.pkt ↔ n = 0)) ∧
    (lit0.endp 22).slotDone ≤ 0 ∧ (lit0.endp 22).inReset = false ∧ lit0.granted 22 0 0 1 = false ∧
    (let s := onLane fun l => { l with fifoRsp := [fifo1] }
     s.lanes.length = 1 ∧ laneDst lane1.key = 22 ∧ isExt lane1.key = false ∧ s.granted 22 (0 % 64) (laneSrc lane1.key) (lanePlane lane1.key) = true ∧
      (s.ln lane1.key).fifoReq = [] ∧ (s.ln lane1.key).fifoRsp = [fifo1] ∧ fifo1.drained = 0 ∧ fifo1.tr.pkt.data = [] ∧ fifo1.ready < 1600 * (0 + 1) ∧
      (s.ln lane1.key).drainEnd ≤ 1600 * 0) := by
  decide +kernel

/-- A request of C0's own context 0 at the last bytes of C0's SRAM. -/
def own1 (op sub off : Nat) (data : List Byte) : Packet :=
  { pkt op with sub := sub, addr := BitVec.ofNat 64 (22 * 2 ^ 49 + off), data := data, operand := 0x20 }

theorem witness_RequestsPerformed :
    (State.reset.endp 22).inReset = false ∧ (State.reset.endp 22).landed = [] ∧ (State.reset.endp 22).txns = [] ∧
    (∀ p ∈ [own1 2 3 0x7FFFF8 [], own1 4 0 0x7FFFE0 data32, own1 1 3 0x7FFFF8 [], own1 5 0 0x7FFFE0 [], own1 3 0 0x7FFFF8 []],
      p.srcModule = State.reset.moduleId ∧ p.srcCtx / 2048 = (22 : Endpoint).val ∧ gaModule p.addr = State.reset.moduleId ∧
      gaEndpoint p.addr = (22 : Endpoint).val ∧ p.ken = false) ∧
    0x7FFFF8 + (own1 2 3 0x7FFFF8 []).size = 2 ^ 23 ∧ gaOffset (own1 2 3 0x7FFFF8 []).addr = 0x7FFFF8 ∧
    (own1 5 0 0x7FFFE0 []).getBytes ≤ 32 ∧ atomicSize (own1 3 0 0x7FFFF8 []).func ≤ 8 := by
  decide +kernel

/-- An answer of C0 to SEQ 5 of context 0. -/
def answer1 (op sub : Nat) : Packet := { pkt op with sub := sub, srcCtx := 0, seq := 5, addr := far1, data := if op = 0x44 then data32 else [] }
/-- Context 0 with one operation, its thread waiting for it. -/
def asked (kind : OpKind) : State :=
  (withOps [someOp 8 kind [flight1] []] run0).modTh c0 fun t => { t with wait := .answer 8, st := .waitRemote }
def window1 : Window := { srcModule := 0, srcCtx := 0, srcInc := 0, high := 5, seen := [(5, .written)], last := 0 }
def windowed : State := State.reset.modEnd 22 fun e => { e with windows := [window1] }

theorem witness_Responses :
    (∀ k ∈ [OpKind.write, .load 31 8 false, .get], let s := asked k
      (s.endp 0).inReset = false ∧ (s.endp 0).landed = [] ∧ s.fillOf 0 22 5 = none ∧ s.oldInc 0 0 = false ∧
      s.flightOf 0 22 5 = some (someOp 8 k [flight1] [], flight1) ∧ ((s.req 0).ops.map RemoteOp.id).Nodup ∧
      (s.th c0).wait = .answer 8 ∧ (s.th c0).st = .waitRemote ∧ (s.th c0).deferred = none) ∧
    (∀ p ∈ [answer1 0x41 0, answer1 0x42 0, answer1 0x42 1, answer1 0x43 3, answer1 0x44 0], p.srcModule = State.reset.moduleId ∧ p.srcCtx = c0.id ∧
      gaEndpoint p.addr ≠ 31 ∧ gaModule p.addr * 32 + gaEndpoint p.addr = 22 ∧ p.seq = 5 ∧ p.srcInc = 0) ∧
    reservedOp (pkt 0).op = true ∧ reservedOp (pkt 255).op = true ∧
    (let p := { pkt 2 with srcCtx := 0, seq := 5 }
     (windowed.endp 22).windows = [window1] ∧ p.srcModule = windowed.moduleId ∧ p.srcCtx / 2048 < 22 ∧ gaModule p.addr = 0 ∧ gaEndpoint p.addr = 22 ∧
      window1.srcModule = p.srcModule ∧ window1.srcInc = p.srcInc ∧ window1.expired windowed.now = false ∧ window1.high = p.seq ∧
      window1.seenOf p.seq = some .written) := by
  decide +kernel

def gather1 : Gather := { dstModule := 1, fibre := 23, packets := [pkt 2, pkt 0x41], first := 7 }

/-- RUNNING, with a package whose DOMAIN is 1. -/
def domain1 : State :=
  { lit0 with mod := { lit0.mod with job := { lit0.mod.job with live := [0, 0, 0, 0, 0, 0, 2] } } }.setReg 0x10808 3

theorem witness_GatewaysMulticast :
    (let s := State.reset.modEnd 21 fun e => { e with frames := [gather1], frameNo := 2 ^ 32 - 1 }
     (s.endp (16 + (5 : Fin 6).val)).frames.find? (fun g => decide (g.dstModule = 1) && decide (g.fibre = 4 * (5 : Fin 6).val + (3 : Fin 4).val)) = some gather1) ∧
    ({ frame1 with packets := 2 } : Frame).packets ≠ frame1.body.length ∧ (lit0.endp 16).inReset = false ∧ frame1.flits = (pkt 2).flits ∧
    (pkt 2).isRequest = true ∧ gaModule (pkt 2).addr = domain1.moduleId ∧ homeOf (pkt 2).addr ≠ 16 ∧
    domain1.domainOpen = true ∧ (domain1.endp 16).inReset = false ∧
    (let x : BitVec 16 := 23 * 2048 + 1023
     22 ≤ x.toNat / 2048 ∧ State.reset.isContext x.toNat = true ∧ (pkt 2).ken = false ∧ (pkt 2).size = 8 ∧
      (∀ e, e < 24 → State.reset.addressOk (BitVec.ofNat 64 (e * 2 ^ 49 + 0x1F001FFF8)) .store 8 8 23 false = true) ∧
      (∀ e ∈ [22, 23], State.reset.addressOk (BitVec.ofNat 64 (e * 2 ^ 49 + 0x7FFFE0)) .bulk data32.length 32 23 false = true ∧
        State.reset.counterOk (BitVec.ofNat 64 (e * 2 ^ 49 + 0x7FFFE0)) (e * 2048) = true)) := by
  decide +kernel

/-- No lane of the pair is idle while every one is busy; a flit that says what the last one said; one with a changed DOWN; a flit on its way. -/
theorem witness_LinkFlitsStandby :
    (let s := { State.reset with sentLinks := [(48, { LinkSide.none with sent := some (State.reset.linkFlit 1 0 0) })] }
     (s.sentLinks.get LinkSide.none 48).sent = some (s.linkFlit 1 0 0) ∧ (∀ p, p < 16 → s.idleLane (baseLane 1 0 p) = false)) ∧
    (lit0.sentLinks.get LinkSide.none 48).sent ≠ some (lit0.linkFlit 1 0 0) ∧
    (lit0.linkLane (pairLanes 1 0) (fun k => decide (lanePlane k / 8 = 0))).isSome = true ∧
    ((lit0.linkFlit 1 0 0).down = 0 ∧ ({ lit0.linkFlit 1 0 0 with down := 1 } : LinkFlit).down ≠ (lit0.linkFlit 1 0 0).down) ∧
    (lit0.extLinks.get ExtSide.none 95).sent = none ∧ (21 : Endpoint).val = 16 + (23 : Fin 24).val / 4 ∧
    (lit0.linkLane (pairLanes 0 (24 + 23)) (fun k => decide (extNo k / 8 = 3))).isSome = true ∧
    (let w : LinkWay := ⟨linkF, baseLane 0 1 0, 3000⟩
     let s := { lit0 with sentLinks := [(2, { LinkSide.none with way := [w] })] }
     linkF.src ≠ linkF.dst ∧ (s.sentLinks.get LinkSide.none ((linkF.src.val * 24 + linkF.dst.val) * 2 + linkF.half.val)).way = [w] ∧
      isExt w.lane = false ∧ (s.ln w.lane).failed = false ∧ (s.ln w.lane).resync = none ∧ (s.endp 1).inReset = false) ∧
    (lit0.sentLinks.get LinkSide.none 2).way = [] ∧ State.reset.laneUsable lane1.key = false ∧
    (∀ p, p < 16 → (State.reset.ln (baseLane 1 0 p)).init = .idle ∧ (State.reset.ln (baseLane 1 0 p)).txq = []) ∧
    (∀ j, j < 32 → (State.reset.ln (extLane 23 j)).init = .idle ∧ (State.reset.ln (extLane 23 j)).txq = []) ∧
    bitOf (lit0.reg 0x14000) 0 = true ∧ (lit0.ln lane1.key).txq = [] ∧ (lit0.ln lane1.key).standby = false ∧ lit0.laneUsable lane1.key = true ∧
    (let s := onLane fun l => { l with txq := [tr1], standby := true }
     (s.ln lane1.key).txq ≠ [] ∧ (s.ln lane1.key).standby = true ∧ s.laneUsable lane1.key = true) := by
  decide +kernel

/-- A first and a second start within 1 ms (one of the earlier ones lies 1 ms back), and a third. -/
theorem witness_LaneFailures :
    (let s := { lit0 with now := 1000000 }.modLane lane1.key fun l => { l with resyncTimes := [0, 1] }
     (s.ln lane1.key).failed = false ∧ (s.ln lane1.key).resync = none ∧
      ((s.ln lane1.key).resyncTimes.filter fun x => decide (s.now < x + 1000000)).length = 1) ∧
    (let s := onLane fun l => { l with resyncTimes := [0, 1] }
     ((s.ln lane1.key).resyncTimes.filter fun x => decide (s.now < x + 1000000)).length = 2) ∧
    ((onLane fun l => { l with resync := some 1000 }).ln lane1.key).resync = some 1000 ∧
    ((lit0.modLane (peerLane lane1.key) fun l => { l with init := .asked }).ln (peerLane lane1.key)).init = .asked ∧
    (lit0.ln lane1.key).standby = false ∧ State.reset.pairUsable 22 0 = false := by
  decide +kernel

def bay1 (st : BayState) : Bay := { Bay.none with st := st, latched := true }
/-- Every cartridge SERVING, every path lit. -/
def lightOn : State :=
  { lit0 with light := { Light.reset with bays := (List.range 7).map fun b => (b, bay1 .serving), lit := (List.range 6).map fun b => (b, some 0) } }

/-- Seven planes of the sixteen, eight ACTIVE ones remaining. -/
theorem witness_PlanesAndFibrePairs :
    (let s := lit0.setReg 0x14010 10240
     s.epoch = none ∧ (s.reg 0x14010).toNat % 1024 = 0 ∧ s.now + 10000 ≤ (s.reg 0x14010).toNat ∧
      (∀ i, i < 16 → (0xFF : BitVec 16).getLsbD i = true → s.plane i = .active) ∧
      8 + ((List.range 16).filter fun i => (0xFF : BitVec 16).getLsbD i).length ≤ ((List.range 16).filter fun i => decide (s.plane i = .active)).length) ∧
    (let s := ({ State.reset with planes := (List.range 40).map fun i => (i, .locked) }.setReg 0x17058 10240).setReg 0x14010 10240
     (∀ i, i < 16 → s.plane i = .locked) ∧ s.fepoch = none ∧ (s.reg 0x17058).toNat % 1024 = 0 ∧ s.now + 10000 ≤ (s.reg 0x17058).toNat ∧
      (∀ i, i < 24 → s.plane (16 + i) = .locked)) ∧
    (∀ i, i < 24 → lit0.plane (16 + i) = .active) ∧
    (let s := lit0.setPlane 15 .closing
     s.plane (15 : Fin 16).val = .closing ∧ s.planeEmpty 15 = true) ∧
    (let s := lit0.setPlane 39 .closing
     s.plane (16 + (23 : Fin 24).val) = .closing ∧ s.planeEmpty 39 = true) ∧
    (let s := { lightOn.setPlane 15 .retired with
        selfOk := (List.range 24).map fun d => (d * 16 + 15, true), light := { lightOn.light with common := [(15, .locked)] } }.setReg 0x17048 0xF
     s.plane 15 = .retired ∧ (∀ d, d < 24 → d ≠ 23 → s.selfOk.get false (d * 16 + 15) = true) ∧ s.lit 15 = true ∧ s.ringsLocked 15 = true ∧
      s.light.calBusy ≠ some 15) ∧
    (let s := { lit0.setPlane 0 .opening with epoch := some ⟨10240, 2, 1, false⟩ }
     s.plane 0 = .opening ∧ s.lateLanes 0 = [] ∧ s.epoch = some ⟨10240, 2, 1, false⟩ ∧
      baseLane 22 0 0 ∈ (s.modLane (baseLane 0 22 0) fun l => { l with init := .asked }).lateLanes 0) ∧
    (List.replicate 256 1023).length = 256 := by
  decide +kernel

/-- The bay of CB1 in state `st`, CB6 READY after a MATCH of it. -/
def bays1 (st : BayState) : State :=
  { lit0 with light := { Light.reset with bays := [(1, bay1 st), (6, { bay1 .ready with followed := some 1 })] } }.setReg 0x17048 0xF

theorem witness_Cartridges :
    (∀ st ∈ [BayState.empty, .dark, .failed, .warming, .ready, .serving, .matching], ((bays1 st).bay (1 : Fin 7).val).st = st ∧
      ((bays1 st).bay 1).latched = true) ∧
    (State.reset.bay 0).latched = false ∧ ((bays1 .ready).bay (6 : Fin 16).val).st = .ready ∧ (lightOn.setReg 0x17048 0).feeder 0 = 6 ∧
    ((lightOn.setReg 0x17048 0xF).bay 5).st = .serving ∧ (lightOn.setReg 0x17048 0xF).feeder 5 = 5 ∧
    (let s := { bays1 .serving with planes := [] }
     s.light.switching = none ∧ (s.bay 6).st = .ready ∧ (s.bay 6).followed = some (1 : Fin 16).val ∧ s.field 0x17048 3 0 = 15 ∧
      s.pathClear 1 = true) ∧
    (lightOn.bay 6).st ≠ .ready ∧
    (let s := { lightOn with light := { lightOn.light with switching := some (5, true) } }
     s.light.switching = some (5, true)) ∧
    (let r : Ring := { Ring.off with st := .acquiring }
     let s := { lightOn with light := { lightOn.light with acquiring := pathOf 0, rings := [(0, r)] } }
     s.light.acquiring ≠ [] ∧ s.light.acquiring.contains (lanePlaneIx (0 / 2)) = true ∧ (s.ring 0).st = .acquiring) ∧
    (let s := { bays1 .serving with light := { (bays1 .serving).light with fading := [1] } }.setReg 0x17048 0x1F
     s.light.fading = [1] ∧ bitOf (s.reg 0x17048) 4 = true ∧ s.light.proc = none ∧ s.spareReady = true) := by
  decide +kernel

/-- A line at 2 dB and at 6 dB below its commissioning value; an offset at the scheduling threshold and one above it. -/
theorem witness_LightWatched :
    (let s := lightOn.setReg 0x17048 0xF
     s.light.lit.get none (bayOf (39 : Fin 40).val) = some 0 ∧ s.light.commission.get none (39 * 32 + (31 : Fin 32).val) = none ∧
      (s.bay (s.feeder (bayOf 39))).st = .serving) ∧
    (let s := { lightOn with light := { lightOn.light with commission := [(39 * 32 + 31, some (100, 0))] } }
     s.light.commission.get none (39 * 32 + 31) = some (100, 0) ∧ (20 : Int) ≤ 100 - 80 ∧ (100 : Int) - 81 < 20 ∧ (60 : Int) ≤ 100 - 40) ∧
    (let r : Ring := { Ring.off with st := .locked, slope := 1600 }
     let s := ({ lightOn with light := { lightOn.light with rings := [(ringKey lane1 true, r)] } }.setReg 0x17050 0x501).setReg 0x17048 0xF
     (s.ring (ringKey lane1 true)).st = .locked ∧ s.lit (lanePlaneIx lane1.key) = true ∧ lit0.lit (lanePlaneIx lane1.key) = false ∧
      24 < (-25 : Int).natAbs ∧ (24 : Int).natAbs ≤ 24 ∧ s.plane (lanePlaneIx lane1.key) = .active ∧ isExt lane1.key = false ∧
      laneSrc lane1.key ≠ laneDst lane1.key ∧ (23 : Fin 32).val ≠ laneLine lane1 ∧
      s.field 0x17050 15 8 * r.slope.natAbs < 800 * (-11 : Int).natAbs ∧ 800 * (10 : Int).natAbs ≤ s.field 0x17050 15 8 * r.slope.natAbs) ∧
    (let r : Ring := { Ring.off with st := .acquiring, toneOk := true, steady := some 0 }
     let s := { lightOn with now := 100000, light := { lightOn.light with rings := [(ringKey lane1 true, r)] } }
     (s.ring (ringKey lane1 true)).st = .acquiring ∧ (s.ring (ringKey lane1 true)).steady = some 0 ∧ 0 + 100000 ≤ s.now) ∧
    (∀ ep ∈ [none, some ⟨10240, 1, 1, false⟩],
      let s := { lit0 with light := { lit0.light with drift := [0] }, epoch := ep }.setReg 0x17050 1
      bitOf (s.reg 0x17050) 0 = true ∧ s.light.calBusy = none ∧ s.light.drift = [0] ∧ s.plane 0 = .active ∧ (s.calHeld 0 true = ep.isSome)) ∧
    (∀ ep ∈ [none, some ⟨10240, 1, 1, false⟩],
      let s := { lightOn.setPlane 39 .retired with light := { lightOn.light with calBusy := some 39, common := [(39, .locked)] }, fepoch := ep }.setReg 0x17048 0xF
      s.light.calBusy = some (39 : Fin 40).val ∧ s.plane 39 = .retired ∧ s.lit 39 = true ∧ s.ringsLocked 39 = true ∧ s.fepoch = ep ∧ s.now < 2 ^ 60) ∧
    lit0.plane (16 + (23 : Fin 24).val) = .active := by
  decide +kernel

def chans (f : Channel → Channel) : State := State.reset.modChan 0 fun c => f { c with st := .ready }
def req1 (a : ChanAct) : ChanReq := { act := a, joined := 0, txn := none }
/-- The first hashed word of channel 0, and a Combine entry for it that C0's request opened. -/
def comb1 : Combine :=
  { word := 0, opened := 3, owner := 0x16, fetched := true, ready := false, value := 5,
    waiting := [{ pkt := { pkt 3 with sub := 0, operand := 9 }, by' := 22, acked := true }], closing := false, outside := false }

theorem witness_ChannelSlots :
    (State.reset.chan 0).slotDone ≤ 0 ∧ (State.reset.endp 8).inReset = false ∧ (State.reset.chan 0).st = .untrained ∧
    (let s := chans id
     (s.chan 0).st = .ready ∧ s.slotOwner 0 0 = 0x16 ∧ s.slotRequest 0 0x16 0 = none ∧ s.engineWork 0 0x16 = none ∧ s.slotOwner 0 63 = 0xFE ∧ (s.chan 0).scrubFix = [] ∧
      bitOf ((s.setReg 0x10090 0).reg 0x10090) 0 = false) ∧
    (let s := chans fun c => { c with queues := [(0x16, [req1 (.write 0 256)])] }
     s.slotRequest 0 (s.slotOwner 0 (0 % 64)) (16 * 0) = some (0x16, req1 (.write 0 256)) ∧ s.lpddrErr = [] ∧ s.slotAccess 0 0 ≠ [] ∧ (∃ b, b < 32 ∧ b ∈ s.slotBanks 0) ∧
      ∃ b, b < 32 ∧ b ∉ s.slotBanks 0) ∧
    (comb1.fetched = true ∧ comb1.ready = false ∧ ({ comb1 with fetched := false, closing := true } : Combine).closing = true) ∧
    (let h := hashChannel 0
     (∀ n ∈ [7, 8], let s := ({ State.reset with channels := [(h, { Channel.reset with queues := [(0x16, List.replicate n (req1 (.opening 0)))] })] }.modEnd
        (8 + h / 36) fun e => { e with combine := [comb1] })
       (s.endp (8 + h / 36)).combine = [comb1] ∧ ((s.chan h).queues.get [] comb1.owner).length = n ∧ s.lpddrErr = []) ∧
     ∀ a ∈ [ChanAct.opening 0, .combineWrite 0],
       let s := { State.reset with channels := [(h, { Channel.reset with st := .ready, queues := [(0x16, [req1 a])] })] }
       s.slotRequest h (s.slotOwner h (0 % 64)) (16 * 0) = some (0x16, req1 a) ∧ (s.chan h).slotDone ≤ 0 ∧ (s.chan h).st = .ready ∧
         s.slotOwner h (0 % 64) ≠ 0xFE) := by
  decide +kernel

def vreq1 : VaultReq := { txn := 4, pos := 0, act := .write 0 data32, ready := 0 }
def unit1 : PortUnit := ⟨.txn 4, .read 0 32 0⟩
def vaulted (f : Vault → Vault) : State := State.reset.modVault 0 f

theorem witness_VaultTurns :
    State.reset.absent k0 = false ∧ (State.reset.endp 0).inReset = false ∧ (State.reset.endp 0).disabled = false ∧
    ({ State.reset with part1920 := true }.absent ⟨0, 15⟩ = true) ∧ State.reset.groupFor 0 0 0 = some 0 ∧
    (let s := vaulted fun v => { v with coreReqs := [(0, [vreq1])], down := [(1, [unit1])], sideReqs := [(0, [vreq1])] }
     (s.vault 0).coreReqs.get [] 0 = [vreq1] ∧ (s.vault 0).down.get [] 0 = [] ∧ (s.core k0).up = [] ∧ (s.vault 0).coreDone.get 0 0 ≤ 0 ∧
      data32.length = 32 ∧ vaultBank 0 = (0 : Fin 512).val ∧ vreq1.ready ≤ (4 * 0 + 4) / 5 ∧ (s.vault 0).down.get [] 1 = [unit1] ∧
      (s.core ⟨0, 1⟩).inbound.length < 64 ∧ (s.groupFor 0 1 0).isSome = true ∧ (s.vault 0).sideReqs.get [] 0 = [vreq1] ∧
      (s.vault 0).sideReqs.get [] 1 = [] ∧ (s.vault 0).sideDone.get 0 4 ≤ 0) ∧
    (let s := vaulted fun v => { v with coreReqs := [(0, [{ vreq1 with act := .read 31 1 }])] }
     (s.vault 0).coreReqs.get [] 0 = [{ vreq1 with act := .read 31 1 }] ∧ vaultBank 31 = (0 : Fin 512).val ∧ (s.vault 0).err = [] ∧
      (s.core k0).bond = [] ∧ s.groupFor 0 0 0 = some 0) ∧
    (let s := (vaulted fun v => { v with down := [(0, [unit1])] }).modCore k0 fun c => { c with bond := List.replicate 4 (0, .unit unit1) }
     (s.vault 0).down.get [] 0 = [unit1] ∧ (s.vault 0).coreReqs.get [] 0 = [] ∧ ((s.core k0).bond.filter fun u => decide (u.1 = 0)).length = 4) := by
  decide +kernel

def fill1 : Fill := { line := 5, ctx := 0, flight := none, waiting := [], dropped := false, data := some (List.replicate 256 7), install := none }
def group1 (spares marks : Nat) : BondGroup :=
  { failed := List.range marks, marks := (List.range marks).map fun b => (b, 0), spares := spares, retired := false, retiring := false
    recent := List.replicate 8 [287], tested := [] }

/-- No spare left, and two marks standing; the group beside already retired. -/
theorem witness_CacheAndBonds :
    (let s := vaulted fun v => { v with fills := [fill1] }
     (s.vault (0 : Fin 8).val).fills = [fill1] ∧ fill1.data.isSome = true ∧ (s.vault 0).fillWait = [] ∧ s.vaultSets 0 ≠ 0) ∧
    (∀ g ∈ [group1 6 1, group1 7 1, group1 0 2, group1 8 0], let s := vaulted fun v => { v with bonds := [(510, { g with retired := true }), (511, g)] }
      (s.vault 0).bonds.get BondGroup.intact (511 : Fin 512).val = g ∧ g.retired = false ∧ (287 : Fin 288).val ∉ g.failed ∧
      ((s.vault 0).bonds.get BondGroup.intact (511 ^^^ 1)).retired = true ∧ 8 ≤ (g.recent.filter fun l => l.contains (287 : Fin 288).val).length ∧
      (286 : Fin 288).val ∉ g.tested ∧ (g.recent.filter fun l => l.contains (286 : Fin 288).val).length < 8 ∧
      ∀ m ∈ g.marks, m.1 ≠ (287 : Fin 288).val) ∧
    ({ group1 0 0 with retiring := true } : BondGroup).retiring = true ∧
    (let f := { fill1 with install := some (80, 1) }
     let r : VaultReq := { txn := 0, pos := 0, act := .fill 0 data32 5, ready := 0 }
     let s := vaulted fun v => { v with fills := [f], sideReqs := [(0, [r])] }
     (s.vault 0).sideReqs.get [] 0 = [r] ∧ (s.vault 0).fills = [f] ∧ f.line = 5 ∧ f.waiting = [] ∧ (s.vault 0).fillWait = [] ∧
      ((0 : Fin 512).val + 0) % 8 < 4 ∧ vaultBank 0 = (0 : Fin 512).val ∧ (s.vault 0).sideDone.get 0 0 ≤ 0 ∧ (s.endp 0).disabled = false) ∧
    bitOf (State.reset.reg (endBlock 0 + 0x30)) 15 = false := by
  decide +kernel

def thermal (f : Thermal → Thermal) : State :=
  { State.reset with power := { State.reset.power with thermal := f State.reset.power.thermal } }

/-- 100, 97 and 115 °C at the hottest node of the junctions; errors of 4 and 10 °C and just beyond. -/
theorem witness_ThermalModel :
    (thermal id).power.thermal.conservative = false ∧ (thermal id).power.thermal.shutdown = false ∧ (thermal id).power.thermal.steps = 0 ∧
    (thermal fun t => { t with steps := 32 }).power.thermal.steps = 32 ∧
    (∀ x ∈ [1552, 1553, 1599, 1600, 1839, 1840], (thermal fun t => { t with temps := [(135, x)] }).power.thermal.temp 135 = x) ∧
    (let s := thermal fun t => { t with diodes := (List.range 4).map fun i => (28 + i, some 500) }
     (∀ i, i < 4 → s.power.thermal.diodes.get none (4 * (7 : Fin 8).val + i) = some 500) ∧ (661 - 500 : Int).natAbs = 161 ∧ (564 - 500 : Int).natAbs = 64) ∧
    (let s := thermal fun t => { t with smallSince := some 7, conservative := true, inletAt := some 3 }
     s.power.thermal.smallSince = some 7 ∧ s.power.thermal.conservative = true ∧ bitOf (s.reg 0x1A000) 0 = false ∧ s.power.thermal.inletAt = some 3) ∧
    bitOf ((State.reset.setReg 0x1A000 1).reg 0x1A000) 0 = true := by
  decide +kernel

def ladder (f : Ladder → Ladder) : State :=
  { State.reset with power := { State.reset.power with
      ladder := f State.reset.power.ladder, feedA := { Feed.off with st := .active }, feedB := { Feed.off with st := .active } } }

theorem witness_ClockLadder :
    (ladder id).coreAsleep k0 = false ∧ (ladder id).absent k0 = false ∧ State.reset.feedCeiling = none ∧ (ladder id).feedCeiling = some 22 ∧
    (ladder id).power.ladder.stretch = none ∧ (ladder id).power.ladder.change = none ∧
    (let s := ladder fun l => { l with point := 20, target := 20 }
     (lowest (s.limits 0 0 0)).1 < s.power.ladder.point) ∧ (lowest ((ladder id).limits 0 0 0)).1 = (ladder id).power.ladder.point ∧
    (let s := ladder fun l => { l with point := 14, upSince := some 0 }
     s.power.ladder.point < (lowest (s.limits 0 0 0)).1 ∧ s.power.ladder.upSince = some 0 ∧ s.now < 0 + 1000000 ∧
      0 + 1000000 ≤ ({ s with now := 1000000 } : State).now) ∧
    (∀ c ∈ [false, true], ∀ n ∈ [14, 16, 22], let s := ladder fun l => { l with change := some ⟨n, 10240, c, [], false⟩ }
      s.power.ladder.change = some ⟨n, 10240, c, [], false⟩ ∧ s.power.ladder.point = 15) ∧
    (∃ x ∈ (thermal fun t => { t with conservative := true }).ceilings.zip State.reset.ceilings, x.1 < x.2) ∧
    (let near := { (ladder id).power.feedA with mv := pointMv 16 }
     near.st = .active ∧ apart near.mv (pointMv 16) ≤ 5 ∧ 5 < apart (ladder id).power.feedA.mv (pointMv 16)) ∧
    (let s := thermal fun t => { t with conservative := true }
     s.power.ladder.point < 16 ∧ s.ceiling < 16) ∧
    (let s := ladder fun l => { l with stretched := [(127, 1000)] }
     pointMhz s.power.ladder.point - 1000 < 16 * s.power.ladder.stretched.get 0 (7 * 16 + 15)) := by
  decide +kernel

def follower (f : TimeSync → TimeSync) : State :=
  { State.reset with power := { State.reset.power with time := f State.reset.power.time } }.setReg 0x10410 2

theorem witness_ConstantanTime :
    lightOn.lit 15 = true ∧ lightOn.plane 15 ≠ .retired ∧ State.reset.lit 39 = false ∧ (lightOn.setReg 0x17048 0xF).lit 39 = true ∧
    ((lightOn.setReg 0x17048 0xF).timeLane 23).isSome = true ∧
    (follower id).timeRole = 2 ∧ State.reset.timeRole ≠ 2 ∧ (follower id).power.time.heard = [] ∧ flit1.locked = true ∧
    ({ flit1 with stratum := 13 } : TimeFlit).stratum < 14 ∧ flit1.echoTx ≠ 0 ∧ (follower fun t => { t with good := 15 }).power.time.good = 15 ∧
    (follower id).jobState = 0 ∧ (domain1.setReg 0x10410 2).jobState ≠ 0 ∧
    (follower fun t => { t with lastMeasure := some 5 }).power.time.lastMeasure = some 5 ∧
    (let s := follower fun t => { t with blind := [(23, some 9)] }
     s.power.time.blind.get none (23 : Endpoint).val = some 9 ∧ s.mod.blind.get none 23 = none ∧ s.resetReqs = []) ∧
    State.reset.power.refLost = none ∧ State.reset.power.refSeen = true := by
  decide +kernel

def clkTower (v : Word) (f : Ladder → Ladder) : State :=
  { State.reset with power := { State.reset.power with ladder := f State.reset.power.ladder } }.setReg (endBlock 0 + 0x208) v

theorem witness_RowSleepTowerDeep :
    (∀ (c : Fin 256) (u : Fin 8), ((State.reset.core ⟨0, c⟩).th u).st = .stopped) ∧ ((run0.core k0).th 0).st = .running ∧
    (let s := clkTower 1 fun l => l
     bitOf (s.reg (endBlock 0 + 0x208)) 0 = true ∧ s.power.ladder.waking.get none 0 = none) ∧
    (let s := clkTower 0x100000000 fun l => l
     bitOf (s.reg (endBlock 0 + 0x208)) 32 = true ∧ s.power.ladder.waking.get none 16 = none) ∧
    (let s := clkTower 1 fun l => { l with waking := [(0, some 7), (16, some 7)] }
     s.power.ladder.waking.get none 0 = some 7 ∧ s.power.ladder.waking.get none 16 = some 7) ∧
    (let s := State.reset.setReg (coreBlock k0 + 8) 0x100
     (s.core k0).sleep = .awake ∧ (s.core k0).idle = true ∧ bitOf (s.reg (coreBlock k0 + 8)) 8 = true ∧ s.coreAsleep k0 = false ∧
      s.absent k0 = false ∧ (s.core k0).inReset = false) ∧
    (let s := (State.reset.modTh c0 fun t => { t with st := .ready }).modCore k0 fun k => { k with sleep := .waking 9 }
     (s.core k0).sleep = .waking 9 ∧ (s.core k0).running? = none ∧
      nextAfter (s.core k0).ranLast (fun v => decide (((s.core k0).th v).st = .ready)) = some 0) := by
  decide +kernel

def fed (a b : FeedMode) (f : Feed → Feed) : State :=
  { State.reset with power := { State.reset.power with feedA := f { Feed.off with st := a }, feedB := f { Feed.off with st := b } } }
def sound1 : StatusRead := { answered := true, fault := false, off := false, input := true }
def vaux1 (failedA failedB : Bool) : State :=
  { State.reset with power := { State.reset.power with
      vauxA := { Vaux.good with failed := failedA, connected := !failedA }, vauxB := { Vaux.good with failed := failedB, connected := !failedB } } }

/-- 25 mV off and 26; 10.8 V, 13.2 V, 15 V and just beyond each. -/
theorem witness_PowerFeeds :
    (fed .active .active id).power.feedA.st = .active ∧ (fed .active .active id).power.feedB.st = .active ∧
    (fed .active .active id).power.ladder.setMv = 800 ∧ apart 775 800 = 25 ∧ apart 825 800 = 25 ∧ apart 774 800 = 26 ∧
    (let s := fed .active .active fun f => { f with voltSince := some 0 }
     s.power.feedA.voltSince = some 0 ∧ 0 + 20000 ≤ max ({ s with now := 20000 } : State).now ((s.marks.get 0 2 / 1000 + 1) * 1000) ∧
      s.power.feedA.readmitted = none ∧ (s.feed true).readmitted = none) ∧
    sound1.answered = true ∧ sound1.fault = false ∧ ({ sound1 with fault := true } : StatusRead).fault = true ∧
    (∀ b, let s := fed .failed .failed fun f => { f with clearSince := some 3 }
      (s.feed b).clearSince = some 3 ∧ (s.feed b).st = .failed ∧ s.power.thermal.shutdown = false) ∧
    (∀ b, ((fed .trial .trial fun f => { f with trialSince := some 3 }).feed b).trialSince = some 3) ∧
    (fed .latched .latched id).power.feedA.st = .latched ∧ (fed .latched .latched id).power.feedB.st = .latched ∧
    ((vaux1 false false).vaux false).failed = false ∧ ((vaux1 false true).vaux true).failed = true ∧ ((vaux1 true true).vaux false).failed = true ∧
    ((vaux1 false true).vaux true).connected = false ∧ 10000 ≤ ((vaux1 false true).vaux true).mv ∧
    ({ State.reset with power := { State.reset.power with on := false } } : State).power.on = false ∧ State.reset.power.on = true := by
  decide +kernel

def jobSt (n : Word) (f : Job → Job) : State :=
  { State.reset with mod := { State.reset.mod with job := f State.reset.mod.job } }.setReg 0x10808 n
def latch1 : JobLatch := { addr := 0, len := 512, digest := [0, 0, 0, 0], at' := 0, host := true }
/-- A package whose section 3 has one entry, at home on core 0 of tower 0, with no alternate. -/
def place1 : List Byte :=
  List.replicate 12 0 ++ [1, 0, 0, 0] ++ List.replicate 48 0 ++ [3, 0, 0, 0, 1, 0, 0, 0, 0, 1, 0, 0, 64, 0, 0, 0] ++ List.replicate 176 0 ++
  List.replicate 10 0 ++ [0xFF] ++ List.replicate 53 0
def role (r : Nat) (s : State) : State := { s with mod := { s.mod with pair := { s.mod.pair with role := r } } }

/-- A package of all zeros is refused; witness_JobLifecycle_passes shows one that passes. -/
theorem witness_JobLifecycle :
    State.reset.jobState = 0 ∧ Port.isHost .hostA = true ∧ Port.isHost .management = false ∧ (role 2 State.reset).mod.pair.role = 2 ∧
    State.reset.mod.pair.role ≠ 2 ∧ bitOf (State.reset.reg 0x10010) 63 = false ∧ bitOf ((State.reset.setReg 0x10010 0x8000000000000000).reg 0x10010) 63 = true ∧
    (∀ n ∈ [511, 512, 0x800000, 0x800001], (State.reset.setReg 0x10818 (BitVec.ofNat 64 n)).field 0x10818 23 0 = n) ∧
    (let s := jobSt 1 fun j => { j with latch := some latch1 }
     s.mod.job.latch = some latch1 ∧ s.jobState = 1 ∧ s.badLine 0 512 = none ∧ (s.jobCheck (s.hashedLines 0 512) latch1.bytes).isSome = true ∧
      ((s.modChan (hashChannel 256) fun c => { c with st := .failed }).badLine 0 512 = some 1)) ∧
    (jobSt 2 id).jobState = 2 ∧ State.reset.coreEnabled k0.tower.val k0.core.val = true ∧
    (let s := jobSt 3 fun j => { j with start := some 20480, live := List.replicate 32 0xFF }
     s.jobState = 3 ∧ s.mod.job.start = some 20480) ∧
    (jobSt 4 id).jobState = 4 ∧ (jobSt 5 id).jobState = 5 ∧ (jobSt 5 id).jobQuiet = true ∧
    (let s := jobSt 4 fun j => { j with live := place1 }
     s.mod.job.moves = [] ∧ s.jobState = 4 ∧ (0 : BitVec 32).toNat < secCount s.mod.job.live 3 ∧ s.moveTarget (placeAt s.mod.job.live 0) 0 = true ∧
      s.moveTarget (placeAt s.mod.job.live 0) 1 = false ∧ s.moveTarget (placeAt s.mod.job.live 0) 2 = true) ∧
    (let s := jobSt 4 fun j => { j with moves := [⟨0, 2 ^ 32 - 1, 0⟩] }
     s.mod.job.moves = [⟨0, 2 ^ 32 - 1, 0⟩] ∧ (∀ i, i < 8 → (s.vault i).err = []) ∧ (s.endp 0).disabled = false) := by
  decide +kernel

theorem witness_JobLifecycle_awake : ∀ k : CoreId, (jobSt 2 id).coreAsleep k = false :=
  fun ⟨t, c⟩ => by
    have h : ∀ t : Fin 8, (jobSt 2 id).reg (endBlock t.val + 0x208) = 0 := by decide +kernel
    unfold State.coreAsleep bitOf; rw [h t]; simp

theorem witness_Registers :
    (Reg.at? 0x1000).isSome = true ∧ State.reset.readable 0x1000 = true ∧
    (let s := { State.reset with mod := { State.reset.mod with ports := { State.reset.mod.ports with latches := [(Port.latchKey .hostA 0x1000, some (0x1000, 7))] } } }
     s.latchOf .hostA 0x1000 = some (0x1000, 7) ∧ s.latchOf .hostB 0x1000 = none) ∧
    State.reset.latchOf .hostA 0x1000 = none ∧ (0x1000 : BitVec 24).toNat % 8 = 0 ∧ (0xFFFFFC : BitVec 24).toNat % 8 ≠ 0 ∧
    (∀ o ∈ [0x1000, 0xFFFFF8], (Reg.at? o).isSome = true ↔ o = 0x1000) ∧ ((Reg.at? 0x1000).map fun r => r.place.host) = some false ∧
    ((Reg.at? 0x10000).map fun r => r.place.host) = some false ∧ State.reset.jobState = 0 ∧ (jobSt 1 id).jobState ≠ 0 := by
  decide +kernel

def ports (f : Ports → Ports) : State := { State.reset with mod := { State.reset.mod with ports := f State.reset.mod.ports } }
def hostTxn : Txn := ⟨7, { pkt 2 with addr := BitVec.ofNat 64 (22 * 2 ^ 49 + 2 ^ 48) }, 22, 1, [], 0, none, false⟩
/-- A management image with no body. -/
def image1 (kind : Nat) : List Byte :=
  bytesOf 4 0x5A465731 ++ bytesOf 2 kind ++ bytesOf 6 0 ++ bytesOf 2 3 ++ [0, 0xFF] ++ bytesOf 16 0 ++ sha256 [] ++ bytesOf 64 0 ++
  List.replicate 3284 0
def start (f : Start → Start) : State := { State.reset with mod := { State.reset.mod with start := f State.reset.mod.start } }
/-- Each kind's banks hold images that pass, an image with no body. -/
def imaged (f : Start → Start) : State :=
  start fun x => f { x with banks := (List.range 6).map fun i => (i, ⟨1, image1 (i / 2 + 1), true⟩), stage := 3 }

/-- RUNNING with the host's memory window at its top part. -/
def topHdm : State := jobSt 4 fun j => { j with live := List.replicate 0x34 0 ++ [31] }

theorem witness_HostPorts :
    (∀ a ∈ [0, 2 ^ 36 - 1], State.reset.hdmBase * 2 ^ 36 + (BitVec.ofNat 36 a).toNat / 64 * 64 < hashedLimit) ∧
    (∀ a ∈ [2 ^ 36 - 57344, 2 ^ 36 - 1], hashedLimit ≤ topHdm.hdmBase * 2 ^ 36 + (BitVec.ofNat 36 a).toNat / 64 * 64) ∧
    topHdm.hdmBase * 2 ^ 36 + (BitVec.ofNat 36 (2 ^ 36 - 57345)).toNat / 64 * 64 < hashedLimit ∧
    State.reset.lineBusy true 0 = false ∧ (State.reset.modReq (memStream true 5) (withOp (memOp 0 0 true 5 none))).lineBusy true 0 = true ∧
    (let s := State.reset.modEnd 22 fun e => { e with txns := [hostTxn] }
     (s.endp (if false then 23 else 22)).txns = [hostTxn] ∧ hostTxn.left = 1 ∧
      s.rangeOf (gaEndpoint hostTxn.pkt.addr) (gaOffset hostTxn.pkt.addr) = some (.host 22 0, 2 ^ 48)) ∧
    linkMode 4 1 false = true ∧ linkMode 8 2 true = true ∧ State.reset.mayTrain true = false ∧
    (start fun x => { x with running := [(1, some ⟨[], 0, 0⟩)] } : State).mod.ports.cxlB.perst = true ∧
    (let s := start fun x => { x with running := [(1, some ⟨[], 0, 0⟩)] }
     { s with mod := { s.mod with ports := { s.mod.ports with cxlB := { Cxl.down with perst := false } } } }.mayTrain true = true) ∧
    State.reset.bellTarget (State.reset.reg 0x11100) = false ∧
    (let s := State.reset.setReg (0x11100 + 16 * 63) 0x1000FFFF8
     s.bellTarget (s.reg (0x11100 + 16 * (63 : Fin 64).val)) = true) := by
  decide +kernel

/-- A ring of 16 entries that holds one, or whose EN is 0. -/
def ring1 (f : Start → Start) : State := (((imaged f).setReg 0x11008 0x14).setReg 0x11010 1).setReg 0x11018 0

theorem witness_HostRing :
    bitOf (State.reset.reg 0x11008) 4 = false ∧ bitOf ((ring1 id).reg 0x11008) 4 = true ∧ (15 : BitVec 4).toNat ≠ (ring1 id).field 0x11008 3 0 ∧
    (ring1 id).ringSize = 16 ∧ (15 : BitVec 12).toNat < (ring1 id).ringSize ∧ (ring1 id).field 0x11018 11 0 ≠ (ring1 id).field 0x11010 11 0 ∧
    ((ring1 id).setReg 0x11010 0).field 0x11018 11 0 = ((ring1 id).setReg 0x11010 0).field 0x11010 11 0 ∧
    ((ring1 id).setReg 0x1B000 1).stagingClosed = true ∧ (ring1 id).stagingClosed = false ∧
    (ring1 id).slotTaken 0 = true ∧ (ring1 id).slotTaken 6 = true ∧ (ring1 id).slotTaken 5 = false := by
  decide +kernel

theorem witness_HostRing_passes : (ring1 id).stageReason (5 : BitVec 32).toNat (3412 : BitVec 32).toNat (image1 3) true true = none ∧
    (ring1 id).stageReason 5 3412 (image1 2) true true = some 2 ∧ (ring1 id).stageReason 5 3411 (image1 3) true true = some 3 ∧
    (ring1 id).stageReason 5 3412 (image1 3) false true = some 5 ∧ (ring1 id).stageReason 5 3412 (image1 3) true false = some 6 ∧
    ((ring1 id).setReg 0x1B020 0x40000).stageReason 5 3412 (image1 3) true true = some 4 := by
  decide +kernel

theorem witness_ElvefCommands :
    (State.reset.power.thermal.window0 = true ∧ State.reset.power.thermal.window1 = true) ∧
    ((Reg.at? 0x1000).map fun r => r.place.mgmt) = some false ∧ ((Reg.at? 0x10808).map fun r => (r.place.mgmt, decide (r ≠ .jobCtrl))) = some (false, true) ∧
    (thermal fun t => { t with shutdown := true }).power.thermal.shutdown = true ∧ State.reset.power.feedA.st = .off ∧ State.reset.power.feedB.st = .off ∧
    State.reset.activateRefusal 1 false = some 5 ∧ (imaged id).activateRefusal 8 false = some 4 ∧ (imaged id).activateRefusal 7 false = none ∧
    (imaged id).activateRefusal 2 true = some 4 ∧ (imaged id).activateRefusal 1 true = none ∧ kindsOf (7 : BitVec 8).toNat = [1, 2, 3] ∧
    State.reset.resetBusy = false ∧ State.reset.unitThere 1 2047 = true ∧ State.reset.unitThere 1 2048 = false ∧ State.reset.resetReqs = [] ∧
    ({ State.reset with mod := { State.reset.mod with resets := [⟨1, 0, 0x0400, 0, some 0, false⟩] } } : State).resetBusy = true ∧
    bitOf (State.reset.reg 0x10010) 62 = false ∧ bitOf ((State.reset.setReg 0x10010 0x4000000000000000).reg 0x10010) 62 = true ∧
    State.reset.jobState = 0 ∧ State.reset.mod.pair.role ≠ 1 ∧ (role 1 State.reset).mod.pair.role = 1 := by
  decide +kernel

theorem witness_ElvefCommands_banks :
    (imaged id).bankPasses 1 ((imaged id).activeBank 1) = true ∧ (start id).bankPasses 1 ((start id).activeBank 1) = false ∧
    (imaged fun x => { x with act := some ⟨1, 0, 0⟩ }).mod.start.act = some ⟨1, 0, 0⟩ ∧ State.reset.mod.start.act = none ∧
    State.reset.mod.start.up0 = true ∧ State.reset.mod.start.up1 = true ∧ (start fun x => { x with primary1 := true }).mod.start.primary1 = true := by
  decide +kernel

theorem witness_ServicePorts :
    State.reset.mod.ports.i3c.address = none ∧ (ports fun p => { p with i3c := { p.i3c with address := some 8 } }).mod.ports.i3c.address ≠ none ∧
    State.reset.jobState = 0 ∧ (jobSt 1 id).jobState ≠ 0 ∧ bitOf (State.reset.reg 0x10010) 63 = false ∧
    bitOf ((State.reset.setReg 0x10010 0x8000000000000000).reg 0x10010) 63 = true ∧ hashPort 2048 ≠ 8 := by
  decide +kernel

/-- A member with a link to module 1, the link up, its last message heard from it. -/
def member (r : Nat) (w : Word) (f : Pair → Pair) : State :=
  let s := State.reset.setReg 0x10018 (BitVec.ofNat 64 (2 ^ 54 + 2 ^ 48)) |>.setReg 0x10060 w
  { s with mod := { s.mod with pair := f { s.mod.pair with role := r, up := true, heard := some msg1 } } }
def msg2 : PartnerMsg := { msg1 with seq := 32768, term := 7, role := 0 }

theorem witness_Pairing :
    State.reset.managed = true ∧ (start fun x => { x with up0 := false }).managed = false ∧
    State.reset.linkOn = false ∧ (member 0 0 id).linkOn = true ∧ (member 0 0 id).power.on = true ∧ State.reset.mod.pair.up = false ∧
    (member 0 0 id).mod.pair.up = true ∧ (member 2 0x4000000000000000 id).standby = true ∧
    (member 1 0 fun p => { p with releasedAt := some 5 }).mod.pair.releasedAt = some 5 ∧
    (let s := (member 2 0xC000000100000000 fun p => { p with healthySince := some 3, heard := some { msg1 with role := 0, flags := 1 } })
     let s := { s with mod := { s.mod with start := { s.mod.start with holding := true } } }
     s.noteHealthy.mod.pair.healthySince = some 3 ∧ s.field 0x10060 47 32 ≠ 0) ∧
    (∀ n ∈ [1, 2, 3], (member 0 0 id).accepts { msg2 with type := n } = true ∧ (member 1 0 id).accepts { msg2 with type := n } = true ∧
      (member 2 0x4000000000000000 id).accepts { msg2 with type := n } = true ∧ (member 1 0 id).yields { msg2 with type := n } = true ∧
      (member 0 0 id).accepts { msg2 with type := n, seq := 32769 } = false ∧ State.reset.accepts { msg2 with type := n } = false) ∧
    ({ msg2 with flags := 2 } : PartnerMsg).flags / 2 % 2 = 1 ∧ (member 0 0 fun p => { p with heard := some msg2 }).mod.pair.heard = some msg2 ∧
    State.reset.jobState = 0 ∧ (jobSt 1 id).jobState ≠ 0 ∧
    (member 1 0 fun p => { p with heard := some { msg1 with role := 1, flags := 1 } }).partnerReady = true ∧ State.reset.partnerReady = false := by
  decide +kernel

/-- The management image of the next start, the training image with planes 0 to 7, the test image. -/
theorem witness_StartAndEvidence :
    (start fun x => { x with s0 := false }).power.on = true ∧
    (let s := imaged fun x => { x with stage := 0 }
     s.starting 0 = true ∧ s.power.refLost = none ∧ s.power.refSeen = true ∧ (∀ k ∈ [1, 2, 3], s.field (secImage k) 5 5 = 0) ∧
      s.bankFor 1 = some (0, false) ∧ s.power.thermal.shutdown = false ∧ s.power.feedA.st = .off ∧ s.mod.start.badCopy0 = false) ∧
    (let s := imaged fun x => { x with stage := 0, badCopy0 := true }
     s.starting 0 = true ∧ s.bankFor 1 = some (0, false) ∧ s.mod.start.badCopy0 = true ∧ s.mod.start.badCopy1 = false) ∧
    (let s := imaged fun x => { x with stage := 0, badCopy0 := true, badCopy1 := true }
     s.starting 0 = true ∧ s.mod.start.badCopy0 = true ∧ s.mod.start.badCopy1 = true) ∧
    (State.reset.starting 0 = true ∧ State.reset.bankFor 1 = none ∧ (∀ k ∈ [1, 2, 3], State.reset.field (secImage k) 5 5 = 0)) ∧
    (let s := imaged fun x => { x with stage := 1 }
     let s := { s with
       power := (fed .active .active id).power
       light := { Light.reset with bays := (List.range 7).map fun b => (b, bay1 .dark) } }
     s.starting 1 = true ∧ s.mod.start.holding = false ∧ s.activeFeeds ≠ 0 ∧ s.bankFor 2 = some (0, false) ∧
      8 = ((List.range 16).filter fun p => (0xFF : BitVec 16).getLsbD p && s.lightBays.lit p).length ∧
      7 = ((List.range 16).filter fun p => (0x7F : BitVec 16).getLsbD p && s.lightBays.lit p).length ∧ (∀ c, c < 288 → (s.chan c).st ≠ .failed)) ∧
    (let s := imaged fun x => { x with stage := 2 }
     let s := { s with power := (fed .active .active id).power }
     s.starting 2 = true ∧ s.activeFeeds ≠ 0 ∧ s.bankFor 3 = some (0, false)) ∧
    (let s := start fun x => { x with stage := 1, short := true }
     s.mod.start.short = true ∧ s.mod.start.stopped = false ∧ s.mod.start.holding = false ∧ s.power.on = true ∧ State.reset.mod.start.short = false) ∧
    (let s := { State.reset with power := { State.reset.power with feedA := { State.reset.power.feedA with enabledAt := some 7 } } }
     s.activeFeeds = 0 ∧ s.power.feedA.enabledAt = some 7 ∧ s.power.on = true ∧ s.mod.start.stopped = false ∧ s.mod.start.holding = false ∧
      s.mod.start.stage ≠ 3) := by
  decide +kernel

/-- A hold; a start that runs; an image that has proved itself; the last signature index. -/
theorem witness_StartAndEvidence_more :
    ((start fun x => { x with holding := true }).mod.start.holding = true ∧ State.reset.power.thermal.shutdown = false ∧ State.reset.power.feedA.st = .off) ∧
    State.reset.mod.start.stopped = false ∧ State.reset.mod.start.holding = false ∧ State.reset.mod.start.stage ≠ 3 ∧
    Port.isHost .hostA = true ∧ Port.isHost .management = false ∧
    (let s := imaged fun x => { x with running := [(0, some ⟨[], 0, 65535⟩), (2, some ⟨[], 0, 65535⟩), (3, some ⟨[], 0, 65535⟩)] }
     s.mod.start.running.get none ((2 : Fin 3).val + 1) = some ⟨[], 0, 65535⟩ ∧ s.mod.start.fallback.get false 3 = false ∧ s.mod.start.stage = 3 ∧
      s.mod.start.running.get none s.primary = some ⟨[], 0, 65535⟩ ∧ s.mod.start.fallback.get false 1 = false ∧ s.hwFault = none ∧
      s.mod.start.act = none) ∧
    data32.length = 32 ∧ State.reset.canSign true = false ∧
    (let s := start fun x => { x with ots1 := { Ots.reset with next := 2 ^ 30 - 3, reserved := 2 ^ 30 - 1 } }
     s.canSign true = true ∧ (s.ots true).next + 1 ≠ 2 ^ 30 - 1) ∧
    State.reset.mod.job.record = none ∧ (jobSt 4 fun j => { j with record := some [1] }).mod.job.record = some [1] := by
  decide +kernel

def asking (d u : Nat) : State := { State.reset with resetReqs := [⟨d, u, 0x0400, 5⟩] }
def running1 (d u : Nat) (at' : Option Nat) : State :=
  { State.reset with mod := { State.reset.mod with resets := [⟨d, u, 0x0400, 5, at', false⟩] } }

/-- The last core, tower, row and the whole module; each watched limit at its reset value, and 0. -/
theorem witness_ResetsAndHangs :
    (running1 1 0 (some 7)).resetBusy = true ∧ (running1 1 0 none).resetBusy = false ∧ State.reset.unitThere 1 2047 = true ∧
    State.reset.unitThere 5 24 = false ∧ State.reset.resetReqs = [] ∧ (running1 1 2047 none).dumpWritten 1 2047 = true ∧
    ((running1 1 2047 none).modVault 7 fun v => { v with dumpQ := [(0, [])] }).dumpWritten 1 2047 = false ∧ (∀ d u, (asking d u).inRunning d u = false) ∧
    (2047 : BitVec 16).toNat = (⟨7, 255⟩ : CoreId).index ∧ (∀ d u at', (running1 d u at').mod.resets = [⟨d, u, 0x0400, 5, at', false⟩]) ∧
    State.reset.field 0x10050 63 48 ≠ 0 ∧ State.reset.field 0x10050 47 32 ≠ 0 ∧ State.reset.field 0x10050 31 16 ≠ 0 ∧
    State.reset.field 0x10050 15 0 ≠ 0 ∧ (State.reset.setReg 0x10050 0).field 0x10050 63 48 = 0 ∧
    ((run0.modTh ⟨0, 0, 1⟩ fun t => { t with st := .ready }).core k0).running?.isSome = true ∧
    (((run0.modTh ⟨0, 0, 1⟩ fun t => { t with st := .ready }).core k0).th 1).st = .ready ∧
    (((onTh fun t => { t with st := .waitRemote }).core k0).th 0).st = .waitRemote ∧
    (let s := chans fun c => { c with queues := [(0x16, [req1 (.read 0 32)])] }
     s.ownerQueue 0 0x16 = [req1 (.read 0 32)] ∧ ∃ i, i < 64 ∧ s.slotOwner 0 i = 0x16) ∧
    ((onLane fun l => { l with stalledSince := some 4 }).ln lane1.key).stalledSince = some 4 ∧ 8 ≤ (22 : Endpoint).val := by
  refine ⟨by decide +kernel, by decide +kernel, by decide +kernel, by decide +kernel, rfl, by decide +kernel, by decide +kernel, fun _ _ => rfl,
    by decide, fun _ _ _ => rfl, ?_⟩
  decide +kernel

/-- A package of a witness section (PERIOD 5; tower 2, core 3, thread 4), one image of two words, core 0 with that image, and a staging
region. -/
def witPkg : List Byte :=
  List.replicate 12 0 ++ [4, 0, 0, 0] ++ List.replicate 48 0 ++
  [7, 0, 0, 0, 1, 0, 0, 0, 128, 0, 0, 0, 16, 0, 0, 0, 1, 0, 0, 0, 1, 0, 0, 0, 144, 0, 0, 0, 24, 0, 0, 0] ++
  [2, 0, 0, 0, 1, 0, 0, 0, 168, 0, 0, 0, 32, 0, 0, 0, 8, 0, 0, 0, 1, 0, 0, 0, 200, 0, 0, 0, 16, 0, 0, 0] ++
  [5, 0, 1, 0, 0, 0, 0, 0, 2, 3, 4, 0, 0, 0, 0, 0] ++ (2 :: List.replicate 23 0) ++ List.replicate 32 0 ++
  [31, 4, 0, 0, 44, 1, 0, 0] ++ List.replicate 8 0

/-- That package in force, in a state of the job, with the module as given. -/
def inForce (n : Word) (f : Module → Module) : State :=
  let s := jobSt n fun j => { j with live := witPkg }
  { s with mod := f s.mod }
def ckptSt (n : Word) (f : Ckpt → Ckpt) : State := inForce n fun m => { m with ckpt := f m.ckpt }
def sample1 : Sample := ⟨3, 2047, 2 * 2048 + 3 * 8 + 4, some ⟨5, 6, 7, 8, 9, 10, 11, 3⟩, true, none⟩
def sampling (x : Option Sample) (done : Nat) : State :=
  ((inForce 4 fun m => { m with witness := { m.witness with sample := x } }).setJobWord 0x7FF000 5).setJobWord 0x7FF020 done
/-- A slot whose header names no region and the direct limit 0, with its right CRC. -/
def slot1 : List (Nat × Byte) :=
  [(0, 0x31), (1, 0x53), (2, 0x52), (3, 0x5A), (4, 1)] ++
    ((bytesOf 4 (crc32 ([0x31, 0x53, 0x52, 0x5A, 1] ++ List.replicate 247 0))).zipIdx.map fun b => (0xFC + b.2, b.1))

/-- Every premise of the statement, each with a state of its own: a thread stopped in a RUNNING job at PC 1 of two words, and at PC 2. -/
theorem witness_Recovery :
    (let s := inForce 4 id
     s.jobState = 4 ∧ s.absent k0 = false ∧ s.coreEnabled 0 0 = true ∧ (s.core k0).inReset = false ∧ ((s.core k0).th 7).st = .stopped ∧
      s.mod.replay = none ∧ coreLength s.mod.job.live k0.index = 2 ∧ witPeriod s.mod.job.live = 5 ∧ witCount s.mod.job.live = 1) ∧
    (inForce 4 fun m => { m with replay := some ⟨2047, 7, 5, 1⟩ }).mod.replay = some ⟨2047, 7, 5, 1⟩ ∧
    (let s := sampling none 0
     s.jobState = 4 ∧ s.jobWord 0x7FF000 = 5 ∧ s.mod.witness.lastStep = 0 ∧ s.mod.witness.sample = none) ∧
    (sampling (some sample1) 2).mod.witness.sample = some sample1 ∧
    (sampling (some { sample1 with sentAt := some 5 }) 3).jobWord 0x7FF020 = 3 ∧
    (let s := (ckptSt 4 id).setReg 0x10078 1
     s.ckptOn = true ∧ s.mod.ckpt.running = none ∧ (s.setJobWord 0x7FF008 1).ckptDone < (s.setJobWord 0x7FF008 1).jobWord 0x7FF008) ∧
    (let s := ckptSt 4 fun k => { k with running := some (2 ^ 64, 5) }
     s.mod.ckpt.running = some (2 ^ 64, 5) ∧ s.mod.ckpt.restoring = false ∧ s.ckptFree = false ∧ s.mod.ckpt.bad = false ∧ s.saveDrained = true ∧
      (s.modChan 287 fun c => { c with work := [⟨0x16, .save 0 256 0⟩] }).saveDrained = false) ∧
    (ckptSt 4 fun k => { k with running := some (2 ^ 64, 5), bad := true }).mod.ckpt.bad = true ∧
    (let s := ckptSt 0 fun k => { k with running := some (0, 5), restoring := true }
     s.mod.ckpt.running = some (0, 5) ∧ s.mod.ckpt.restoring = true) ∧
    slotChosen (memOf []) (memOf slot1) = some (memOf slot1) ∧ (memOf slot1).readNat 0x50 4 = 0 ∧ slotChosen (memOf []) (memOf []) = none ∧
    (ckptSt 0 id).ckptFree = true := by decide +kernel

/-- The witness core's tile regions as they are at reset, and with one byte of the expected tile written. -/
theorem witness_Recovery_tiles :
    Mem.read [] 0x70800 16384 = Mem.read [] 0x74800 16384 ∧
    Mem.read (Mem.setByte [] 0x70800 1) 0x70800 16384 ≠ Mem.read (Mem.setByte [] 0x70800 1) 0x74800 16384 := by
  have empty : ∀ n a b, Mem.read [] a n = Mem.read [] b n := fun n => by
    induction n with
    | zero => exact fun _ _ => rfl
    | succ n ih => exact fun a b => by rw [Mem.read, Mem.read, ih (a + 1) (b + 1)]; rfl
  refine ⟨empty _ _ _, fun h => ?_⟩
  rw [Mem.read, Mem.read] at h
  exact absurd (List.cons.inj h).1 (by decide)

/-- A core with a tensor owner may be sampled. -/
theorem witness_Recovery_sampled : 5 ∈ ((sampling none 0).setReg (coreBlock ⟨0, 5⟩ + 0x18) 8).sampled := by
  unfold State.sampled
  rw [List.mem_filter]
  exact ⟨List.mem_range.mpr (by decide), by decide +kernel⟩

def snap1 : Snapshot := ⟨5, [], 7, 3, 2, 0, 0⟩
def snap2 : Snapshot := ⟨10005, [(0x104000, 5)], 7, 3, 2, 0, 0⟩
def dumping (r : Word) (f : DumpEngine → DumpEngine) : State :=
  (inForce 4 fun m => { m with engine := f m.engine }).setReg 0x1C000 r

/-- The last counter of the last core at 2^48 − 1, its window's last entry, each outcome of a boundary, a ring in the hashed region. -/
theorem witness_CountersDumpsUpkeep :
    (let k : CoreId := ⟨7, 255⟩
     let s := (State.reset.setReg (pmcSel k 7) 0x801).setReg (pmcCnt k 7) 0xFFFFFFFFFFFF
     bitOf (s.reg (pmcSel k 7)) 11 = true ∧ eventListed ((s.reg (pmcSel k 7)).field 9 0) = true ∧ s.pmcLive k = true ∧
      s.field (pmcCnt k 7) 47 0 = 2 ^ 48 - 1) ∧
    (let s := State.reset.modCore ⟨7, 255⟩ fun c => { c with pmcArmed := [(7, true)], pmcWindow := [(7, List.replicate 24 (7, 8191))] }
     (s.core ⟨7, 255⟩).pmcArmed.get false 7 = true ∧ ((s.core ⟨7, 255⟩).pmcWindow.get [] 7)[(23 : Fin 24).val]? = some (7, 8191)) ∧
    (bitOf (State.reset.reg 0x1C000) 0 = false ∧ bitOf ((dumping 1 id).reg 0x1C000) 0 = true) ∧
    (dumping 1 id).power.time.skipDump = false ∧
    (let s := dumping 1 id
     { s with power := { s.power with time := { s.power.time with skipDump := true } } }.power.time.skipDump = true) ∧
    (let s := dumping 1 fun e => { e with shadow := some (snap1, snap2) }
     s.mod.engine.shadow = some (snap1, snap2) ∧ s.mod.engine.bad = false ∧ s.recordDrained = true ∧
      (s.modChan 287 fun c => { c with work := [⟨0x16, .record 0 []⟩] }).recordDrained = false) ∧
    (dumping 1 fun e => { e with shadow := some (snap1, snap2), bad := true }).mod.engine.bad = true ∧
    (((dumping 1 id).setReg 0x1C010 2).setReg 0x1C020 1).ringRoom = false ∧ ((dumping 1 id).setReg 0x1C010 2).ringRoom = true ∧
    (dumping 1 id).mod.engine.shadow = none ∧ ((dumping 1 id).setReg 0x1C010 2).field 0x1C010 31 0 ≠ 0 ∧
    ((dumping 0 id).setReg 0x1C008 0x3E000000000000).ringPlaceOk = true ∧ ((dumping 0 id).setReg 0x1C008 0x3E000000000008).ringPlaceOk = false ∧
    { State.reset with power := (fed .active .active id).power }.power.on = true ∧
    bitOf ((State.reset.setReg 0x10090 12).reg 0x10090) 2 = true ∧ bitOf ((State.reset.setReg 0x10090 12).reg 0x10090) 3 = true ∧
    State.reset.coreEnabled 7 255 = true ∧ (thermal fun t => { t with window0 := true }).chipWindow false = true ∧
    State.reset.mod.babbitt.recent = [] ∧ State.reset.mod.babbitt.total = [] := by decide +kernel

/-- The word of an instruction of each of the classes the encoder tells apart by their operands. -/
theorem witness_WordsDecode :
    encodeWord (.add ⟨7, 255, 3⟩ 0 0 0) = some 0x0400000000000000 ∧ encodeWord (.tmma ⟨0, 0, 0⟩ 1 10 11 12 13 0 0xA 80 true true false) = some 0x60052D8D42943000 ∧
    decodeWord ⟨7, 255, 3⟩ 0x0400000000000000 = some (.add ⟨7, 255, 3⟩ 0 0 0) ∧ legalWord 0x0400000000000000 = true := by decide +kernel

/-- A step from the state after reset. -/
theorem witness_StepKeepsMemory :
    State.reset.lpddr.wf = true ∧ State.reset.csram.wf = true ∧ State.reset.pending = [] ∧
    step State.reset = .next { State.reset with now := 20 } := ⟨by decide, by decide, rfl, rfl⟩

/-- An empty queue; and registers that a reset leaves at their Reset column. -/
theorem witness_StepTakesFront :
    State.reset.pending = [] ∧ State.reset.power.time.steer = 0 ∧ State.reset.power.time.slip.natAbs < 1000000 := ⟨rfl, rfl, by decide⟩
theorem witness_ResetValues : 0x10808 ∉ [0x10050, 0x10060, 0x10088, 0x10090, 0x19000] := by decide

end Sys2Proof.Tests
end

