-- ==== Sys2Proof/Tests/Package.lean ====
section
/-!
SUPPORT. A job package that passes every row of the enable check (R222), and the state in which the check finds it: the witness of the
statement about a passing package.
-/
namespace Sys2Proof.Tests
set_option Elab.async false
open Machine

/-! The package: one image of one word, no core with a program, every lane granted in the slot of its number modulo 64, and channel slots
for every owner R216 requires. -/

/-- The bytes of the header, the section table and the image that are not 0. -/
def pkgHead : Tab Byte :=
  [(0, 0x4F), (1, 0x4C), (2, 0x37), (3, 0x4A), (4, 1), (8, 0x20), (9, 0x6A), (10, 2), (12, 4), (0x23, 4), (0x40, 1), (0x44, 1), (0x49, 2),
   (0x4C, 16), (0x50, 2), (0x55, 8), (0x58, 0x20), (0x59, 2), (0x5E, 1)] ++
  [(0x60, 4), (0x64, 24), (0x68, 0x20), (0x69, 2), (0x6A, 1), (0x6D, 0x20), (0x6E, 1), (0x70, 5), (0x74, 0x20), (0x75, 1), (0x78, 0x20),
   (0x79, 0x22), (0x7A, 2), (0x7D, 0x48), (512, 1)]

def slotByte (e slot j : Nat) : Byte := if j % 8 = slot / 8 ∧ j / 2 ≠ e then BitVec.ofNat 8 (2 ^ (slot % 8)) else 0
def ownerByte (i : Nat) : Byte := if i < 8 then BitVec.ofNat 8 i else if i = 8 then 0x16 else if i = 9 then 0x17 else 0xFE

def pkgByte (i : Nat) : Byte :=
  if i < 544 then pkgHead.get 0 i
  else if i < 66080 then (if (i - 544) % 32 = 8 ∨ (i - 544) % 32 = 9 then 0xFF else 0)
  else if i < 139808 then slotByte ((i - 66080) / 3072) ((i - 66080) % 3072 / 48) ((i - 66080) % 48)
  else if i < 158240 then ownerByte ((i - 139808) % 64)
  else 0

def thePkg : List Byte := (List.range 158240).map pkgByte

/-- The number of `n` bytes of the package from `off` on, from its last byte. -/
def natF (off : Nat) : Nat → Nat
  | 0 => 0
  | n + 1 => natF off n + (pkgByte (off + n)).toNat * 256 ^ n

theorem pkgByte_end (i : Nat) (h : 158240 ≤ i) : pkgByte i = 0 := by
  unfold pkgByte
  rw [if_neg (by omega), if_neg (by omega), if_neg (by omega), if_neg (by omega)]

theorem natF_end (off n : Nat) (h : 158240 ≤ off) : natF off n = 0 := by
  induction n with
  | zero => rfl
  | succ n ih => rw [natF, ih, pkgByte_end _ (by omega)]; simp

theorem natF_shift (off n : Nat) : natF off (n + 1) = (pkgByte off).toNat + 256 * natF (off + 1) n := by
  induction n with
  | zero => simp [natF]
  | succ n ih =>
    rw [natF, ih, natF, Nat.mul_add, Nat.pow_succ, show off + (n + 1) = off + 1 + n by omega]
    rw [Nat.add_assoc, Nat.mul_left_comm 256, Nat.mul_comm 256 (256 ^ n)]

/-- What the proofs use of the package: its length and its numbers. -/
def IsPkg (p : List Byte) : Prop := p.length = 158240 ∧ ∀ off n, pkgNat p off n = natF off n

theorem map_range_pkg (m off n : Nat) (p : List Byte) (hp : p = (List.range m).map pkgByte) (hm : ∀ i, m ≤ i → natF i n = 0)
    (h0 : ∀ i, m ≤ i → pkgByte i = 0) : ofBytes ((p.drop off).take n) = natF off n := by
  subst hp
  induction n generalizing off with
  | zero => simp [ofBytes, natF]
  | succ n ih =>
    have hz : ∀ i n, m ≤ i → natF i n = 0 := by
      intro i n hi
      induction n with
      | zero => rfl
      | succ n ih => rw [natF, ih, h0 _ (by omega)]; simp
    by_cases h : off < m
    · have h' : off < ((List.range m).map pkgByte).length := by simpa using h
      rw [List.drop_eq_getElem_cons h', List.take_succ_cons, ofBytes, ih _ (fun i hi => hz i n hi), natF_shift]
      simp
    · rw [hz off _ (by omega), List.drop_eq_nil_of_le (by simp; omega)]
      rfl

theorem thePkg_is : IsPkg thePkg :=
  ⟨by rw [thePkg, List.length_map, List.length_range], fun off n =>
    map_range_pkg 158240 off n _ rfl (fun i h => natF_end i n h) pkgByte_end⟩

variable {p : List Byte} (hp : IsPkg p)
include hp

theorem pkg_sections : pkgSections p = 4 := by rw [pkgSections, hp.2]; decide +kernel

theorem pkg_entry : pkgEntry p = fun i =>
    { type := natF (0x40 + 16 * i) 4, count := natF (0x40 + 16 * i + 4) 4, offset := natF (0x40 + 16 * i + 8) 4
      length := natF (0x40 + 16 * i + 12) 4 } := by
  funext i; simp only [pkgEntry, hp.2]

theorem pkg_table : pkgTable p = [⟨1, 1, 512, 16⟩, ⟨2, 2048, 544, 65536⟩, ⟨4, 24, 66080, 73728⟩, ⟨5, 288, 139808, 18432⟩] := by
  rw [pkgTable, (pkg_sections hp), (pkg_entry hp)]
  decide +kernel

theorem sec1 : pkgSection p 1 = some ⟨1, 1, 512, 16⟩ := by rw [pkgSection, (pkg_table hp)]; rfl
theorem sec2 : pkgSection p 2 = some ⟨2, 2048, 544, 65536⟩ := by rw [pkgSection, (pkg_table hp)]; rfl
theorem sec4 : pkgSection p 4 = some ⟨4, 24, 66080, 73728⟩ := by rw [pkgSection, (pkg_table hp)]; rfl
theorem sec5 : pkgSection p 5 = some ⟨5, 288, 139808, 18432⟩ := by rw [pkgSection, (pkg_table hp)]; rfl
theorem secN (n : Nat) (h : n ∈ [3, 6, 7, 8, 9]) : pkgSection p n = none := by
  rw [pkgSection, (pkg_table hp)]; revert n; decide

theorem count0 (n : Nat) (h : n ∈ [3, 6, 7, 8, 9]) : secCount p n = 0 := by rw [secCount, (secN hp) n h]
theorem nat2 (off n : Nat) : secNat p 2 off n = natF (544 + off) n := by rw [secNat, (sec2 hp), ← hp.2]
theorem nat4 (off n : Nat) : secNat p 4 off n = natF (66080 + off) n := by rw [secNat, (sec4 hp), ← hp.2]
theorem nat5 (off n : Nat) : secNat p 5 off n = natF (139808 + off) n := by rw [secNat, (sec5 hp), ← hp.2]

theorem pkg_images : pkgImages p = [512] := by simp [pkgImages, (sec1 hp), imageOffsets]

omit hp in
theorem firstEntry_none (sect n : Nat) (q : Nat → Bool) (h : ∀ i, i < n → q i = false) : firstEntry sect n q = none := by
  rw [firstEntry, Option.map_eq_none_iff, List.find?_eq_none]
  intro i hi; simp [h i (List.mem_range.mp hi)]

/-! Core entries. -/

omit hp in
theorem core_byte (i k : Nat) (hi : i < 2048) (hk : k < 32) : pkgByte (544 + (32 * i + k)) = if k = 8 ∨ k = 9 then 0xFF else 0 := by
  unfold pkgByte
  rw [if_neg (by omega), if_pos (by omega)]
  have : (544 + (32 * i + k) - 544) % 32 = k := by omega
  rw [this]

omit hp in
theorem core_zero (i : Nat) (hi : i < 2048) (n : Nat) : ∀ k, k + n ≤ 32 → (k + n ≤ 8 ∨ 10 ≤ k) → natF (544 + (32 * i + k)) n = 0 := by
  induction n with
  | zero => intro k _ _; rfl
  | succ n ih =>
    intro k h1 h2
    rw [natF_shift, core_byte i k hi (by omega), if_neg (by omega)]
    have := ih (k + 1) (by omega) (by omega)
    rw [show 544 + (32 * i + k) + 1 = 544 + (32 * i + (k + 1)) by omega, this]; rfl

theorem own_zero (i t : Nat) (hi : i < 2048) (ht : t < 8) : coreOwn p i t = 0 := by
  rw [coreOwn, (nat2 hp)]; exact core_zero i hi 1 t (by omega) (by omega)
theorem pc_zero (i t : Nat) (hi : i < 2048) (ht : t < 8) : corePc p i t = 0 := by
  rw [corePc, (nat2 hp)]
  have := core_zero i hi 2 (16 + 2 * t) (by omega) (by omega)
  rw [← this]; congr 1; omega
theorem start_false (i t : Nat) (hi : i < 2048) : coreStart p i t = false := by
  rw [coreStart, (nat2 hp), core_zero i hi 1 10 (by omega) (by omega)]; simp
theorem image_none (i : Nat) (hi : i < 2048) : coreImage p i = none := by
  have h : secNat p 2 (32 * i + 8) 2 = 0xFFFF := by
    rw [(nat2 hp)]
    rw [natF_shift, natF_shift, core_byte i 8 hi (by omega), show 544 + (32 * i + 8) + 1 = 544 + (32 * i + 9) by omega, core_byte i 9 hi (by omega), natF]
    decide
  rw [coreImage]; simp [h]

omit hp in
theorem any_false (n : Nat) (q : Nat → Bool) (h : ∀ t, t < n → q t = false) : (List.range n).any q = false := by
  rw [List.any_eq_false]; intro t ht; simp [h t (List.mem_range.mp ht)]

/-! Landing grants. -/

omit hp in
theorem grant_byte (e slot j : Nat) (he : e < 24) (hs : slot < 64) (hj : j < 48) :
    pkgByte (66080 + (3072 * e + 48 * slot + j)) = slotByte e slot j := by
  unfold pkgByte
  rw [if_neg (by omega), if_neg (by omega), if_pos (by omega)]
  have h1 : (66080 + (3072 * e + 48 * slot + j) - 66080) / 3072 = e := by omega
  have h2 : (66080 + (3072 * e + 48 * slot + j) - 66080) % 3072 / 48 = slot := by omega
  have h3 : (66080 + (3072 * e + 48 * slot + j) - 66080) % 48 = j := by omega
  rw [h1, h2, h3]

theorem grants (e slot l : Nat) (he : e < 24) (hs : slot < 64) (hl : l < 384) :
    pkgGrants p e slot l = (decide (l % 64 = slot) && decide (l / 16 ≠ e)) := by
  have hb : secNat p 4 (3072 * e + 48 * slot + l / 8) 1 = (slotByte e slot (l / 8)).toNat := by
    rw [(nat4 hp), natF_shift, grant_byte e slot (l / 8) he hs (by omega)]; rfl
  rw [pkgGrants, hb, slotByte]
  have hd : l / 8 / 2 = l / 16 := by omega
  rw [hd]
  have hbit : ∀ a, a < 8 → ∀ b, b < 8 → ((BitVec.ofNat 8 (2 ^ a)).toNat / 2 ^ b % 2 = 1 ↔ a = b) := by decide
  by_cases h1 : l / 16 = e
  · rw [if_neg (by simp [h1])]; simp [h1]
  · by_cases h2 : l / 8 % 8 = slot / 8
    · rw [if_pos ⟨h2, h1⟩]
      have := hbit (slot % 8) (by omega) (l % 8) (by omega)
      simp only [this, h1, ne_eq, not_false_eq_true, decide_true, Bool.and_true, decide_eq_decide]
      omega
    · rw [if_neg (by simp [h2])]
      have : l % 64 ≠ slot := by omega
      simp [this]

/-! The rows. -/

theorem pass30 : row30 p = none := by
  have h1 : headerFinding p = none := by
    have ht : tableFinding p = fun i => if 4 ≤ i then firstOf [(!decide (natF (0x40 + 16 * i) 16 = 0), hdr (0x40 + 16 * i))] else none := by
      funext i
      simp only [tableFinding, (pkg_sections hp), zeros, hp.2]
      by_cases h : 4 ≤ i
      · rw [if_pos h, if_pos h]
      · rw [if_neg h, if_neg h, (pkg_table hp), hp.1, (pkg_entry hp)]
        have : ∀ i, ¬ 4 ≤ i → i = 0 ∨ i = 1 ∨ i = 2 ∨ i = 3 := by omega
        rcases this i h with rfl | rfl | rfl | rfl <;> decide +kernel
    have h4 : ([1, 2, 4, 5].find? fun t => (pkgSection p t).isNone) = none := by simp [(sec1 hp), (sec2 hp), (sec4 hp), (sec5 hp)]
    simp only [headerFinding, ht, h4, (pkg_sections hp), zeros, pkgFlags, pkgPstat, hp.2, hp.1]
    decide +kernel
  have h2 : imageFinding p = none := by
    simp only [imageFinding, (sec1 hp), (pkg_images hp), imageBad, zeros, hp.2]
    decide +kernel
  have h3 : sectionFinding p = none := by
    simp only [sectionFinding, h2, (count0 hp) 3 (by decide), (count0 hp) 6 (by decide), (count0 hp) 7 (by decide), (count0 hp) 8 (by decide), (secN hp) 7 (by decide)]
    rw [firstEntry_none 2]
    · rfl
    · intro i hi
      have hi : i < 2048 := by simpa [secCount, (sec2 hp)] using hi
      rw [any_false 8 _ (fun t ht => by simp [(own_zero hp) i t hi ht]), any_false 8 _ (fun t ht => by simp [(pc_zero hp) i t hi ht])]
      simp [(nat2 hp), core_zero i hi 5 11 (by omega) (by omega)]
  rw [row30, h1, h3]; rfl

theorem pass31 (m : Nat) : row31 p m = none := by
  simp only [row31, (count0 hp) 3 (by decide), (count0 hp) 8 (by decide), pkgVaultDirect, pkgPstat, pstatLen, pkgDump, hp.2]
  have : ∀ q : Nat → Bool, firstEntry 3 0 q = none := fun q => firstEntry_none _ _ _ (by omega)
  rw [this, firstEntry_none 8 0 _ (by omega)]
  decide +kernel

theorem pass32 (m : Nat) : row32 p m = none := by
  have hl : landingSpans p m = [] := by rw [landingSpans, (count0 hp) 3 (by decide)]; rfl
  simp only [row32, hl, (count0 hp) 3 (by decide), (count0 hp) 8 (by decide), pkgPstat, pstatLen, pkgDump, hp.2]
  rw [firstEntry_none 3 0 _ (by omega), firstEntry_none 8 0 _ (by omega)]
  decide +kernel

theorem pass35 (s : State) : row35 s p = none := by
  simp only [row35, (count0 hp) 9 (by decide), (count0 hp) 3 (by decide)]
  rw [firstEntry_none 9 0 _ (by omega), firstEntry_none 3 0 _ (by omega)]; rfl

theorem pass25 : row25 p = none := by
  simp only [row25, (pkg_images hp), hp.2]; decide +kernel

theorem pass26 (s : State) : row26 s p = none := by
  rw [row26]; refine firstEntry_none _ _ _ fun i hi => ?_
  have hi : i < 2048 := by simpa [secCount, (sec2 hp)] using hi
  rw [(image_none hp) i hi, any_false 8 _ (fun t ht => by simp [(own_zero hp) i t hi ht])]; simp

theorem pass29 : row29 p = none := by
  rw [row29]; refine firstEntry_none _ _ _ fun i hi => ?_
  have hi : i < 2048 := by simpa [secCount, (sec2 hp)] using hi
  exact any_false 8 _ fun t _ => by rw [(start_false hp) i t hi]; rfl

theorem not_twice (i b : Nat) (hi : i < 2048) : twice p i b = false := by
  rw [twice, List.filter_eq_nil_iff.mpr]
  · rfl
  · intro t ht; rw [(own_zero hp) i t hi (List.mem_range.mp ht)]; simp

theorem pass22 : row22 p = none := by
  rw [row22]; refine firstEntry_none _ _ _ fun i hi => ?_
  have hi : i < 2048 := by simpa [secCount, (sec2 hp)] using hi
  simp [(not_twice hp) i _ hi]
theorem pass23 : row23 p = none := by
  rw [row23]; refine firstEntry_none _ _ _ fun i hi => ?_
  exact (not_twice hp) i 4 (by simpa [secCount, (sec2 hp)] using hi)
theorem pass21 (s : State) : row21 s p = none := by
  rw [row21, (count0 hp) 3 (by decide)]; exact firstEntry_none _ _ _ (by omega)
theorem pass24 (s : State) : row24 s p = none := by
  rw [row24, (count0 hp) 3 (by decide)]; exact firstEntry_none _ _ _ (by omega)
theorem pass27 (s : State) : row27 s p = none := by
  rw [row27, (count0 hp) 6 (by decide)]; exact firstEntry_none _ _ _ (by omega)
theorem pass28 (s : State) : row28 s p = none := by
  rw [row28, (secN hp) 7 (by decide)]; rfl

theorem pass13 : row13 p = none := by
  rw [row13]; refine firstEntry_none _ _ _ fun i hi => any_false 16 _ fun l hl => ?_
  rw [(grants hp) (i / 64) (i % 64) _ (by omega) (by omega) (by omega)]
  have : (16 * (i / 64) + l) / 16 = i / 64 := by omega
  simp [this]

theorem pass14 : row14 p = none := by
  rw [row14, List.findSome?_eq_none_iff]
  intro e he
  have he : e < 24 := List.mem_range.mp he
  rw [Option.map_eq_none_iff, List.find?_eq_none]
  intro l hl
  have hl : l < 384 := List.mem_range.mp hl
  by_cases h : l / 16 = e
  · simp [h]
  · have : (List.range 64).any (fun slot => pkgGrants p e slot l) = true :=
      List.any_eq_true.mpr ⟨l % 64, List.mem_range.mpr (by omega), by rw [(grants hp) e _ l he (by omega) hl]; simp [h]⟩
    simp [this]

theorem pass11 : row11 p = none := by
  rw [row11]; refine firstEntry_none _ _ _ fun i hi => ?_
  have h6 : ∀ slot, slot < 64 → ((List.range 384).filter fun l => decide (l % 64 = slot)).length = 6 := by decide +kernel
  have hle : ((List.range 384).filter fun l => pkgGrants p (i / 64) (i % 64) l).length ≤ 6 := by
    rw [← h6 (i % 64) (by omega), ← List.countP_eq_length_filter, ← List.countP_eq_length_filter]
    refine List.countP_mono_left fun l hl h => ?_
    rw [(grants hp) _ _ _ (by omega) (by omega) (List.mem_range.mp hl)] at h
    simp only [Bool.and_eq_true, decide_eq_true_eq] at h ⊢
    exact h.1
  have hw : 8 ≤ landingWidth (i / 64) := by unfold landingWidth; split <;> (try split) <;> (try split) <;> omega
  simp only [decide_eq_false_iff_not]; omega

theorem owner_byte (c i : Nat) (hc : c < 288) (hi : i < 64) : secNat p 5 (64 * c + i) 1 = (ownerByte i).toNat := by
  rw [(nat5 hp), natF_shift]; unfold pkgByte
  rw [if_neg (by omega), if_neg (by omega), if_neg (by omega), if_pos (by omega)]
  have : (139808 + (64 * c + i) - 139808) % 64 = i := by omega
  rw [this]; rfl

theorem pass15 : row15 p = none := by
  rw [row15]; refine firstEntry_none _ _ _ fun i hi => ?_
  have := (owner_byte hp) (i / 64) (i % 64) (by omega) (by omega)
  rw [show 64 * (i / 64) + i % 64 = i by omega] at this
  rw [this]
  have h : ∀ k, k < 64 → ownerOk (ownerByte k).toNat = true := by decide
  rw [h _ (by omega)]; rfl

theorem owners (c : Nat) (hc : c < 288) : chanOwners p c = (List.range 64).map fun i => (ownerByte i).toNat := by
  rw [chanOwners]; refine List.map_congr_left fun i hi => ?_
  rw [(owner_byte hp) c i hc (List.mem_range.mp hi)]

theorem pass12 : row12 p = none := by
  rw [row12, Option.map_eq_none_iff, List.find?_eq_none]
  intro c hc; rw [(owners hp) c (List.mem_range.mp hc)]; decide

theorem pass16 (s : State) : row16 s p = none := by
  rw [row16, List.findSome?_eq_none_iff]
  intro c hc
  simp only [(owners hp) c (List.mem_range.mp hc), Option.map_eq_none_iff, List.find?_eq_none]
  have hall : ∀ o ∈ [0, 1, 2, 3, 4, 5, 6, 7, 0x16, 0x17], ((List.range 64).map fun i => (ownerByte i).toNat).contains o = true := by decide
  have hd : pkgDomain p = false := by rw [pkgDomain, pkgFlags, hp.2]; decide +kernel
  intro o ho
  have : o ∈ [0, 1, 2, 3, 4, 5, 6, 7, 0x16, 0x17] := by
    simp only [State.neededOwners, hd, List.mem_append, List.mem_filter, List.mem_range] at ho
    rcases ho with (⟨ho, -⟩ | ho) | ho
    · have : ∀ o, o < 8 → o ∈ [0, 1, 2, 3, 4, 5, 6, 7, 0x16, 0x17] := by decide
      exact this o ho
    · simp at ho
    · simp at ho; rcases ho with rfl | rfl <;> decide
  rw [hall o this]; simp

omit hp

/-! The digest. -/

theorem bytesOf_ofBytes (b0 b1 b2 b3 b4 b5 b6 b7 : Byte) :
    bytesOf 8 (BitVec.ofNat 64 (ofBytes [b0, b1, b2, b3, b4, b5, b6, b7])).toNat = [b0, b1, b2, b3, b4, b5, b6, b7] := by
  have h := b0.isLt; have h1 := b1.isLt; have h2 := b2.isLt; have h3 := b3.isLt
  have h4 := b4.isLt; have h5 := b5.isLt; have h6 := b6.isLt; have h7 := b7.isLt
  simp only [bytesOf, ofBytes, BitVec.toNat_ofNat, List.range, List.range.loop, List.map_cons, List.map_nil, List.cons.injEq, and_true]
  refine ⟨?_, ?_, ?_, ?_, ?_, ?_, ?_, ?_⟩ <;> (apply BitVec.eq_of_toNat_eq; simp only [BitVec.toNat_ofNat]; omega)

theorem digest_words : ∀ bs : List Byte, bs.length = 32 → ∃ ws : List Word, (ws.flatMap fun w => bytesOf 8 w.toNat) = bs := by
  intro bs h
  have key : ∀ n (bs : List Byte), bs.length = 8 * n → ∃ ws : List Word, (ws.flatMap fun w => bytesOf 8 w.toNat) = bs := by
    intro n
    induction n with
    | zero => intro bs h; exact ⟨[], by simp at h; simp [h]⟩
    | succ n ih =>
      intro bs h
      match bs, h with
      | b0 :: b1 :: b2 :: b3 :: b4 :: b5 :: b6 :: b7 :: rest, h =>
        obtain ⟨ws, hw⟩ := ih rest (by simp only [List.length_cons] at h; omega)
        exact ⟨BitVec.ofNat 64 (ofBytes [b0, b1, b2, b3, b4, b5, b6, b7]) :: ws, by
          rw [List.flatMap_cons, bytesOf_ofBytes, hw]; rfl⟩
  exact key 4 bs (by omega)

theorem sha256_length (m : List Byte) : (sha256 m).length = 32 := by
  simp [sha256, bigBytes, bytesOf] <;> rfl

/-! The state: the package written at the start of the hashed region, both feeds ACTIVE, the module's time locked, CHECKING. -/

def ready0 (p : List Byte) (d : List Word) : State :=
  { State.reset with
    lpddr := Mem.write [] 0 p
    power := { (fed .active .active id).power with time := { TimeSync.reset with s2Done := true } }
    mod := { State.reset.mod with job := { State.reset.mod.job with latch := some { addr := 0, len := 158240, digest := d, at' := 0, host := true } } } }.setReg
    0x10808 1

theorem ready0_regs (p : List Byte) (d : List Word) : (ready0 p d).regs = (State.reset.setReg 0x10808 1).regs := by
  simp only [ready0, State.setReg]

theorem read_add (m : Mem) (n : Nat) : ∀ a k, m.read a (n + k) = m.read a n ++ m.read (a + n) k := by
  induction n with
  | zero => intro a k; simp [Mem.read]
  | succ n ih => intro a k; rw [show n + 1 + k = (n + k) + 1 by omega, Mem.read, Mem.read, ih, show a + 1 + n = a + (n + 1) by omega]; rfl

theorem read_lines (m : Mem) (n : Nat) : ((List.range n).flatMap fun i => m.read (0 + 256 * i) 256) = m.read 0 (256 * n) := by
  induction n with
  | zero => rfl
  | succ n ih => rw [List.range_succ, List.flatMap_append, ih, show 256 * (n + 1) = 256 * n + 256 by omega, read_add]; simp

theorem take_read (m : Mem) (n k : Nat) : (m.read 0 (n + k)).take n = m.read 0 n := by
  have hl : ∀ n a, (m.read a n).length = n := by
    intro n; induction n with
    | zero => intro a; rfl
    | succ n ih => intro a; rw [Mem.read, List.length_cons, ih]
  rw [read_add, List.take_append_of_le_length (Nat.le_of_eq (hl _ _).symm), List.take_of_length_le (Nat.le_of_eq (hl _ _))]

theorem read_written (bs : List Byte) (m : Mem) (n : Nat) : ∀ a, a + n = bs.length → (m.write 0 bs).read a n = bs.drop a := by
  induction n with
  | zero => intro a h; rw [List.drop_eq_nil_of_le (by omega)]; rfl
  | succ n ih =>
    intro a h
    rw [Mem.read, ih (a + 1) (by omega), Mem.byte_write, if_pos (by omega), List.drop_eq_getElem_cons (by omega : a < bs.length)]
    simp [List.getElem?_eq_getElem (by omega : a < bs.length)]

theorem lines_of (m : Mem) (bs : List Byte) (n k : Nat) (h : 256 * ((n + 255) / 256) = n + k) (hl : bs.length = n) :
    ((List.range ((n + 255) / 256)).flatMap fun i => (m.write 0 bs).read (0 + 256 * i) 256).take n = bs := by
  rw [read_lines, h, take_read, read_written bs m n 0 (by omega), List.drop_zero]

theorem ready0_lines (p : List Byte) (hl : p.length = 158240) (d : List Word) : (ready0 p d).hashedLines 0 158240 = p := by
  have hb : ∀ off n, (ready0 p d).hashedBytes off n = (Mem.write [] 0 p).read off n := by
    intro off n; have h : ((ready0 p d).endp (hashPort off)).combine = [] := rfl
    have ho : ∀ c u, (ready0 p d).unitOpen c u = false := fun c u => rfl
    rw [State.hashedBytes, if_pos h, State.rawBytes]
    simp only [ho, List.any_eq_true, Bool.false_eq_true, and_false, exists_false, if_false]
    simp only [ready0, State.setReg]
  rw [State.hashedLines]
  simp only [hb]
  exact lines_of [] p 158240 224 (by omega) hl

theorem ready0_badLine (p : List Byte) (d : List Word) : (ready0 p d).badLine 0 158240 = none := by
  rw [State.badLine, List.find?_eq_none]
  intro i hi
  have hi : i < 619 := List.mem_range.mp hi
  have h1 : 256 * i < hashedLimit := by unfold hashedLimit; omega
  have h2 : ∀ c, ((ready0 p d).chan c).st = .untrained := fun c => rfl
  have h3 : ∀ c u, (ready0 p d).unitBad c u = false := fun c u => rfl
  simp [h1, h2, h3]

/-- A package that passes: the check has no finding. -/
theorem witness_JobLifecycle_passes : ∃ (l : JobLatch) (s : State), s.mod.job.latch = some l ∧ s.jobState = 1 ∧
    s.badLine l.addr l.len = none ∧ s.jobCheck (s.hashedLines l.addr l.len) l.bytes = none := by
  obtain ⟨p, hp⟩ : ∃ p, IsPkg p := ⟨thePkg, thePkg_is⟩
  obtain ⟨d, hd⟩ := digest_words (sha256 p) (sha256_length _)
  have hstate : (ready0 p d).jobState = 1 := by
    unfold State.jobState State.field State.reg; rw [ready0_regs]; decide +kernel
  refine ⟨{ addr := 0, len := 158240, digest := d, at' := 0, host := true }, ready0 p d, rfl, hstate, ready0_badLine p d, ?_⟩
  show (ready0 p d).jobCheck ((ready0 p d).hashedLines 0 158240) _ = none
  rw [ready0_lines p hp.1]
  have hbytes : JobLatch.bytes { addr := 0, len := 158240, digest := d, at' := 0, host := true } = sha256 p := hd
  rw [hbytes]
  have hdump : pkgDump p = 0 := by rw [pkgDump, hp.2]; decide +kernel
  have hhdm : pkgHdm p = 0 := by rw [pkgHdm, hp.2]; decide +kernel
  have hpoint : pkgClockPoint p = 0 := by rw [pkgClockPoint, hp.2]; decide +kernel
  have hcap : pkgPowerCap p = 0 := by rw [pkgPowerCap, hp.2]; decide +kernel
  have hsign : pkgSign p = false := by rw [pkgSign, pkgFlags, hp.2]; decide +kernel
  have hlock : (ready0 p d).timeLocked = true := by
    have hr : (ready0 p d).timeRole = 0 := by unfold State.timeRole State.field State.reg; rw [ready0_regs]; decide +kernel
    rw [State.timeLocked, if_neg (by rw [hr]; decide)]; rfl
  have hfeed : (ready0 p d).feedCeiling = some 22 := rfl
  simp only [State.jobCheck, State.checkRows, firstRow, pass30 hp, pass31 hp, pass32 hp, pass35 hp, pass25 hp, pass26 hp, pass29 hp, pass22 hp, pass23 hp, pass21 hp, pass24 hp,
    pass27 hp, pass28 hp, pass13 hp, pass14 hp, pass11 hp, pass15 hp, pass12 hp, pass16 hp, hdump, hhdm, hpoint, hcap, hsign, hlock, hfeed]
  simp

end Sys2Proof.Tests
end

section
/-!
The state after a module reset (O58, O60).
-/
namespace Sys2Proof.Machine
open Sys2Proof

/-- A reset leaves only the kept registers listed, so every other one reads its Reset column (R23). -/
theorem reset_reg_of_not_kept {o : Nat} (h : o ∉ [0x10050, 0x10060, 0x10088, 0x10090, 0x19000]) : State.reset.reg o = resetAt o := by
  simp only [List.mem_cons, List.not_mem_nil, or_false, not_or, ← ne_eq] at h
  obtain ⟨hHang, hPair, hWitness, hBg, hFeed⟩ := h
  have hlisted : State.reset.regs.get 0 o = 0 := by
    simp [State.reset, shippedRegs, hHang.symm, hPair.symm, hWitness.symm, hBg.symm, hFeed.symm]
  rw [State.reg, hlisted]
  exact BitVec.zero_xor

/-- No core is listed after a reset, so every thread is as `Thread.reset` has it (R151). -/
theorem reset_th (c : Ctx) : State.reset.th c = Thread.reset := rfl

/-- MOD_HANG as shipped: 10 ms, 1,000 µs, 100 µs and 10 ms (R492). -/
theorem reset_reg_modHang : State.reset.reg 0x10050 = 0x000A03E80064000A := by decide +kernel

/-- FEED_CTRL as shipped (R385). -/
theorem reset_reg_feedCtrl : State.reset.reg 0x19000 = 0x0000177000000000 := by decide +kernel

theorem reset_reg_jobStatus : State.reset.reg 0x10808 = 0 := by decide +kernel

/-- Settles O58: the job's register and the kept ones by their values, the others by `reset_reg_of_not_kept`. -/
theorem resetValues : Obligations.ResetValues := by
  unfold Obligations.ResetValues State.jobState State.field
  rw [reset_reg_modHang, reset_reg_feedCtrl, reset_reg_jobStatus]
  refine ⟨rfl, by decide, by decide, by decide, by decide, rfl, rfl, rfl, by decide, by decide, by decide, by decide, by decide,
    fun o => reset_reg_of_not_kept, fun c => ?_⟩
  rw [reset_th]
  exact ⟨rfl, rfl, rfl, rfl, fun xr => by simp [Thread.xr, Thread.reset]⟩

/-- Settles O60: nothing is listed in either memory. -/
theorem resetMemory : Obligations.ResetMemory := ⟨Mem.wf_nil, Mem.wf_nil⟩

end Sys2Proof.Machine
end

section
/-!
The invariant of a step (O59): every command takes nothing from the queue but itself, leaves the device's constants as they are and keeps the
LPDDR5X and the control SRAM in canonical form. `State.kept` is what must be kept, and the lemmas of Laws/Kept say of every shared operation what
it does to it; here they are put together, command by command.
-/
namespace Sys2Proof.Machine
open Sys2Proof

/-- From `s` to `t` the queue and the device's constants stay, and the canonical form of both memories is kept. -/
def Conserves (s t : State) : Prop := t.kept.1 = s.kept.1 ∧ (BothOk s.kept.2 → BothOk t.kept.2)

theorem Conserves.of_kept {s t : State} (h : t.kept = s.kept) : Conserves s t := ⟨congrArg _ h, fun hs => h ▸ hs⟩

theorem Conserves.trans {s t u : State} (h : Conserves s t) (h' : Conserves t u) : Conserves s u :=
  ⟨h'.1.trans h.1, fun hs => h'.2 (h.2 hs)⟩

/-- What comes before and leaves all that is kept as it was does not matter. -/
theorem Conserves.after {s s' t : State} (h : Conserves s' t) (hs : s'.kept = s.kept) : Conserves s t := (Conserves.of_kept hs).trans h

/-- What comes afterwards and leaves all that is kept as it was does not matter. -/
theorem Conserves.before {s t u : State} (h : Conserves s t) (hu : u.kept = t.kept) : Conserves s u := h.trans (.of_kept hu)

/-- A fold of operations that each conserve. -/
theorem Conserves.foldl {α : Type} {f : State → α → State} (h : ∀ s x, Conserves s (f s x)) (l : List α) (s : State) :
    Conserves s (l.foldl f s) := does_foldl f l s h

/-- A command's outcome conserves: the next state, where it answers one, is conserved from `s`. -/
inductive Keeps (s : State) : Host.Outcome State Fault Refusal → Prop
  | does {t : State} (h : Conserves s t) : Keeps s (.next t)
  | fault (r : Fault) : Keeps s (.fault r)
  | refused (r : Refusal) : Keeps s (.refused r)

theorem Keeps.next {s t : State} (h : t.kept = s.kept) : Keeps s (.next t) := .does (.of_kept h)

/-- A command that changes nothing. -/
theorem Keeps.stay (s : State) : Keeps s (.next s) := .next rfl

theorem Keeps.ite {s : State} {p : Prop} [Decidable p] {a b : Host.Outcome State Fault Refusal} (ha : Keeps s a) (hb : Keeps s b) :
    Keeps s (if p then a else b) := by
  split
  · exact ha
  · exact hb

/-- An instruction that issues by `State.issue` (R35 to R46): what its body keeps, it keeps. -/
theorem Keeps.issue {s : State} {c : Ctx} {n : Needs} {body : State → State} (h : ∀ s, (body s).kept = s.kept) :
    Keeps s (.next ((s.arrive c).issue c n body)) :=
  .next (by rw [State.issue_kept _ _ _ _ h, State.arrive_kept])

/-- The same for one that goes on to the next instruction of its program. -/
theorem Keeps.issueSeq {s : State} {c : Ctx} {n : Needs} {body : State → State} (h : ∀ s, (body s).kept = s.kept) :
    Keeps s (.next ((s.arrive c).issueSeq c n body)) :=
  .next (by rw [State.issueSeq_kept _ _ _ _ h, State.arrive_kept])

/-! The shapes of instructions: each body changes its core, its thread or its remote engine. -/

theorem scalarNow_keeps (c : Ctx) (xd : XReg) (deps : List Dep) (f : Thread → Word) (s : State) : Keeps s (scalarNow c xd deps f s) :=
  .issueSeq fun s => by simp

theorem mulOp_keeps (f : Word → Word → Word) (c : Ctx) (xd xs1 xs2 : XReg) (s : State) : Keeps s (mulOp f c xd xs1 xs2 s) :=
  .issueSeq fun s => by simp

theorem divOp_keeps (f : Word → Word → Word) (c : Ctx) (xd xs1 xs2 : XReg) (s : State) : Keeps s (divOp f c xd xs1 xs2 s) :=
  .issueSeq fun s => by simp

theorem branchOp_keeps (c : Ctx) (deps : List Dep) (taken : Thread → Bool) (target : BitVec 13) (s : State) :
    Keeps s (branchOp c deps taken target s) :=
  .issue fun s => by simp

theorem loadOp_keeps (size : Nat) (signed : Bool) (c : Ctx) (xd xs : XReg) (imm : BitVec 32) (s : State) :
    Keeps s (loadOp size signed c xd xs imm s) :=
  .issueSeq fun s => by simp

theorem storeOp_keeps (size : Nat) (c : Ctx) (xv xs : XReg) (imm : BitVec 32) (s : State) : Keeps s (storeOp size c xv xs imm s) :=
  .issueSeq fun s => by simp

theorem vecOp_keeps (lat : Nat) (c : Ctx) (pg : PReg) (vd : VReg) (deps : List Dep) (f : Thread → Nat → Lane) (s : State) :
    Keeps s (vecOp lat c pg vd deps f s) :=
  .issueSeq fun s => by simp

theorem reduceOp_keeps (f : Rounding → Lane → Lane → Lane) (idle : Lane) (c : Ctx) (pg : PReg) (vd va : VReg) (s : State) :
    Keeps s (reduceOp f idle c pg vd va s) :=
  .issueSeq fun s => by simp

theorem vloadOp_keeps (kind : LoadKind) (n : Nat) (c : Ctx) (pg : PReg) (vd : VReg) (xs : XReg) (imm : BitVec 32) (s : State) :
    Keeps s (vloadOp kind n c pg vd xs imm s) :=
  .issueSeq fun s => by simp

theorem vstoreOp_keeps (w : Nat) (f : Thread → Lane → Nat) (c : Ctx) (pg : PReg) (vs : VReg) (xs : XReg) (imm : BitVec 32) (s : State) :
    Keeps s (vstoreOp w f c pg vs xs imm s) :=
  .issueSeq fun s => by simp

theorem predNow_keeps (c : Ctx) (pd : PReg) (deps : List Dep) (f : Thread → Word) (s : State) : Keeps s (predNow c pd deps f s) :=
  .issueSeq fun s => by simp

theorem sfuOp_keeps (fn : Config.Sfu) (c : Ctx) (pg : PReg) (vd va : VReg) (s : State) : Keeps s (sfuOp fn c pg vd va s) :=
  .issueSeq fun s => by simp

theorem packOp_keeps (c : Ctx) (vd va : VReg) (xd : XReg) (accepted : Bool) (draws : Nat) (f : Thread → Word → List Byte × Word) (s : State) :
    Keeps s (packOp c vd va xd accepted draws f s) :=
  .issueSeq fun s => by simp

theorem rloadOp_keeps (size : Nat) (signed : Bool) (c : Ctx) (xd xa : XReg) (s : State) : Keeps s (rloadOp size signed c xd xa s) :=
  .issue fun s => by simp

theorem rstoreOp_keeps (size : Nat) (db : Bool) (c : Ctx) (xv xa : XReg) (s : State) : Keeps s (rstoreOp size db c xv xa s) :=
  .issue fun s => by simp

theorem atomicOp_keeps (func size : Nat) (c : Ctx) (xa xs : XReg) (s : State) : Keeps s (atomicOp func size c xa xs s) :=
  .issue fun s => by simp

theorem fetchOp_keeps (func size : Nat) (xc : Option XReg) (c : Ctx) (xd xa xs : XReg) (s : State) : Keeps s (fetchOp func size xc c xd xa xs s) :=
  .issue fun s => by simp

theorem bulkOp_keeps (put : Bool) (c : Ctx) (xa xl xn : XReg) (k : KReg) (ken : Bool) (s : State) : Keeps s (bulkOp put c xa xl xn k ken s) :=
  .issue fun s => by simp

theorem transferOp_keeps (c : Ctx) (t : TReg) (xa : Option XReg) (act : Nat → TensorAct) (s : State) : Keeps s (transferOp c t xa act s) :=
  .issueSeq fun s => by simp

theorem aluReg_keeps (f : Word → Word → Word) (c : Ctx) (xd xs1 xs2 : XReg) (s : State) : Keeps s (aluReg f c xd xs1 xs2 s) :=
  scalarNow_keeps ..

theorem aluImm_keeps (f : Word → Word → Word) (c : Ctx) (xd xs1 : XReg) (imm : BitVec 32) (s : State) : Keeps s (aluImm f c xd xs1 imm s) :=
  scalarNow_keeps ..

theorem vec1_keeps (lat : Nat) (f : Lane → Lane) (c : Ctx) (pg : PReg) (vd va : VReg) (s : State) : Keeps s (vec1 lat f c pg vd va s) :=
  vecOp_keeps ..

theorem vec2_keeps (lat : Nat) (f : Rounding → Lane → Lane → Lane) (c : Ctx) (pg : PReg) (vd va vb : VReg) (s : State) :
    Keeps s (vec2 lat f c pg vd va vb s) :=
  vecOp_keeps ..

/-- Reading the descriptor may stop the core; either way the state it leaves is as good as the one before (R143). -/
theorem rowsOp_keeps (scatter : Bool) (c : Ctx) (pg : PReg) (xd : XReg) (vi : VReg) (xl xdesc : XReg) (s : State) :
    Keeps s (rowsOp scatter c pg xd vi xl xdesc s) := by
  refine .issue fun s' => ?_
  have h := State.spadTry_kept s' c.coreId (low20 (((s.arrive c).th c).xr xdesc)) 32
  dsimp only
  split <;> rename_i heq <;> rw [heq] at h <;> simp [h]

/-! Commands that write memory, or pass on a state beside a result. -/

theorem State.baseFlitOut_kept (s : State) (src dst : Endpoint) (half : Fin 2) : (s.baseFlitOut src dst half).kept = s.kept := by
  unfold State.baseFlitOut
  dsimp only
  (repeat' split) <;> simp

theorem State.fibreFlitOut_kept (s : State) (pair : Fin 24) (half : Fin 4) : (s.fibreFlitOut pair half).kept = s.kept := by
  unfold State.fibreFlitOut
  dsimp only
  split <;> simp

theorem execLinkFlitDue_keeps (src : Endpoint) (dst : LinkTo) (half : Fin 4) (s : State) : Keeps s (execLinkFlitDue src dst half s) := by
  cases dst with
  | base dst =>
    dsimp only [execLinkFlitDue]
    split
    · exact .next (State.baseFlitOut_kept ..)
    · exact .stay s
  | fibre pair => exact .ite (.next (State.fibreFlitOut_kept ..)) (.stay s)

theorem execSpadPatrolScrub_keeps (k : CoreId) (s : State) : Keeps s (execSpadPatrolScrub k s) := by
  unfold execSpadPatrolScrub
  refine .ite (.stay s) ?_
  extract_lets bank t s1 lane s2
  refine .ite (.next (by simp [s1])) ?_
  have h := State.readLane_kept s2 k lane
  split <;> rename_i heq <;> rw [heq] at h <;> exact .next (by simp [h, s2, s1])

theorem execChannelSlot_keeps (c : Fin 288) (n : SlotTurn) (s : State) : Keeps s (execChannelSlot c n s) := by
  unfold execChannelSlot
  extract_lets silent n e s1 access s2 live owner
  refine .ite (.stay s) ?_
  have h2 : s2.kept = s.kept := by simp [s2, s1]
  refine .ite (.next (by simp [h2])) (.ite (.next (by simp [h2])) (.ite (.next (by simp [h2])) ?_))
  split
  · split
    · exact .next (by simp [h2])
    · exact .does (.after (State.performEngine_does ..) h2)
  · exact .ite (.does (.after (State.performSlot_does ..) (by simp [h2]))) (.next (by simp [h2]))

theorem execFeedSense_keeps (mvA mvB ampsA ampsB : Nat) (s : State) : Keeps s (execFeedSense mvA mvB ampsA ampsB s) := by
  unfold execFeedSense
  refine .ite (.fault _) ?_
  extract_lets s1 vA vB hA hB s2 bad a b m devA devB
  have h2 : s2.kept = s.kept := by simp [s2, s1]
  (repeat' split) <;> exact .next (by simp [h2])

theorem execVauxFeedFail_keeps (b : Bool) (mv : Nat) (s : State) : Keeps s (execVauxFeedFail b mv s) := by
  unfold execVauxFeedFail
  refine .ite (.fault _) ?_
  (repeat' split) <;> exact .next (by simp)

theorem execVauxFeedReconnect_keeps (b : Bool) (mv : Nat) (s : State) : Keeps s (execVauxFeedReconnect b mv s) := by
  unfold execVauxFeedReconnect
  refine .ite (.fault _) ?_
  split <;> exact .next (by simp)

theorem execJobPackageCopied_keeps (s : State) : Keeps s (execJobPackageCopied s) := by
  unfold execJobPackageCopied
  split
  · exact .stay s
  refine .ite (.stay s) ?_
  split
  · exact .next (by simp)
  extract_lets pkg
  split
  · exact .next (by simp)
  next l _ _ s1 s2 c1 rec' s3 _ _ =>
    have h2 : s2.kept = s.kept := by simp [s2, s1]
    have h3 : s3.kept = s2.kept := by
      have h := State.otsSign_kept s2 c1 rec'
      unfold s3
      split
      · split <;> rename_i heq <;> rw [heq] at h <;> simpa using h
      · rfl
    exact .next (by simp [h3, h2])

theorem execDumpBeforeReset_keeps (domain : Fin 8) (unit : BitVec 16) (answers : BitVec 8) (s : State) :
    Keeps s (execDumpBeforeReset domain unit answers s) := by
  have h (r : ResetReq) : Conserves s ((s.takeReq r.domain r.unit).dumpReset r answers) :=
    .after (State.dumpReset_does ..) (State.takeReq_kept ..)
  unfold execDumpBeforeReset
  split
  · exact .stay s
  · exact .ite (.does (h _)) (.does ((h _).before (State.modMod_kept ..)))

theorem execUnitResetStart_keeps (domain : Fin 8) (unit : BitVec 16) (s : State) : Keeps s (execUnitResetStart domain unit s) := by
  unfold execUnitResetStart
  split
  · exact .stay s
  · exact .ite (.does (.after (State.startReset_does ..) (by simp))) (.stay s)

theorem execDumpAbandoned_keeps (domain : Fin 8) (unit : BitVec 16) (s : State) : Keeps s (execDumpAbandoned domain unit s) := by
  unfold execDumpAbandoned
  split
  · exact .stay s
  · exact .ite (.stay s) (.does (.after (State.startReset_does ..) (by simp)))
  · exact .ite (.next (by simp)) (.does (.after (State.startReset_does ..) (by simp)))

/-- `State.sleeps` runs over the cores a package starts; the proof keeps it closed. -/
theorem execJobLoadDone_keeps (s : State) : Keeps s (execJobLoadDone s) := by
  unfold execJobLoadDone
  extract_lets p s1 s2 start s3
  have h1 : s1.kept = s.kept := State.wakeFor_kept ..
  have h2 : Conserves s s2 := .after (State.loadJob_does ..) h1
  have h3 : s3.kept = s2.kept := State.modJob_kept ..
  refine .ite (.stay s) ?_
  clear_value s1 s2 s3 start
  generalize s1.sleeps p = asleep
  cases asleep
  · exact .does (h2.before (by simp [h3]))
  · exact .next h1

theorem execVauxLoss_keeps (mvA mvB : Nat) (s : State) : Keeps s (execVauxLoss mvA mvB s) := by
  unfold execVauxLoss
  have h := kept_foldl State.unwrite s.power.queue.reverse s State.unwrite_kept
  exact .ite (.fault _) (.ite (.stay s) (.does (.after (State.unpowered_does _) (by rw [State.modPower_kept, h]))))

theorem execVauxGood_keeps (mvA mvB : Nat) (s : State) : Keeps s (execVauxGood mvA mvB s) := by
  unfold execVauxGood
  exact .ite (.fault _) (.ite (.stay s) (.next (by simp)))

theorem execPairJoinStandby_keeps (seq : BitVec 8) (s : State) : Keeps s (execPairJoinStandby seq s) := by
  unfold execPairJoinStandby
  exact .ite (.next (by simp)) (.does (.after (State.moduleReset_does ..) (by simp)))

theorem execCkptDueTick_keeps (s : State) : Keeps s (execCkptDueTick s) := by
  unfold execCkptDueTick
  extract_lets s1
  have h : Conserves s (s1.setJobWord 0x7FF010 (s1.jobWord 0x7FF010 + 1)) := .after (State.setJobWord_does ..) (State.reach_kept ..)
  exact .ite (.does (h.before (State.modCkpt_kept ..))) (.stay s)

theorem execCheckpointDone_keeps (ok : Bool) (s : State) : Keeps s (execCheckpointDone ok s) := by
  unfold execCheckpointDone
  split
  · exact .stay s
  extract_lets n head data s1 s2
  have h : Conserves s1 s2 := .before (State.setJobWord_does ..) (State.modCkpt_kept ..)
  have h' : Conserves s s2 := h.after (State.modCkpt_kept ..)
  exact .ite (.stay s) (.ite (.next (by simp)) (.ite (.stay s) (.does (h'.before (by split <;> simp)))))

theorem execUartSelftest_keeps (unit : TestUnit) (report : List Byte) (writes : List (Nat × Byte)) (s : State) :
    Keeps s (execUartSelftest unit report writes s) := by
  unfold execUartSelftest
  exact .ite (.next (by simp)) (.does ((Conserves.foldl (fun s w => State.testByte_does s unit w) writes s).before (by simp)))

theorem execJtagPrivateScan_keeps (dies : List Die) (s : State) : Keeps s (execJtagPrivateScan dies s) := by
  unfold execJtagPrivateScan
  exact .ite (.does ((Conserves.foldl State.stopDie_does dies _).after (by simp))) (.next (by simp))

theorem execDoeEvidence_keeps (b : Bool) (nonce : List Byte) (s : State) : Keeps s (execDoeEvidence b nonce s) := by
  unfold execDoeEvidence
  refine .ite (.next (by simp)) ?_
  extract_lets rec'
  have h := State.otsSign_kept s b rec'
  split <;> rename_i heq <;> rw [heq] at h <;> exact .next (by simpa using h)

theorem execCkptRestoreDone_keeps (a b : List (Nat × Byte)) (ok : Bool) (s : State) : Keeps s (execCkptRestoreDone a b ok s) := by
  unfold execCkptRestoreDone
  extract_lets s1
  refine .ite (.stay s) ?_
  split
  · extract_lets s2
    have h2 : s2.kept = s.kept := by simp [s2, s1]
    have h (m : Mem) (is : List Nat) : Conserves s (s2.putRegions m is).1 := .after (State.putRegions_does ..) h2
    split <;> rename_i heq <;> replace h := heq ▸ h _ _ <;> exact .does (h.before (State.setField_kept ..))
  · exact .next rfl

theorem execStageS2Complete_keeps (planes : BitVec 16) (fibres : BitVec 24) (channels : TrainedChannels) (units : TrainedUnits) (s : State) :
    Keeps s (execStageS2Complete planes fibres channels units s) := by
  unfold execStageS2Complete
  extract_lets cold lost lit ps fs saved ix fall
  refine .ite (.stay s) (.ite (.next (by simp)) ?_)
  split
  · exact .next (by simp)
  extract_lets s1 s2 s3 s4 s5 ms s6 s7 s8
  have h3 : s3.kept = s.kept := by simp [s3, s2, s1, lit]
  have h4 : Conserves s3 s4 := by
    unfold s4
    split
    · exact .of_kept rfl
    · exact ⟨rfl, fun h => ⟨Mem.wf_nil, h.2⟩⟩
  have h5 : Conserves s4 s5 := .foldl (fun s c => State.trainChannel_does s saved cold c) _ _
  have h8 : s8.kept = s5.kept := by simp [s8, s7, s6]
  refine .ite (.next (by simp)) (.does ((((h4.after h3).trans h5).before h8).before ?_))
  split <;> simp

theorem execTimeFlitReceived_keeps (pair : Fin 24) (f : TimeFlit) (ppm : Fin 51) (s : State) :
    Keeps s (execTimeFlitReceived pair f ppm s) := by
  unfold execTimeFlitReceived
  extract_lets h s1
  refine .ite (.next (State.modTime_kept ..)) ?_
  split
  · exact .next (by simp [s1])
  · extract_lets s2 theta s3 s4
    have h2 : s2.kept = s.kept := by simp only [s2, s1, State.modTime_kept]
    have h3 : s3.kept = s.kept := by simp only [s3, h2, State.modTime_kept]
    exact .ite (.next h2) (.ite (.next (by simp only [s4, State.modTime_kept, State.stepTime_kept, h3])) (.next h3))

theorem execModelValidation_keeps (die : Fin 8) (a b c d : Int) (s : State) : Keeps s (execModelValidation die a b c d s) := by
  unfold execModelValidation
  extract_lets s1 t errs worst s2 bad big small s3 s4
  have h3 : s3.kept = s.kept := by simp [s3, s2, s1]
  exact .ite (.next (by simp [h3])) (.ite (.next (by simp [s4, h3])) (.next h3))

/-! Every command, and the step. -/

/-- Every command conserves. A command of one composition of shared operations does because each of them does; one that branches does in
every branch; what is left has a lemma of its own above. -/
theorem exec_keeps (i : Instr) (s : State) : Keeps s (exec i s) := by
  cases i <;> dsimp only [exec]
  -- Scalar instructions (R120 to R124) and the completion of local stores and long operations.
  case add | sub | and | or | xor | shl | shr | sra | slt | sltu | min | max | minu | maxu => exact aluReg_keeps ..
  case clz | popc | li | lih => exact scalarNow_keeps ..
  case addi | subi | andi | ori | xori | shli | shri | srai | slti | sltui | mini | maxi | minui | maxui => exact aluImm_keeps ..
  case mul | mulh | mulhu => exact mulOp_keeps ..
  case div | divu | rem | remu => exact divOp_keeps ..
  case beq | bne | blt | bge | bltu | bgeu | bpany | bpall | bpnone => exact branchOp_keeps ..
  case jal | jr => exact .issue fun s => by simp
  case ld1u | ld2u | ld4u | ld8 | ld1s | ld2s | ld4s => exact loadOp_keeps ..
  case st1 | st2 | st4 | st8 => exact storeOp_keeps ..
  case localStorePerformed | localLongOpComplete =>
    dsimp only [execLocalStorePerformed, execLocalLongOpComplete]
    (repeat' split) <;> exact .next (by simp)
  -- Vector instructions (R125 to R131).
  case vld | vldbf | vldh => exact vloadOp_keeps ..
  case vst | vstbf | vsth => exact vstoreOp_keeps ..
  case vstp | vcmp | vsel | vext | vins | pmovp | topk => exact .issueSeq fun s => by simp
  case vadd | vsub | vmul | vmin | vmax | viadd | visub | viand | vior | vixor | vishl | vishr | visra | vimin | vimax | viminu | vimaxu =>
    exact vec2_keeps ..
  case vfma | vbcast | vidx => exact vecOp_keeps ..
  case vabs | vneg | vcvtfi | vcvtif | vmov => exact vec1_keeps ..
  case vredsum | vredmax | vredmin => exact reduceOp_keeps ..
  case pand | por | pxor | pandn | pnot | pmovx => exact predNow_keeps ..
  case vsfExp | vsfLog | vsfRsqrt | vsfSigmoid | vsfErf => exact sfuOp_keeps ..
  -- Pack and unpack (R132, R133).
  case vpk | vpk24 =>
    dsimp only [execVpk, execVpk24]
    split <;> exact packOp_keeps ..
  case vupk | vupk24 => exact .issueSeq fun s => by simp
  -- The tensor unit (R134 to R137).
  case tmma | tmov => exact .issueSeq fun s => by simp
  case tld | tst | tstbf | tclr => exact transferOp_keeps ..
  case tensorOpStart | tensorOpComplete =>
    dsimp only [execTensorOpStart, execTensorOpComplete]
    (repeat' split) <;> exact .next (by simp)
  -- Remote loads, stores and atomics (R139, R140).
  case rld1u | rld2u | rld4u | rld8 | rld1s | rld2s | rld4s => exact rloadOp_keeps ..
  case rst1 | rst2 | rst4 | rst8 | rst1Db | rst2Db | rst4Db | rst8Db => exact rstoreOp_keeps ..
  case radd4 | radd8 | rfadd | rbfadd | rfmin | rfmax | rmin4 | rmin8 | rmax4 | rmax8 | rminu4 | rminu8 | rmaxu4 | rmaxu8 | rand8 | ror8 | rxor8 =>
    exact atomicOp_keeps ..
  case radd4F | radd8F | rfaddF | rbfaddF | rfminF | rfmaxF | rmin4F | rmin8F | rmax4F | rmax8F | rminu4F | rminu8F | rmaxu4F | rmaxu8F | rand8F |
    ror8F | rxor8F | rswap8F | rcas8F =>
    exact fetchOp_keeps ..
  -- Bulk transfers, waits, counters and system registers (R141 to R158).
  case rput | rget => exact bulkOp_keeps ..
  case rscat | rgath => exact rowsOp_keeps ..
  case fence | yield | ywait | kwait | dbwait | stop | hret => exact .issue fun s => by simp
  case fenceReturn | waitDeadlinePassed | heldRemoteEntersQueue | threadStopRequest | stopAtIssueBoundary =>
    dsimp only [execFenceReturn, execWaitDeadlinePassed, execHeldRemoteEntersQueue, execThreadStopRequest, execStopAtIssueBoundary]
    (repeat' split) <;> exact .next (by simp)
  case dbarm | krd | kset | csrr | csrw => exact .issueSeq fun s => by simp
  case illegalInstruction => exact .ite (.stay s) (.issue fun _ => rfl)
  -- The scratchpad's turns, and nap.
  case correctedLaneWriteback | coreNapEnter | coreNapWakeDone =>
    dsimp only [execCorrectedLaneWriteback, execCoreNapEnter, execCoreNapWakeDone]
    (repeat' split) <;> exact .next (by simp)
  case spadPatrolScrub => exact execSpadPatrolScrub_keeps ..
  case scratchpadBankTurn => exact .next (by simp)
  -- Packets of the remote engines.
  case remotePacketSend =>
    dsimp only [execRemotePacketSend]
    (repeat' split) <;> exact .next (by simp)
  -- Packets and frames as they come and go.
  case packetPlaced | reservedOpPacket | gatewayFrameClose | frameReceived =>
    dsimp only [execPacketPlaced, execReservedOpPacket, execGatewayFrameClose, execFrameReceived]
    (repeat' split) <;> exact .next (by simp)
  case loadPacket | storePacket | atomicPacket | putPacket | getPacket | ackPacket | nackPacket | dataPacket | gdataPacket =>
    exact .does (State.packet_does ..)
  -- The photonic base.
  case laneBeginPacket | landingSlot | linkFlitReceived | extLinkFlitReceived | laneStandbyEnter | laneWake | laneResyncStart | laneResyncResume |
    laneInitTimeout | ringLockLost | pairUnreachable | planeSelftest | selftestFlitReceived =>
    dsimp only [execLaneBeginPacket, execLandingSlot, execLinkFlitReceived, execExtLinkFlitReceived, execLaneStandbyEnter, execLaneWake,
      execLaneResyncStart, execLaneResyncResume, execLaneInitTimeout, execRingLockLost, execPairUnreachable, execPlaneSelftest,
      execSelftestFlitReceived]
    (repeat' split) <;> exact .next (by simp)
  case linkFlitDue => exact execLinkFlitDue_keeps ..
  case pblRetirePlanes | pblReadmitPlanes | planeEpoch | planeRetired => exact .next (by simp)
  -- Re-sending and bounds.
  case resendIntervalExpired | packetBoundPassed =>
    dsimp only [execResendIntervalExpired, execPacketBoundPassed]
    (repeat' split) <;> exact .next (by simp)
  -- Windows and multicast.
  case windowExpired | multicastPut =>
    dsimp only [execWindowExpired, execMulticastPut]
    (repeat' split) <;> exact .next (by simp)
  -- The memory channels.
  case combineEntryWrite | combineOpenReadDone | refreshCommand =>
    dsimp only [execCombineEntryWrite, execCombineOpenReadDone, execRefreshCommand]
    (repeat' split) <;> exact .next (by simp)
  case channelSlot => exact execChannelSlot_keeps ..
  case memChMarkWrite => exact .next (by simp)
  -- Light and fibres.
  case cartridgeInserted | cartridgeRemoved | cartridgeLatchRelease | cartridgeWarmDone | cartridgeMatchDone | spareSwitchComplete | spareRelocked |
    commissioningRecord | fineLockUpdate | pilotToneCheck | berWindowEnd | linePowerCheck | cartridgeLineFailure | spareProcedureStart |
    recalibrationStart | ringSweepDone | driftDetected | fibrePairForcedRetire =>
    dsimp only [execCartridgeInserted, execCartridgeRemoved, execCartridgeLatchRelease, execCartridgeWarmDone, execCartridgeMatchDone,
      execSpareSwitchComplete, execSpareRelocked, execCommissioningRecord, execFineLockUpdate, execPilotToneCheck, execBerWindowEnd,
      execLinePowerCheck, execCartridgeLineFailure, execSpareProcedureStart, execRecalibrationStart, execRingSweepDone, execDriftDetected,
      execFibrePairForcedRetire]
    (repeat' split) <;> exact .next (by simp)
  case optCbDark | optCbWarm | optCbMatch | spareSwitch | optFibreRetire | optFibreReadmit | fibreSilenceTimeout | cartridgeInternalFault |
    fibrePairEpoch | fibrePairRetired =>
    exact .next (by simp)
  -- Vaults and bonds.
  case vaultCoreTurn | vaultSideTurn | vaultFillInstall | bondFailed | bondGroupRetire | powerBondFailed =>
    dsimp only [execVaultCoreTurn, execVaultSideTurn, execVaultFillInstall, execBondFailed, execBondGroupRetire, execPowerBondFailed]
    (repeat' split) <;> exact .next (by simp)
  case vaultInvalidate | bondSpareSteered => exact .next (by simp)
  -- Clocks, time and feeds.
  case ledgerDailyClose | ledgerDamageUpdate | timeFrame | timeSet | droopStretch | rowSleepRequest | rowWakeRequest | rowWakeDone |
    towerDeepRequest | towerDeepWakeRequest | towerDeepWakeDone | smbalert | pmbusPeriodicRead | unlatchA | unlatchB | refclkRestored =>
    exact .next (by simp)
  case timeFlitSend | followerLockTimeout | stretchWindowEnd | governorEvaluate | freqChangeCheck | freqChangeEpoch | feedTrialStart | feedTrialPass
    | refclkLost | vauxInputBelow10v =>
    dsimp only [execTimeFlitSend, execFollowerLockTimeout, execStretchWindowEnd, execGovernorEvaluate, execFreqChangeCheck, execFreqChangeEpoch,
      execFeedTrialStart, execFeedTrialPass, execRefclkLost, execVauxInputBelow10v]
    (repeat' split) <;> exact .next (by simp)
  case timeFlitReceived => exact execTimeFlitReceived_keeps ..
  case feedSense => exact execFeedSense_keeps ..
  case vauxFeedFail => exact execVauxFeedFail_keeps ..
  case vauxFeedReconnect => exact execVauxFeedReconnect_keeps ..
  -- Resets and hang detectors.
  case lambda24Lost | resetRequest | unitResetComplete | resetEscalate | hangThreadHold | hangStallInPlace | hangRemoteEngine | hangChannelAge |
    hangCreditStall =>
    dsimp only [execLambda24Lost, execResetRequest, execUnitResetComplete, execResetEscalate, execHangThreadHold, execHangStallInPlace,
      execHangRemoteEngine, execHangChannelAge, execHangCreditStall]
    (repeat' split) <;> exact .next (by simp)
  case unitResetStart => exact execUnitResetStart_keeps ..
  case dumpBeforeReset => exact execDumpBeforeReset_keeps ..
  case dumpAbandoned => exact execDumpAbandoned_keeps ..
  case controlChipletLost => exact .next (by simp)
  -- Start, evidence and VAUX.
  case vauxGood => exact execVauxGood_keeps ..
  case vauxLoss => exact execVauxLoss_keeps ..
  case stageS0Complete | stageS1Complete | stageS3Complete | stageFailed | svnMinRise | doeEnableRecord =>
    dsimp only [execStageS0Complete, execStageS1Complete, execStageS3Complete, execStageFailed, execSvnMinRise, execDoeEnableRecord]
    (repeat' split) <;> exact .next (by simp)
  case stageS2Complete => exact execStageS2Complete_keeps ..
  case startGo | doeChain => exact .next (by simp)
  case doeEvidence => exact execDoeEvidence_keeps ..
  -- Heat.
  case bimetalEvaluation => exact .next (by simp)
  case diodeSample | conservativeExit | inletTimeout =>
    dsimp only [execDiodeSample, execConservativeExit, execInletTimeout]
    (repeat' split) <;> exact .next (by simp)
  case modelValidation => exact execModelValidation_keeps ..
  -- The job.
  case jobEnable | jobEnd | expertMoveHome | expertMoveAlt | expertMoveNowhere => exact .next (by simp)
  case jobPackageCopied => exact execJobPackageCopied_keeps ..
  case jobLoadDone => exact execJobLoadDone_keeps ..
  case jobStart | jobEndComplete | expertMoveRun =>
    dsimp only [execJobStart, execJobEndComplete, execExpertMoveRun]
    (repeat' split) <;> exact .next (by simp)
  -- The register space.
  case registerWrite | registerReadClear | regReadLowHalf | regReadHighHalf =>
    dsimp only [execRegisterWrite, execRegisterReadClear, execRegReadLowHalf, execRegReadHighHalf]
    (repeat' split) <;> exact .next (by simp)
  case regAccessNarrow | modIdWrite | hostDoorbellValueLo | hostDoorbellRing | hcmdEnable | hcmdDisable | hcmdTailWrite => exact .next (by simp)
  -- Host ports.
  case cxlMemRead | cxlMemWrite | hostSnoop | hostLinkReset | perstRelease => exact .next (by simp)
  case hostWindowAccess | hostMmioEndpoint | cxlLinkChange =>
    dsimp only [execHostWindowAccess, execHostMmioEndpoint, execCxlLinkChange]
    (repeat' split) <;> exact .next (by simp)
  case hcmdNop | stageQuery => exact .next (State.ringEntry_kept _ _ fun _ => rfl)
  case stageImage => exact .next (State.ringEntry_kept _ _ fun _ => State.stageImage_kept ..)
  case stageAbort => exact .next (State.ringEntry_kept _ _ fun _ => State.stageAbort_kept ..)
  -- The health window.
  case healthSnapshot => exact .next (by simp)
  -- Management ports.
  case elvefFrameError | elvefGetId | elvefSetInlet | elvefPowerOff | i3cRstdaa | i3cEnec | i3cDisec | i3cGetpid | i3cGetbcr | i3cGetdcr |
    i3cGetstatus | i3cSetmwl | i3cGetmwl | i3cSetmrl | i3cGetmrl | uartId | jtagBypass | jtagIdcode | jtagSamplePreload | jtagExtest | jtagClamp |
    jtagHighz =>
    exact .next (by simp)
  case elvefGetHealth | elvefReadReg | elvefWriteReg | elvefPowerOn | fwActivateNextStart | fwActivateLive | fwActivateCancel |
    liveActivationTimeout | elvefReset | elvefServiceLock | elvefServiceUnlock | elvefLogRead | i3cEntdaa | i3cSetdasa | i3cRstact | uartR | uartH |
    uartLog | managementProcessorsRestarted =>
    dsimp only [execElvefGetHealth, execElvefReadReg, execElvefWriteReg, execElvefPowerOn, execFwActivateNextStart, execFwActivateLive,
      execFwActivateCancel, execLiveActivationTimeout, execElvefReset, execElvefServiceLock, execElvefServiceUnlock, execElvefLogRead,
      execI3cEntdaa, execI3cSetdasa, execI3cRstact, execUartR, execUartH, execUartLog, execManagementProcessorsRestarted]
    (repeat' split) <;> exact .next (by simp)
  case uartSelftest => exact execUartSelftest_keeps ..
  case jtagPrivateScan => exact execJtagPrivateScan_keeps ..
  -- The pair.
  case pairLeave | pairSetPreferred | pairClearPreferred | partnerMessageBad => exact .next (by simp)
  case pairJoinActive | pairRelease | heartbeatSend | partnerLinkDown | takebackReady | releaseTimeout =>
    dsimp only [execPairJoinActive, execPairRelease, execHeartbeatSend, execPartnerLinkDown, execTakebackReady, execReleaseTimeout]
    (repeat' split) <;> exact .next (by simp)
  case pairJoinStandby => exact execPairJoinStandby_keeps ..
  case heartbeat | takeover | release => exact .does (State.hear_does ..)
  -- Replay, witness and checkpoints.
  case replaySolo | replayJoin | replayLimit | witnessSample | witnessRecordReady | witnessCompare | witnessLate | checkpointRequest =>
    dsimp only [execReplaySolo, execReplayJoin, execReplayLimit, execWitnessSample, execWitnessRecordReady, execWitnessCompare, execWitnessLate,
      execCheckpointRequest]
    (repeat' split) <;> exact .next (by simp)
  case ckptDueTick => exact execCkptDueTick_keeps ..
  case checkpointDone => exact execCheckpointDone_keeps ..
  case ckptRestore | ckptInvalidate => exact .next (by simp)
  case ckptRestoreDone => exact execCkptRestoreDone_keeps ..
  -- Counters, records and Babbitt.
  case pmcOverflow | pmcSample | dumpRecordComplete | dmpEnable | dmpDisable | babbittProgressRecord | spadScrubPassStart | mramWearMove =>
    dsimp only [execPmcOverflow, execPmcSample, execDumpRecordComplete, execDmpEnable, execDmpDisable, execBabbittProgressRecord,
      execSpadScrubPassStart, execMramWearMove]
    (repeat' split) <;> exact .next (by simp)
  case dumpBoundary => exact .next (by simp)

theorem step_of_empty {s : State} (h : s.pending = []) : step s = .next s.idle := by
  simp [step, h]

theorem step_of_front {s : State} {i : Instr} {rest : List Instr} (h : s.pending = i :: rest) :
    step s = exec i { s with pending := rest } := by
  simp [step, h]

/-- A step conserves what the state without the command at its front holds. -/
theorem step_conserves {s t : State} (h : step s = .next t) : Conserves { s with pending := s.pending.tail } t := by
  cases hq : s.pending with
  | nil =>
    rw [step_of_empty hq, Host.Outcome.next.injEq] at h
    subst h
    refine .of_kept ?_
    rw [State.idle_kept]
    simp [State.kept, hq]
  | cons i rest =>
    have hk := exec_keeps i { s with pending := rest }
    rw [← step_of_front hq, h] at hk
    cases hk with
    | does hk => exact hk

/-- Settles O59: a step conserves the state without the command at its front, by cases of the command. -/
theorem stepKeepsMemory : Obligations.StepKeepsMemory := by
  unfold Obligations.StepKeepsMemory
  intro s t hl hc h
  obtain ⟨hfixed, hmems⟩ := step_conserves h
  simp only [State.kept, Prod.mk.injEq] at hfixed
  obtain ⟨hpending, hpart, hserial, hstepping⟩ := hfixed
  obtain ⟨hl', hc'⟩ := hmems ⟨hl, hc⟩
  exact ⟨hl', hc', hpending, hpart, hserial, hstepping⟩

end Sys2Proof.Machine
end

section
/-!
The module register space: the frame of each operation on it, then O46 clause by clause.
-/
namespace Sys2Proof.Machine
open Sys2Proof

/-! Fields of words. -/

theorem getLsbD_bitsMask (hi lo i : Nat) (hh : hi < 64) :
    (bitsMask hi lo).getLsbD i = (decide (lo ≤ i) && decide (i ≤ hi)) := by
  simp only [bitsMask, BitVec.getLsbD_ofNat, Nat.testBit_mul_two_pow, Nat.testBit_two_pow_sub_one]
  by_cases hl : lo ≤ i <;> by_cases hi' : i ≤ hi <;> simp [hl, hi'] <;> omega

/-- A field of a word by its bits. -/
theorem testBit_field (w : Word) (hi lo j : Nat) :
    (w.field hi lo).testBit j = (decide (j < hi + 1 - lo) && w.getLsbD (lo + j)) := by
  rw [Word.field, Nat.testBit_mod_two_pow, Nat.testBit_div_two_pow, BitVec.getLsbD, Nat.add_comm j lo]

theorem field_putField (w : Word) (hi lo v : Nat) (hh : hi < 64) :
    (putField w hi lo v).field hi lo = v % 2 ^ (hi + 1 - lo) := by
  apply Nat.eq_of_testBit_eq
  intro j
  rw [testBit_field, Nat.testBit_mod_two_pow]
  by_cases hj : j < hi + 1 - lo
  · have hm : (bitsMask hi lo).getLsbD (lo + j) = true := by rw [getLsbD_bitsMask hi lo _ hh]; simp; omega
    have h64 : lo + j < 64 := by omega
    have hj64 : j < 64 := by omega
    rw [putField, BitVec.getLsbD_or, BitVec.getLsbD_and, BitVec.getLsbD_not, hm, BitVec.getLsbD_shiftLeft, BitVec.getLsbD_ofNat,
      Nat.testBit_mod_two_pow]
    simp [hj, h64, hj64]
  · simp [hj]

/-! What each operation leaves of the registers, the latches and the answers. -/

@[simp] theorem State.reg_setLatch (s : State) (p : Port) (off : Nat) (v : Option (Nat × Lane)) (o : Nat) :
    (s.setLatch p off v).reg o = s.reg o := rfl

@[simp] theorem State.reg_answer (s : State) (p : Port) (v : Word) (o : Nat) : (s.answer p v).reg o = s.reg o := rfl

@[simp] theorem State.regs_endLatch (s : State) (p : Port) (off : Nat) : (s.endLatch p off).regs = s.regs := by
  unfold State.endLatch
  split
  · split <;> rfl
  · rfl

@[simp] theorem State.reg_endLatch (s : State) (p : Port) (off o : Nat) : (s.endLatch p off).reg o = s.reg o := by
  simp only [State.reg, State.regs_endLatch]

@[simp] theorem State.reg_mramWrite (s : State) (i : MramItem) (l : List Nat) (o : Nat) : (s.mramWrite i l).reg o = s.reg o := by
  unfold State.mramWrite
  split
  · rfl
  · split <;> rfl

@[simp] theorem State.answers_answer (s : State) (p : Port) (v : Word) :
    (s.answer p v).mod.ports.answers.get none (Port.path p) = some v := by
  show (s.mod.ports.answers.set none (Port.path p) (some v)).get none (Port.path p) = some v
  rw [Tab.get_set, if_pos rfl]

@[simp] theorem State.latchOf_answer (s : State) (p q : Port) (v : Word) (off : Nat) :
    (s.answer p v).latchOf q off = s.latchOf q off := rfl

@[simp] theorem State.latchOf_setLatch (s : State) (p : Port) (off : Nat) (v : Option (Nat × Lane)) :
    (s.setLatch p off v).latchOf p off = v := by
  show (s.mod.ports.latches.set none (Port.latchKey p off) v).get none (Port.latchKey p off) = v
  rw [Tab.get_set, if_pos rfl]

@[simp] theorem State.latchOf_setReg (s : State) (off o : Nat) (v : Word) (p : Port) :
    (s.setReg off v).latchOf p o = s.latchOf p o := rfl

theorem State.reg_setField_of_ne (s : State) (off hi lo v : Nat) {o : Nat} (ho : o ≠ off) : (s.setField off hi lo v).reg o = s.reg o := by
  rw [State.setField, State.reg_setReg, if_neg ho]

theorem State.field_setField (s : State) (off hi lo v : Nat) (hh : hi < 64) :
    (s.setField off hi lo v).field off hi lo = v % 2 ^ (hi + 1 - lo) := by
  rw [State.setField, State.field, State.reg_setReg, if_pos rfl, field_putField _ _ _ _ hh]

theorem State.reg_count_of_ne (s : State) (off hi lo n : Nat) {o : Nat} (ho : o ≠ off) : (s.count off hi lo n).reg o = s.reg o :=
  State.reg_setField_of_ne s off hi lo _ ho

theorem State.field_count (s : State) (off hi lo n : Nat) (hh : hi < 64) :
    (s.count off hi lo n).field off hi lo = min (s.field off hi lo + n) (2 ^ (hi + 1 - lo) - 1) := by
  rw [State.count, State.field_setField s off hi lo _ hh, Nat.mod_eq_of_lt]
  have hpos : 0 < 2 ^ (hi + 1 - lo) := Nat.two_pow_pos _
  omega

/-! The RC fields of a read (R20). -/

theorem State.reg_clearRc (s : State) {off : Nat} (sel : Field → Bool) {r : Reg} (hr : Reg.at? off = some r) :
    (s.clearRc off sel).reg off = s.reg off &&& ~~~ r.mask fun f => decide (f.acc = .rc) && sel f := by
  simp only [State.clearRc, hr, State.reg_setReg, if_pos]

theorem State.reg_clearRc_of_ne (s : State) (off : Nat) (sel : Field → Bool) {o : Nat} (ho : o ≠ off) :
    (s.clearRc off sel).reg o = s.reg o := by
  unfold State.clearRc
  split
  · rfl
  · rw [State.reg_setReg, if_neg ho]

theorem State.latchOf_clearRc (s : State) (off : Nat) (sel : Field → Bool) (p : Port) (o : Nat) :
    (s.clearRc off sel).latchOf p o = s.latchOf p o := by
  unfold State.clearRc
  split
  · rfl
  · rfl

/-- The clearing a read does, where a read may change the register. -/
def State.clearRead (s : State) (off : Nat) (sel : Field → Bool) : State := if s.readable off then s.clearRc off sel else s

theorem State.reg_clearRead (s : State) {off : Nat} (sel : Field → Bool) {r : Reg} (hr : Reg.at? off = some r) (hs : s.readable off = true) :
    (s.clearRead off sel).reg off = s.reg off &&& ~~~ r.mask fun f => decide (f.acc = .rc) && sel f := by
  rw [State.clearRead, if_pos hs, State.reg_clearRc s sel hr]

theorem State.reg_clearRead_of_ne (s : State) (off : Nat) (sel : Field → Bool) {o : Nat} (ho : o ≠ off) :
    (s.clearRead off sel).reg o = s.reg o := by
  unfold State.clearRead
  split
  · exact State.reg_clearRc_of_ne s off sel ho
  · rfl

theorem State.latchOf_clearRead (s : State) (off : Nat) (sel : Field → Bool) (p : Port) (o : Nat) :
    (s.clearRead off sel).latchOf p o = s.latchOf p o := by
  unfold State.clearRead
  split
  · exact State.latchOf_clearRc s off sel p o
  · rfl

theorem State.readFull_eq (s : State) (p : Port) (off : Nat) :
    s.readFull p off = ((s.clearRead off fun _ => true).endLatch p off, s.readWord p off) := rfl

theorem State.readLow_eq (s : State) (p : Port) (off : Nat) :
    s.readLow p off = ((s.clearRead off fun f => decide (f.hi < 32)).setLatch p off (some (off, (s.readWord p off).extractLsb' 32 32)),
      (s.readWord p off).extractLsb' 0 32) := rfl

/-- A read of a high half that its path has latched returns the latched half, ends the latch and touches no other register (R19). -/
theorem State.readHigh_latched (s : State) (p : Port) (off : Nat) (v : Lane) (h : s.latchOf p off = some (off, v)) :
    (s.readHigh p off).2 = v ∧ (s.readHigh p off).1.latchOf p off = none ∧ ∀ o, o ≠ off → (s.readHigh p off).1.reg o = s.reg o := by
  simp only [State.readHigh, h, if_pos]
  split
  · simp
  · split
    · simp
    · refine ⟨rfl, ?_, fun o ho => ?_⟩
      · rw [State.latchOf_setReg, State.latchOf_setLatch]
      · rw [State.reg_setReg, if_neg ho, State.reg_setLatch]

/-- A read of a high half that its path has not latched returns the live half and clears the RC fields of that half (R19). -/
theorem State.readHigh_live (s : State) (p : Port) (off : Nat) (h : ∀ v, s.latchOf p off ≠ some (off, v)) :
    s.readHigh p off = (s.clearRead off fun f => decide (32 ≤ f.lo), (s.readWord p off).extractLsb' 32 32) := by
  unfold State.readHigh
  cases hl : s.latchOf p off with
  | none => rfl
  | some q =>
    obtain ⟨o, v⟩ := q
    have ho : o ≠ off := by
      rintro rfl
      exact h v hl
    simp only [if_neg ho]
    rfl

/-! Aligned reads. -/

theorem aligned8_of_mod_eq {off : BitVec 24} (h : off.toNat % 8 = 0) : aligned8 off = true := decide_eq_true h

theorem aligned8_of_mod_ne {off : BitVec 24} (h : off.toNat % 8 ≠ 0) : aligned8 off = false := decide_eq_false h

theorem exec_registerReadClear_aligned (p : Port) {off : BitVec 24} (s : State) (h : off.toNat % 8 = 0) :
    exec (.registerReadClear p off) s =
      .next (((s.clearRead off.toNat fun _ => true).endLatch p off.toNat).answer p (s.readWord p off.toNat)) := by
  dsimp only [exec, execRegisterReadClear]
  rw [if_pos (aligned8_of_mod_eq h), State.readFull_eq]

theorem exec_regReadLowHalf_aligned (p : Port) {off : BitVec 24} (s : State) (h : off.toNat % 8 = 0) :
    exec (.regReadLowHalf p off) s =
      .next (((s.readLow p off.toNat).1).answer p (((s.readWord p off.toNat).extractLsb' 0 32).setWidth 64)) := by
  dsimp only [exec, execRegReadLowHalf]
  rw [if_pos (aligned8_of_mod_eq h), State.readLow_eq]

theorem exec_regReadHighHalf_aligned (p : Port) {off : BitVec 24} (s : State) (h : off.toNat % 8 = 0) :
    exec (.regReadHighHalf p off) s = .next ((s.readHigh p off.toNat).1.answer p ((s.readHigh p off.toNat).2.setWidth 64)) := by
  dsimp only [exec, execRegReadHighHalf]
  rw [if_pos (aligned8_of_mod_eq h)]

/-- A 64-bit read returns the register and clears its RC fields (R19, R20). -/
theorem registerReadClear_returns (p : Port) (off : BitVec 24) (s : State) (h : off.toNat % 8 = 0) :
    ∃ t, exec (.registerReadClear p off) s = .next t ∧
      t.mod.ports.answers.get none (Port.path p) = some (s.readWord p off.toNat) ∧
      (∀ r, Reg.at? off.toNat = some r → s.readable off.toNat = true →
        t.reg off.toNat = s.reg off.toNat &&& ~~~ r.mask fun f => decide (f.acc = .rc)) ∧
      ∀ o, o ≠ off.toNat → t.reg o = s.reg o := by
  refine ⟨_, exec_registerReadClear_aligned p s h, State.answers_answer .., fun r hr hs => ?_, fun o ho => ?_⟩
  · simpa using State.reg_clearRead s (fun _ => true) hr hs
  · simpa using State.reg_clearRead_of_ne s off.toNat (fun _ => true) ho

/-- A read of the low half returns it, latches the high one and clears the RC fields below bit 32 (R19, R20). -/
theorem regReadLowHalf_latches (p : Port) (off : BitVec 24) (s : State) (h : off.toNat % 8 = 0) :
    ∃ t, exec (.regReadLowHalf p off) s = .next t ∧
      t.mod.ports.answers.get none (Port.path p) = some (((s.readWord p off.toNat).extractLsb' 0 32).setWidth 64) ∧
      t.latchOf p off.toNat = some (off.toNat, (s.readWord p off.toNat).extractLsb' 32 32) ∧
      (∀ r, Reg.at? off.toNat = some r → s.readable off.toNat = true →
        t.reg off.toNat = s.reg off.toNat &&& ~~~ r.mask fun f => decide (f.acc = .rc) && decide (f.hi < 32)) ∧
      ∀ o, o ≠ off.toNat → t.reg o = s.reg o := by
  refine ⟨_, exec_regReadLowHalf_aligned p s h, State.answers_answer .., ?_, fun r hr hs => ?_, fun o ho => ?_⟩
  · rw [State.latchOf_answer, State.readLow_eq, State.latchOf_setLatch]
  · rw [State.reg_answer, State.readLow_eq, State.reg_setLatch, State.reg_clearRead s _ hr hs]
  · rw [State.reg_answer, State.readLow_eq, State.reg_setLatch, State.reg_clearRead_of_ne s off.toNat _ ho]

/-- A read of a latched high half returns what the read of the low one latched (R19). -/
theorem regReadHighHalf_latched (p : Port) (off : BitVec 24) (s : State) (h : off.toNat % 8 = 0) (v : Lane)
    (hv : s.latchOf p off.toNat = some (off.toNat, v)) :
    ∃ t, exec (.regReadHighHalf p off) s = .next t ∧ t.mod.ports.answers.get none (Port.path p) = some (v.setWidth 64) ∧
      t.latchOf p off.toNat = none ∧ ∀ o, o ≠ off.toNat → t.reg o = s.reg o := by
  obtain ⟨hval, hlatch, hreg⟩ := State.readHigh_latched s p off.toNat v hv
  refine ⟨_, exec_regReadHighHalf_aligned p s h, ?_, ?_, fun o ho => ?_⟩
  · rw [State.answers_answer, hval]
  · rw [State.latchOf_answer, hlatch]
  · rw [State.reg_answer, hreg o ho]

/-- A read of a high half that is not latched returns the live one (R19). -/
theorem regReadHighHalf_live (p : Port) (off : BitVec 24) (s : State) (h : off.toNat % 8 = 0)
    (hv : ∀ v, s.latchOf p off.toNat ≠ some (off.toNat, v)) :
    ∃ t, exec (.regReadHighHalf p off) s = .next t ∧ t.latchOf p off.toNat = s.latchOf p off.toNat ∧
      t.mod.ports.answers.get none (Port.path p) = some (((s.readWord p off.toNat).extractLsb' 32 32).setWidth 64) ∧
      ∀ o, o ≠ off.toNat → t.reg o = s.reg o := by
  have hread := State.readHigh_live s p off.toNat hv
  refine ⟨_, exec_regReadHighHalf_aligned p s h, ?_, ?_, fun o ho => ?_⟩
  · rw [State.latchOf_answer, hread, State.latchOf_clearRead]
  · rw [State.answers_answer, hread]
  · rw [State.reg_answer, hread, State.reg_clearRead_of_ne s off.toNat _ ho]

/-! Accesses with no effect but to be counted (R18, R420). -/

/-- A bad access is counted in HW_ACCESS, once more up to its maximum, and no other register changes. -/
theorem State.badAccess_counts (s : State) (p : Port) (read : Bool) :
    (s.badAccess p read).field 0x1000 63 48 = min (s.field 0x1000 63 48 + 1) 65535 ∧
      ∀ o, o ≠ 0x1000 → (s.badAccess p read).reg o = s.reg o := by
  have hreg : ∀ o, (s.badAccess p read).reg o = (s.count 0x1000 63 48 1).reg o := fun o => by cases read <;> rfl
  refine ⟨?_, fun o ho => ?_⟩
  · rw [State.field, hreg]
    exact State.field_count s 0x1000 63 48 1 (by decide)
  · rw [hreg, State.reg_count_of_ne s _ _ _ _ ho]

theorem exec_unaligned_read (p : Port) {off : BitVec 24} (s : State) (h : off.toNat % 8 ≠ 0) :
    ∀ i ∈ ([.registerReadClear p off, .regReadLowHalf p off, .regReadHighHalf p off] : List Instr), exec i s = .next (s.badAccess p true) := by
  have ha := aligned8_of_mod_ne h
  intro i hi
  simp only [List.mem_cons, List.not_mem_nil, or_false] at hi
  rcases hi with rfl | rfl | rfl
  · dsimp only [exec, execRegisterReadClear]
    rw [ha, if_neg Bool.false_ne_true]
  · dsimp only [exec, execRegReadLowHalf]
    rw [ha, if_neg Bool.false_ne_true]
  · dsimp only [exec, execRegReadHighHalf]
    rw [ha, if_neg Bool.false_ne_true]

theorem exec_unaligned_write (p : Port) {off : BitVec 24} (part : Part) (w : Word) (s : State) (h : off.toNat % 8 ≠ 0) :
    exec (.registerWrite p off part w) s = .next (s.badAccess p false) := by
  dsimp only [exec, execRegisterWrite]
  rw [aligned8_of_mod_ne h, if_neg Bool.false_ne_true]

theorem exec_aligned_write (p : Port) {off : BitVec 24} (part : Part) (w : Word) (s : State) (h : off.toNat % 8 = 0) :
    exec (.registerWrite p off part w) s = .next (s.writeReg p off.toNat part w).1 := by
  dsimp only [exec, execRegisterWrite]
  rw [if_pos (aligned8_of_mod_eq h)]

/-! Writes (R18, R393). -/

/-- A host port may write the registers whose Access column names it (R393). -/
theorem State.mayWrite_host (s : State) {p : Port} (hp : Port.isHost p = true) (r : Reg) (off : Nat) : s.mayWrite p r off = r.place.host := by
  cases p with
  | hostA => rfl
  | hostB => rfl
  | management => cases hp
  | window0 => cases hp
  | window1 => cases hp

/-- A write by a host port to a register that is not the host's is DENIED. -/
theorem State.writeReg_denied (s : State) {p : Port} {off : Nat} {part : Part} {w : Word} {r : Reg} (hp : Port.isHost p = true)
    (hlo : 0x1000 ≤ off) (hmsix : off < 0xF000 ∨ 0xF040 ≤ off) (hr : Reg.at? off = some r) (hh : r.place.host = false) :
    (s.writeReg p off part w).1 = (s.endLatch p off).denied := by
  have hm : ¬ (Port.isHost p = true ∧ 0xF000 ≤ off ∧ off < 0xF040) := by omega
  simp only [State.writeReg, if_neg (Nat.not_lt.mpr hlo), if_neg hm, hr, State.mayWrite_host _ hp, hh, Bool.not_false, if_true,
    State.refuseWrite, if_pos hp]

/-- A permitted write to a register outside the cores' blocks goes to the register's own behaviour. -/
theorem State.writeReg_permitted (s : State) {p : Port} {off : Nat} {part : Part} {w : Word} {r : Reg}
    (hlo : 0xF040 ≤ off) (hhi : off < 0x100000) (hr : Reg.at? off = some r) (hmay : (s.endLatch p off).mayWrite p r off = true) :
    s.writeReg p off part w = (s.endLatch p off).apply p r off part (part.place w) := by
  have hlow : ¬ off < 0x1000 := by omega
  have hm : ¬ (Port.isHost p = true ∧ 0xF000 ≤ off ∧ off < 0xF040) := by omega
  have hcore : inCoreBlock off = false := by simp [inCoreBlock, Nat.not_le.mpr hhi]
  have hread : (s.endLatch p off).readable off = true := by simp [State.readable, hcore]
  simp only [State.writeReg, if_neg hlow, if_neg hm, hr, hmay, hread, Bool.not_true, Bool.false_eq_true, if_false]

/-- An access code write to a register with no kept RW field: its RW bits take the value, its W1C bits written as 1 clear. -/
theorem State.reg_writeFields_of_keptFields_nil (s : State) {r : Reg} (off : Nat) {part : Part} (w : Word) (h : keptFields r part = []) (o : Nat) :
    (s.writeFields r off part w).reg o = if o = off then
      ((s.reg off &&& ~~~(r.mask (fun f => decide (f.acc = .rw) && !f.kept) &&& part.mask)) |||
        (w &&& (r.mask (fun f => decide (f.acc = .rw) && !f.kept) &&& part.mask))) &&&
          ~~~(r.mask (fun f => decide (f.acc = .w1c)) &&& part.mask &&& w)
      else s.reg o := by
  simp only [State.writeFields, h, List.foldl_nil, State.reg_setReg]

/-- A 64-bit write covers the whole register (R18). -/
theorem Part.full_covers (old w : Word) : (old &&& ~~~Part.full.mask) ||| (Part.full.place w &&& Part.full.mask) = w := by
  simp only [Part.mask, Part.place, BitVec.not_allOnes, BitVec.and_zero, BitVec.and_allOnes, BitVec.zero_or]

/-- A write of the high half keeps the low half and puts the value's low half above it (R18). -/
theorem Part.high_covers (old w : Word) :
    (old &&& ~~~Part.high.mask) ||| (Part.high.place w &&& Part.high.mask) = (old &&& 0xFFFFFFFF) ||| (w <<< 32) := by
  have hnot : ~~~Part.high.mask = 0xFFFFFFFF := by decide
  have hmask : Part.high.mask = BitVec.allOnes 64 <<< 32 := by decide
  have hplace : Part.high.place w &&& Part.high.mask = w <<< 32 := by
    rw [hmask, Part.place, ← BitVec.shiftLeft_and_distrib, BitVec.and_allOnes]
  calc (old &&& ~~~Part.high.mask) ||| (Part.high.place w &&& Part.high.mask)
    _ = (old &&& ~~~Part.high.mask) ||| (w <<< 32) := congrArg _ hplace
    _ = (old &&& 0xFFFFFFFF) ||| (w <<< 32) := congrArg (fun m => (old &&& m) ||| (w <<< 32)) hnot

/-! JOB_DIGEST0 to JOB_DIGEST3. -/

theorem at?_jobDigest (n : Fin 4) : Reg.at? (0x10840 + 8 * n.val) = some .jobDigest := by
  revert n
  decide +kernel

theorem mask_jobDigest_rw : (Reg.mask .jobDigest fun f => decide (f.acc = .rw) && !f.kept) = BitVec.allOnes 64 := by decide

theorem mask_jobDigest_w1c : (Reg.mask .jobDigest fun f => decide (f.acc = .w1c)) = 0 := by decide

theorem keptFields_jobDigest (part : Part) : keptFields .jobDigest part = [] := rfl

/-- A write of JOB_DIGESTn takes the bits it covers from the value and leaves the others, and every other register, as they are. -/
theorem State.reg_write_jobDigest (s : State) {p : Port} (hp : Port.isHost p = true) (n : Fin 4) (part : Part) (w : Word) (o : Nat) :
    (s.writeReg p (0x10840 + 8 * n.val) part w).1.reg o =
      if o = 0x10840 + 8 * n.val then (s.reg (0x10840 + 8 * n.val) &&& ~~~part.mask) ||| (part.place w &&& part.mask) else s.reg o := by
  rw [State.writeReg_permitted s (by omega) (by omega) (at?_jobDigest n) (State.mayWrite_host _ hp _ _)]
  dsimp only [State.apply]
  rw [State.reg_writeFields_of_keptFields_nil _ _ _ (keptFields_jobDigest part), mask_jobDigest_rw, mask_jobDigest_w1c,
    BitVec.allOnes_and, BitVec.ofNat_eq_ofNat, BitVec.zero_and, BitVec.zero_and, BitVec.not_zero, BitVec.and_allOnes,
    State.reg_endLatch, State.reg_endLatch]

theorem exec_write_jobDigest (p : Port) (n : Fin 4) (part : Part) (w : Word) (s : State) :
    exec (.registerWrite p (BitVec.ofNat 24 (0x10840 + 8 * n.val)) part w) s = .next (s.writeReg p (0x10840 + 8 * n.val) part w).1 := by
  have hoff : (BitVec.ofNat 24 (0x10840 + 8 * n.val)).toNat = 0x10840 + 8 * n.val := by
    rw [BitVec.toNat_ofNat]
    omega
  have h := exec_aligned_write p (off := BitVec.ofNat 24 (0x10840 + 8 * n.val)) part w s (by omega)
  rwa [hoff] at h

/-! MOD_ID.MODULE (R407). -/

theorem at?_modId : Reg.at? 0x10000 = some .modId := by decide +kernel

theorem mayWrite_modId (s : State) {p : Port} (hp : Port.isHost p = false) : s.mayWrite p .modId 0x10000 = true := by
  cases p with
  | hostA => cases hp
  | hostB => cases hp
  | management => rfl
  | window0 => simp [State.mayWrite, Reg.place]
  | window1 => simp [State.mayWrite, Reg.place]

@[simp] theorem State.jobState_endLatch (s : State) (p : Port) (off : Nat) : (s.endLatch p off).jobState = s.jobState := by
  simp only [State.jobState, State.field, State.reg_endLatch]

/-- A write of MOD_ID by a path that may is the register's own: MODULE stands outside IDLE. -/
theorem exec_modIdWrite (p : Port) (m : BitVec 10) (s : State) (hp : Port.isHost p = false) :
    exec (.modIdWrite p m) s = .next ((s.endLatch p 0x10000).writeModId .full (BitVec.ofNat 64 (m.toNat * 2 ^ 54))).1 := by
  dsimp only [exec, execModIdWrite]
  rw [State.writeReg_permitted s (by omega) (by omega) at?_modId (mayWrite_modId _ hp)]
  rfl

/-- An access code write of the whole of MOD_ID writes its one kept field, MODULE, and nothing else. -/
theorem State.writeFields_modId (s : State) (w : Word) :
    s.writeFields .modId 0x10000 .full w = (s.setReg 0x10000 (s.reg 0x10000)).setKept 0x10000 63 54 (w.field 63 54) := by
  have hrw : (Reg.mask .modId fun f => decide (f.acc = .rw) && !f.kept) = 0 := by decide
  have hw1c : (Reg.mask .modId fun f => decide (f.acc = .w1c)) = 0 := by decide
  have hkept : keptFields .modId .full = [⟨63, 54, .rw, 0x0, true⟩] := by decide
  simp only [State.writeFields, hrw, hw1c, hkept, Part.mask, List.foldl_cons, List.foldl_nil, BitVec.ofNat_eq_ofNat, BitVec.zero_and,
    BitVec.and_zero, BitVec.not_zero, BitVec.and_allOnes, BitVec.or_zero, BitVec.not_allOnes, BitVec.zero_or]

theorem field_module (m : BitVec 10) : Word.field (BitVec.ofNat 64 (m.toNat * 2 ^ 54)) 63 54 = m.toNat := by
  have hm := m.isLt
  simp only [Word.field, BitVec.toNat_ofNat]
  omega

theorem State.field_setKept (s : State) (off hi lo v : Nat) (hh : hi < 64) :
    (s.setKept off hi lo v).field off hi lo = v % 2 ^ (hi + 1 - lo) := State.field_setField _ off hi lo v hh

theorem State.reg_setKept_of_ne (s : State) (off hi lo v : Nat) {o : Nat} (ho : o ≠ off) : (s.setKept off hi lo v).reg o = s.reg o := by
  rw [State.setKept, State.reg_setField_of_ne _ _ _ _ _ ho, State.reg_mramWrite]

/-- A write of MODULE in IDLE writes it, and no other register. -/
theorem modIdWrite_idle (p : Port) (m : BitVec 10) (s : State) (hp : Port.isHost p = false) (hidle : s.jobState = 0) :
    ∃ t, exec (.modIdWrite p m) s = .next t ∧ t.field 0x10000 63 54 = m.toNat ∧ ∀ o, o ≠ 0x10000 → t.reg o = s.reg o := by
  have hm := m.isLt
  have hwrite (w : Word) : ((s.endLatch p 0x10000).writeModId .full w).1 = (s.endLatch p 0x10000).writeFields .modId 0x10000 .full w := by
    simp [State.writeModId, Part.hasHigh, hidle]
  refine ⟨_, exec_modIdWrite p m s hp, ?_, fun o ho => ?_⟩
  · rw [hwrite, State.writeFields_modId, field_module, State.field_setKept _ _ _ _ _ (by decide), Nat.mod_eq_of_lt (by omega)]
  · rw [hwrite, State.writeFields_modId, State.reg_setKept_of_ne _ _ _ _ _ ho, State.reg_setReg, if_neg ho, State.reg_endLatch]

/-- Outside IDLE a write of MODULE leaves MOD_ID as it is. -/
theorem modIdWrite_not_idle (p : Port) (m : BitVec 10) (s : State) (hp : Port.isHost p = false) (hbusy : s.jobState ≠ 0) :
    ∃ t, exec (.modIdWrite p m) s = .next t ∧ t.reg 0x10000 = s.reg 0x10000 := by
  refine ⟨_, exec_modIdWrite p m s hp, ?_⟩
  have hdenied (w : Word) : ((s.endLatch p 0x10000).writeModId .full w).1 = (s.endLatch p 0x10000).denied := by
    simp [State.writeModId, Part.hasHigh, hbusy]
  rw [hdenied, State.denied, State.reg_count_of_ne _ _ _ _ _ (by decide), State.reg_endLatch]

/-- Settles O46: each clause is the rule of its command, proved above. -/
theorem registers : Obligations.Registers := by
  unfold Obligations.Registers
  refine ⟨fun p off s h => ?_, fun p off part w s h => ?_, fun p s => ?_, fun p off part w r s hp hlo hmsix h hr hh => ?_,
    fun p n w s hp => ?_, fun p m s hp => ?_⟩
  case refine_1 =>
    exact ⟨registerReadClear_returns p off s h, regReadLowHalf_latches p off s h, regReadHighHalf_latched p off s h,
      regReadHighHalf_live p off s h⟩
  case refine_2 =>
    refine ⟨⟨_, exec_unaligned_write p part w s h, State.badAccess_counts s p false, rfl⟩, fun i hi => ?_⟩
    exact ⟨_, exec_unaligned_read p s h i hi, State.badAccess_counts s p true, State.answers_answer .., rfl⟩
  case refine_3 =>
    exact ⟨⟨s.badAccess p true, rfl, State.answers_answer .., (State.badAccess_counts s p true).1⟩,
      ⟨s.badAccess p false, rfl, rfl, (State.badAccess_counts s p false).1⟩⟩
  case refine_4 =>
    refine ⟨_, exec_aligned_write p part w s h, ?_, fun o ho => ?_⟩
    · calc
        _ = min ((s.endLatch p off.toNat).field 0x1000 47 32 + 1) (2 ^ (47 + 1 - 32) - 1) := by
          rw [State.writeReg_denied s hp hlo hmsix hr hh, State.denied, State.field_count _ _ _ _ _ (by decide)]
        _ = min (s.field 0x1000 47 32 + 1) 65535 := by simp only [State.field, State.reg_endLatch, Nat.reduceAdd, Nat.reduceSub, Nat.reducePow]
    · rw [State.writeReg_denied s hp hlo hmsix hr hh, State.denied, State.reg_count_of_ne _ _ _ _ _ ho, State.reg_endLatch]
  case refine_5 =>
    refine ⟨⟨_, exec_write_jobDigest p n .full w s, ?_, fun o ho => ?_⟩, ⟨_, exec_write_jobDigest p n .high w s, ?_⟩⟩
    · rw [State.reg_write_jobDigest s hp, if_pos rfl, Part.full_covers]
    · rw [State.reg_write_jobDigest s hp, if_neg ho]
    · rw [State.reg_write_jobDigest s hp, if_pos rfl, Part.high_covers]
  case refine_6 => exact ⟨modIdWrite_idle p m s hp, modIdWrite_not_idle p m s hp⟩

end Sys2Proof.Machine
end
